-- ==== Sys2Proof/Word.lean ====
section
/-! DEFINITION. The word types of the two links and the index types of the part's objects
(00_scope.md 2.5, "Indexing of Objects"). -/

namespace Sys2Proof

/-- One character's eight data bits (R1). -/
abbrev Byte := BitVec 8

/-- A two-byte field of a frame, high byte first (R2). -/
abbrev Half := BitVec 16

/-- A four-byte field: a pallet identifier, a time base count, a notice value (R2). -/
abbrev Quad := BitVec 32

/-- A pallet identifier, a nonzero 32-bit value (00_scope.md 2.4). -/
abbrev PalletId := BitVec 32

/-- Probe records 0 to 31. -/
abbrev ProbeIx := Fin 32

/-- Zone records 0 to 7, zone 0 being the dock zone. -/
abbrev ZoneIx := Fin 8

/-- Dock portals 0 to 15. -/
abbrev DockIx := Fin 16

/-- Room portals: index `r` is portal `16 + r`, the room door of zone `r + 1`. -/
abbrev RoomIx := Fin 7

/-- Portals 0 to 22, dock portals first. -/
abbrev PortalIx := Fin 23

/-- Coil records 0 to 15. -/
abbrev CoilIx := Fin 16

/-- Lane records 0 to 47. -/
abbrev LaneIx := Fin 48

/-- Product classes 0 to 7. -/
abbrev ClassIx := Fin 8

/-- Pallet records 0 to 255. -/
abbrev PalletIx := Fin 256

/-- Shuttle records 0 to 3; a shuttle's rail carries its number. -/
abbrev ShuttleIx := Fin 4

/-- Rail positions 0 to 63. -/
abbrev RailPos := Fin 64

/-- Move identifiers 0 to 23. -/
abbrev MoveId := Fin 24

end Sys2Proof
end

