-- ==== Sys2Proof/Syntax.lean ====
section
/-! DEFINITION. The commands of the part: one constructor per row of spec/opcode_table.json.

Three kinds of command reach the part. A frame completes on one of its two link ports (R1, R4). The
management block takes a request (R168). Time passes, a timer runs out, or an internal step named by the
table is taken. The operands of the frame rows are the fields of Table 1-9 at their width on the wire; the
operands of the request rows are the request's fields as R167 lays them out. -/

namespace Sys2Proof

/-- The two link ports (00_scope.md 1.1). -/
inductive Port where
  | trunk
  | field
  deriving DecidableEq, Repr

/-- The header bytes of a received frame that its row does not fix (Table 1-8). -/
structure Header where
  dest : Byte
  src : Byte
  tag : Byte
  deriving DecidableEq, Repr

/-- Who sent a management request, and its correlation tag (R2, R168). -/
structure Sender where
  src : Byte
  tag : Byte
  deriving DecidableEq, Repr

/-- One constructor per row of spec/opcode_table.json, in the table's order. -/
inductive Instr where
  /-- POWER_ON: the power-on reset, with the strap value it reads (R177, 00_scope.md 1.7). -/
  | powerOn (strap : Fin 8)
  /-- FRAME_COMPLETION: a run of characters ends on a port; `damaged` is the mark of R1. -/
  | frameCompletion (port : Port) (bytes : List Byte) (damaged : Bool)
  /-- SAMPLE, kind 0x10, completing on the field port; `extra` is payload beyond the layout (R2). -/
  | sample (h : Header) (channel : Byte) (value : Half) (flags : Byte) (extra : List Byte)
  /-- DOOR_REPORT, kind 0x11. -/
  | doorReport (h : Header) (position : Byte) (truck : Byte) (extra : List Byte)
  /-- PRESSURE, kind 0x12. -/
  | pressure (h : Header) (pressure : Half) (extra : List Byte)
  /-- TAG_READ, kind 0x13. -/
  | tagRead (h : Header) (pallet : PalletId) (cls : Byte) (direction : Byte) (extra : List Byte)
  /-- SHUTTLE_REPORT, kind 0x14. -/
  | shuttleReport (h : Header) (report : Byte) (position : Byte) (loaded : Byte) (extra : List Byte)
  /-- COIL_REPORT, kind 0x15. -/
  | coilReport (h : Header) (temperature : Half) (echo : Byte) (extra : List Byte)
  /-- ACT_COMMAND, kind 0x20, completing on the trunk port. -/
  | actCommand (h : Header) (action : Byte) (argument : Byte) (extra : List Byte)
  /-- LOAD_ENTRY: the configuration fields follow the table code and the index (R167). -/
  | loadEntry (q : Sender) (table : Byte) (index : Byte) (fields : List Byte)
  /-- READ_ENTRY, with the part number of R169. -/
  | readEntry (q : Sender) (table : Byte) (index : Byte) (part : Byte)
  /-- CLEAR_TABLE. -/
  | clearTable (q : Sender) (table : Byte)
  /-- READ_OBJECT: `key` is the index, or the pallet identifier for PALLET (R167). -/
  | readObject (q : Sender) (objType : Byte) (key : Quad) (part : Byte)
  /-- READ_COUNTERS with its clear flag. -/
  | readCounters (q : Sender) (clear : Byte)
  /-- ACTIVATE. -/
  | activate (q : Sender)
  /-- DEACTIVATE. -/
  | deactivate (q : Sender)
  /-- RESTART. -/
  | restart (q : Sender)
  /-- SET_TIME with the new time base count. -/
  | setTime (q : Sender) (count : Quad)
  /-- MOVE_ORDER; a named pallet of 0 stands for none named (R167). -/
  | moveOrder (q : Sender) (reqTag : Half) (source : Byte) (dest : Byte) (pallet : PalletId)
      (repeats : Byte) (priority : Byte)
  /-- CANCEL_MOVE. -/
  | cancelMove (q : Sender) (move : Byte)
  /-- HOME_SHUTTLE. -/
  | homeShuttle (q : Sender) (shuttle : Byte)
  /-- CLEAR_SHUTTLE; position 0xFF is UNKNOWN, deck 0 is empty, the lane is preceded by its presence byte. -/
  | clearShuttle (q : Sender) (shuttle : Byte) (state : Byte) (position : Byte) (deck : PalletId)
      (lanePresent : Byte) (lane : Byte)
  /-- DEFROST_NOW naming a coil (kind 0) or a zone (kind 1) (R167, object choices). -/
  | defrostNow (q : Sender) (kind : Byte) (index : Byte)
  /-- SET_COIL_MASK: the set-mask, then the clear-mask (R106). -/
  | setCoilMask (q : Sender) (setMask : Half) (clearMask : Half)
  /-- QUIET_ENTER. -/
  | quietEnter (q : Sender) (zone : Byte)
  /-- QUIET_EXIT. -/
  | quietExit (q : Sender) (zone : Byte)
  /-- ACK_ALARM: object type by Table 1-10 and its index. -/
  | ackAlarm (q : Sender) (objType : Byte) (key : Quad)
  /-- PALLET_PLACE. -/
  | palletPlace (q : Sender) (pallet : PalletId) (lane : Byte)
  /-- PALLET_REMOVE. -/
  | palletRemove (q : Sender) (pallet : PalletId)
  /-- RELEASE_QUARANTINE. -/
  | releaseQuarantine (q : Sender) (pallet : PalletId)
  /-- END_OF_TRANSMISSION on a port (R8). -/
  | endOfTransmission (port : Port)
  /-- TIME_BASE_TICK: one running second passes (R177). -/
  | timeBaseTick
  /-- EXPOSURE_INTERVAL_EXPIRY (R62). -/
  | exposureIntervalExpiry
  /-- STALENESS_TIMER_EXPIRY of a probe (R55). -/
  | stalenessTimerExpiry (p : ProbeIx)
  /-- ALLOWANCE_TIMER_EXPIRY of a zone (R63). -/
  | allowanceTimerExpiry (z : ZoneIx)
  /-- SEAL_TIMER_EXPIRY of a dock portal (R82). -/
  | sealTimerExpiry (p : DockIx)
  /-- DOOR_TIMER_EXPIRY of a room portal (R90). -/
  | doorTimerExpiry (r : RoomIx)
  /-- HOLD_OPEN_TIMER_EXPIRY of a room portal (R89). -/
  | holdOpenTimerExpiry (r : RoomIx)
  /-- INTERVAL_TIMER_EXPIRY of a coil (R99). -/
  | intervalTimerExpiry (c : CoilIx)
  /-- SPACING_TIMER_EXPIRY of a coil (R102). -/
  | spacingTimerExpiry (c : CoilIx)
  /-- PHASE_TIMER_EXPIRY of a coil (R108 to R111). -/
  | phaseTimerExpiry (c : CoilIx)
  /-- FOLLOW_TIMER_EXPIRY of a coil (R113). -/
  | followTimerExpiry (c : CoilIx)
  /-- REPORT_TIMER_EXPIRY of a coil (R98). -/
  | reportTimerExpiry (c : CoilIx)
  /-- STEP_TIMER_EXPIRY of a shuttle (R141). -/
  | stepTimerExpiry (u : ShuttleIx)
  /-- PARK_TIMER_EXPIRY of a shuttle (R145). -/
  | parkTimerExpiry (u : ShuttleIx)
  /-- HOLD_GRANT at a room portal (R91). -/
  | holdGrant (r : RoomIx)
  /-- WAITING_CLAIM_GRANT at a room portal (R92). -/
  | waitingClaimGrant (r : RoomIx)
  /-- ARMED_TRAVEL_START of a shuttle (R137). -/
  | armedTravelStart (u : ShuttleIx)
  /-- HOMING_ORDER_SENT by a shuttle in HOMING (R142). -/
  | homingOrderSent (u : ShuttleIx)
  /-- PICK_UP_DECISION of the move in slot A of a shuttle (R152). -/
  | pickUpDecision (u : ShuttleIx)
  /-- ASSIGNMENT on the rail of a shuttle (R150). -/
  | assignment (u : ShuttleIx)
  /-- STEP_RETRY of the active move of a shuttle (R156). -/
  | stepRetry (u : ShuttleIx)
  /-- LINE_IDLE on a port after power-on (R1). -/
  | lineIdle (port : Port)
  deriving DecidableEq, Repr

end Sys2Proof
end

