-- ==== Sys2Proof/Decode.lean ====
section
/-! DEFINITION. The command that a word spells by the bits of spec/opcode_table.json: the table gives no row bits,
so no word spells a command. Commands arrive as terms of Instr; the bytes of a frame are read in
Machine/Operands.lean and Machine/Management.lean. -/

namespace Sys2Proof

/-- No row of the table has bits (log entry 29). -/
def decodeTableWord (_nbits _w : Nat) : Option Instr := none

end Sys2Proof
end

