-- ==== Sys2Proof/Config.lean ====
section
/-! DEFINITION. What the part fixes once: the capacities and constants of the manual, and the free values,
which the manual leaves open and nothing here can evaluate. -/

namespace Sys2Proof.Config

/-- Positions of the uplink queue (R9). -/
def uplinkDepth : Nat := 16

/-- Positions of the forwarded share of the field transmit queue (R10). -/
def forwardedDepth : Nat := 16

/-- Positions of the refusal queue (R12). -/
def refusalDepth : Nat := 8

/-- Positions of the reply queue (R168). -/
def replyDepth : Nat := 4

/-- Positions of the notice queue (R162). -/
def noticeDepth : Nat := 32

/-- Records of the move queue (R148). -/
def moveDepth : Nat := 24

/-- The top of every 16-bit event count (R6, R18, R46). -/
def countTop : Nat := 65535

/-- The top of an exposure account (R64, R69). -/
def exposureTop : Nat := 16777215

/-- The top of the frost load (R67). -/
def frostTop : Nat := 65535

/-- The exposure interval in running seconds (R177). -/
def exposureSeconds : Nat := 10

/-- The report timer of a coil in seconds (R98). -/
def reportSeconds : Nat := 60

/-- The cap of the forwarded run (R14). -/
def runTop : Nat := 4

/-- The lower end of the probe range in 1/16 °C (00_scope.md 2.1). -/
def tempLow : Int := -880

/-- The upper end of the probe range in 1/16 °C (00_scope.md 2.1). -/
def tempHigh : Int := 2000

/-- The sample value that means probe fault (00_scope.md 2.1). -/
def faultCode : Int := -32768

/-- The floor of a coil's owed count (R99). -/
def owedFloor : Int := -8

/-- The manager's link address (00_scope.md 1.1). -/
def manager : Byte := 0xFE#8

/-- The broadcast address (Table 1-5). -/
def broadcast : Byte := 0xFF#8

/-- How many times one handling may pass from a completed defrost to the next selection of the same zone.
DEDUCED (safe): every such pass lowers the owed count of a coil or consumes its pending pull-in, and 16 coils
with owed of at most 8 allow at most 144 passes above the start threshold of 1 (log entry 11). -/
def selectionBudget : Nat := 160

/-- How many moves of one rail may end in one handling: each leaves the queue of 24 records (R157).
DEDUCED (safe, log entry 12). -/
def assignmentBudget : Nat := 25

/-- FREE VALUE: whether a deck loaded byte other than 0 and 1 in a SHUTTLE_REPORT says that the deck is
loaded. Table 1-9 gives the byte the values 0 and 1 and R2 does not test it (log entry 5). -/
opaque oddDeckByte : Byte → Bool

/-- FREE VALUE: the distance, in rail positions, of a GO order sent while the shuttle's position is UNKNOWN.
R138 counts the distance from the shuttle's position, and no reachable state asks for it (log entry 6). -/
opaque unknownDistance : RailPos → Nat

/-- FREE VALUE: the position byte of a PICK or PLACE order sent while the shuttle's position is UNKNOWN.
R2 gives the recorded position, and no reachable state asks for it (log entry 6). -/
opaque unknownPositionByte : Byte

/-- FREE VALUE: the argument byte of an ACT_COMMAND that the part itself originates to a room door. Table 1-9
lays the byte out and no rule gives it a value (log entry 9). -/
opaque doorArgument : Byte

end Sys2Proof.Config
end

