-- ==== Sys2Proof/Machine/Records.lean ====
section
/-! DEFINITION. The records of the part's tables, its frames, queues and notices, as plain data: one type per
field that the manual gives names to, one structure per table of the manual. Temperatures are signed counts
(00_scope.md 2.1), counts and remaining times are Nat, a stopped timer is none. -/

namespace Sys2Proof.Machine

/-- A timer: none when stopped, otherwise the remaining time in its unit (R167). -/
abbrev Timer := Option Nat

/-! ## Names of field values -/

/-- The two modes (00_scope.md 1.5). -/
inductive Mode where
  | config
  | active
  deriving DecidableEq, Repr

/-- Direction of a classification entry (Table 2-1). -/
inductive Direction where
  | up
  | down
  deriving DecidableEq, Repr

/-- Forward mode of a classification entry (Table 2-1). -/
inductive ForwardMode where
  | forward
  | suppress
  | onChange
  deriving DecidableEq, Repr

/-- The part-wide unmatched-up policy (R17). -/
inductive UpPolicy where
  | forward
  | drop
  deriving DecidableEq, Repr

/-- The object a classification entry binds (Table 2-2). -/
inductive Bound where
  | probe (i : ProbeIx)
  | door (i : PortalIx)
  | seal (i : DockIx)
  | reader (i : DockIx)
  | shuttle (i : ShuttleIx)
  | coil (i : CoilIx)
  | actuator (i : Byte)
  | none
  deriving DecidableEq, Repr

/-- Actions of an ACT_COMMAND (Table 1-10). -/
inductive Action where
  | doorOpen
  | doorClose
  | sealInflate
  | sealDeflate
  | coilPhase
  | shuttleDirect
  deriving DecidableEq, Repr

/-- Door positions of a DOOR_REPORT (Table 1-10). -/
inductive DoorPos where
  | closed
  | moving
  | opened
  | fault
  deriving DecidableEq, Repr

/-- Reports of a SHUTTLE_REPORT (Table 1-10). -/
inductive Report where
  | arrived
  | picked
  | placed
  | homed
  | fault
  | ready
  | notReady
  deriving DecidableEq, Repr

/-- Orders of a SHUTTLE_ORDER (Table 1-10). -/
inductive Order where
  | go
  | pick
  | place
  | home
  deriving DecidableEq, Repr

/-- Phases that are commanded and echoed (Table 1-10). -/
inductive CmdPhase where
  | cool
  | pumpDown
  | heat
  | drip
  | fanDelay
  deriving DecidableEq, Repr

/-- Coil phases (Tables 3-6 and 6-1). -/
inductive CoilPhase where
  | cool
  | portalWait
  | pumpDown
  | heat
  | drip
  | fanDelay
  deriving DecidableEq, Repr

/-- Which built-in refusal a COMMAND_REFUSED names (Table 1-11). -/
inductive GateReason where
  | sealNotReady
  | defrostHold
  | zoneQuiet
  | crossing
  | doorNotClosed
  | ownedByPart
  | queueFull
  | unknownTarget
  deriving DecidableEq, Repr

/-- Refusal reasons of a MGMT_REPLY (Table 11-2). -/
inductive Reason where
  | badRequest
  | badTable
  | badIndex
  | badValue
  | notPermitted
  | wrongMode
  | liveFieldOnly
  | busy
  | queueFull
  | notFound
  | noRoute
  | notHomed
  | zoneQuiet
  | destAlarm
  | classZone
  | configInvalid
  deriving DecidableEq, Repr

/-- The target of an interlock condition entry, none standing for ANY index (Table 3-4). -/
inductive CondTarget where
  | door (i : Option PortalIx)
  | seal (i : Option DockIx)
  | coil (i : Option CoilIx)
  | shuttle (i : Option ShuttleIx)
  | actuator (i : Option Byte)
  deriving DecidableEq, Repr

/-- Attributes of a ZONE subject (Table 3-5). -/
inductive ZoneAttr where
  | temperature
  | exposure
  | alarmState
  | quiet
  | frostLoad
  deriving DecidableEq, Repr

/-- Attributes of a PORTAL subject (Table 3-5). -/
inductive PortalAttr where
  | state
  | claims
  deriving DecidableEq, Repr

/-- Attributes of a COIL subject (Table 3-5). -/
inductive CoilAttr where
  | phase
  | owed
  deriving DecidableEq, Repr

/-- Subject and attribute of a condition entry (Tables 3-4 and 3-5): only the attributes that Table 3-5 gives
the subject type exist. -/
inductive Subject where
  | zone (i : ZoneIx) (a : ZoneAttr)
  | probeTemperature (i : ProbeIx)
  | portal (i : PortalIx) (a : PortalAttr)
  | coil (i : CoilIx) (a : CoilAttr)
  | shuttleState (i : ShuttleIx)
  | laneOccupancy (i : LaneIx)
  deriving DecidableEq, Repr

/-- Comparisons of a condition entry (Table 3-4). -/
inductive Cmp where
  | eq
  | ne
  | gt
  | ge
  | lt
  | le
  deriving DecidableEq, Repr

/-- What a probe serves (Table 4-1). -/
inductive Binding where
  | zone (z : ZoneIx)
  | coil (c : CoilIx)
  deriving DecidableEq, Repr

/-- Probe states, also the coil probe state of a coil record (Tables 4-1 and 6-1). -/
inductive ProbeState where
  | none
  | valid
  | overRange
  | fault
  | stale
  deriving DecidableEq, Repr

/-- States of a coil's reported reading (Table 6-1, R98). -/
inductive ReportedState where
  | none
  | valid
  | fault
  | stale
  deriving DecidableEq, Repr

/-- Zone status (Table 4-2). -/
inductive ZoneStatus where
  | valid
  | stale
  deriving DecidableEq, Repr

/-- Zone alarm states (Table 4-2). -/
inductive AlarmState where
  | normal
  | warning
  | alarm
  | acknowledged
  deriving DecidableEq, Repr

/-- The defrost allowance window (R63). -/
inductive Window where
  | closed
  | openDefrost
  | openRecovery
  deriving DecidableEq, Repr

/-- Defrost modes (R102). -/
inductive DefrostMode where
  | staggered
  | all
  deriving DecidableEq, Repr

/-- Dock portal states (Table 3-6). -/
inductive DockState where
  | unknown
  | idle
  | inflating
  | sealed
  | openSealed
  | breach
  | openUnsealed
  | deflating
  | fault
  deriving DecidableEq, Repr

/-- Room portal states (Table 3-6). -/
inductive RoomState where
  | unknown
  | fault
  | closed
  | opening
  | opened
  | closing
  deriving DecidableEq, Repr

/-- State of a room portal's defrost hold (Table 5-1). -/
inductive Hold where
  | clear
  | waiting
  | set
  deriving DecidableEq, Repr

/-- Who opened a room door (Table 5-1). -/
inductive OpenedBy where
  | none
  | part
  | outside
  deriving DecidableEq, Repr

/-- The unanswered request of a room portal (Table 5-1). -/
inductive DoorRequest where
  | none
  | opening
  | closing
  deriving DecidableEq, Repr

/-- Pallet locations (Table 7-3). -/
inductive Location where
  | lane (l : LaneIx)
  | deck (u : ShuttleIx)
  | unplaced
  | none
  deriving DecidableEq, Repr

/-- Pallet status (Table 7-4). -/
inductive PalletStatus where
  | dock
  | stored
  | carried
  | held
  | departed
  deriving DecidableEq, Repr

/-- Shuttle states (Table 3-6). -/
inductive ShuttleState where
  | unhomed
  | homing
  | idle
  | travelling
  | lifting
  | lowering
  | parking
  | notReady
  | fault
  deriving DecidableEq, Repr

/-- Causes of a shuttle fault (Table 8-1). -/
inductive FaultReason where
  | timeout
  | reported
  | deckMismatch
  deriving DecidableEq, Repr

/-- Who asked for a travel (8.3): a move, or the shuttle itself. -/
inductive Requester where
  | move (m : MoveId)
  | shuttle
  deriving DecidableEq, Repr

/-- A holder of a claim (R74): a move, or the entry's shuttle itself. -/
inductive Holder where
  | move (m : MoveId)
  | shuttle
  deriving DecidableEq, Repr

/-- The step under way (Table 8-1): an order with its target and its requester. -/
inductive Step where
  | travel (target : RailPos) (by_ : Requester)
  | homing
  | pick (lane : LaneIx) (by_ : MoveId)
  | place (lane : LaneIx) (by_ : MoveId)
  deriving DecidableEq, Repr

/-- Priority of a move (Table 9-1). -/
inductive Priority where
  | normal
  | urgent
  deriving DecidableEq, Repr

/-- Progress of a move (Table 9-1). -/
inductive MoveState where
  | queued
  | staged
  | toSource
  | picking
  | carrying
  | placing
  deriving DecidableEq, Repr

/-- Results of a move (Table 9-3). -/
inductive MoveResult where
  | done
  | partialDone
  | stopped
  | cancelled
  | failed
  deriving DecidableEq, Repr

/-- Reasons of a move's result (Table 9-3). -/
inductive MoveReason where
  | none
  | sourceEmpty
  | notAtHead
  | quarantine
  | destFull
  | zoneQuiet
  | shuttleFault
  deriving DecidableEq, Repr

/-- Notice severities (Table 1-10). -/
inductive Severity where
  | info
  | warning
  | alarm
  deriving DecidableEq, Repr

/-- Notice kinds (Table 10-1), in the order of their codes 1 to 34. -/
inductive NoticeKind where
  | restarted
  | frameUnaddressed
  | probeFault
  | probeStale
  | zoneStale
  | zoneRestored
  | zoneNormal
  | zoneWarning
  | zoneAlarm
  | palletQuarantine
  | portalFault
  | portalUnsealedOpen
  | portalBreach
  | sealLost
  | inflateTimeout
  | deflateTimeout
  | doorTimeout
  | portalClosedOnClaim
  | doorOpenInDefrost
  | tagRejected
  | defrostOverdue
  | defrostMissed
  | defrostStart
  | defrostTimeEnd
  | defrostEnd
  | coilNotFollowing
  | palletTableFull
  | duplicateTag
  | laneFull
  | departureOutOfOrder
  | shuttleFault
  | shuttleReadyChange
  | homed
  | moveResult
  deriving DecidableEq, Repr

/-- The object a notice names (Tables 1-10 and 10-1). -/
inductive NoticeObj where
  | none
  | zone (i : ZoneIx)
  | probe (i : ProbeIx)
  | portal (i : PortalIx)
  | coil (i : CoilIx)
  | lane (i : LaneIx)
  | pallet (i : PalletIx)
  | shuttle (i : ShuttleIx)
  | move (i : MoveId)
  deriving DecidableEq, Repr

/-- The object whose position of the originated share a frame takes (R11, Table 2-4). -/
inductive OrigObj where
  | shuttle (i : ShuttleIx)
  | coil (i : CoilIx)
  | door (r : RoomIx)
  deriving DecidableEq, Repr

/-! ## Frames and queues -/

/-- A link frame (Table 1-8). LEN is the payload's length and the CRC is that of R3, so a frame that passed
checks 1 and 2 of R4 is these fields and nothing else. -/
structure Frame where
  dest : Byte
  src : Byte
  kind : Byte
  tag : Byte
  payload : List Byte
  deriving DecidableEq, Repr

/-- A frame waiting in the forwarded share, with the target the gate recorded for an ACT_COMMAND (R38). -/
structure Forwarded where
  frame : Frame
  target : Option Bound
  deriving DecidableEq, Repr

/-- A frame waiting in the originated share, in its object's position (R11). -/
structure Originated where
  obj : OrigObj
  frame : Frame
  deriving DecidableEq, Repr

/-- A frame of the answer class (R14): a reply of the reply queue (R169) or a refusal of the refusal queue
(R12). The part keeps one list of both, in the order in which they joined. -/
inductive Answer where
  | reply (f : Frame)
  | refusal (f : Frame)
  deriving DecidableEq, Repr

/-- A notice record (R161). -/
structure Notice where
  kind : NoticeKind
  obj : NoticeObj
  value : Quad
  time : Quad
  severity : Severity
  deriving DecidableEq, Repr

/-- The six event counters of a port (R6). -/
structure Counters where
  crc : Nat
  length : Nat
  format : Nat
  misdirected : Nat
  unclassified : Nat
  overflow : Nat
  deriving DecidableEq, Repr

/-! ## Table records -/

/-- The stored payload of a classification entry, with its time and its age (R23). -/
structure Stored where
  payload : List Byte
  time : Quad
  age : Nat
  deriving DecidableEq, Repr

/-- Classification entry (Table 2-1); kind none stands for ANY. -/
structure ClassEntry where
  loaded : Bool
  valid : Bool
  direction : Direction
  node : Byte
  kind : Option Byte
  object : Bound
  forward : ForwardMode
  refresh : Nat
  maxPayload : Nat
  stored : Option Stored
  hits : Nat
  deriving DecidableEq, Repr

/-- Interlock condition entry (Table 3-4); action none stands for ANY. -/
structure Condition where
  loaded : Bool
  enabled : Bool
  action : Option Action
  target : CondTarget
  subject : Subject
  cmp : Cmp
  reference : Int
  reason : Byte
  refusals : Nat
  deriving DecidableEq, Repr

/-- Probe record (Table 4-1). -/
structure Probe where
  loaded : Bool
  binding : Binding
  offset : Int
  shift : Nat
  timeout : Nat
  state : ProbeState
  filtered : Int
  lastSample : Option Quad
  staleTimer : Timer
  deriving DecidableEq, Repr

/-- Zone record (Table 4-2). The kind is not stored: it is DOCK for zone 0 and ROOM for zones 1 to 7. -/
structure Zone where
  loaded : Bool
  inUse : Bool
  limit : Int
  warn : Int
  alarm : Int
  hysteresis : Int
  eWarn : Nat
  eAlarm : Nat
  recovery : Nat
  allowance : Int
  recoveryTime : Nat
  frostThreshold : Nat
  wSealed : Nat
  wBreach : Nat
  wUnsealed : Nat
  wOpen : Nat
  defrostMode : DefrostMode
  pointer : CoilIx
  quiet : Bool
  value : Int
  status : ZoneStatus
  exposure : Nat
  frost : Nat
  alarmState : AlarmState
  window : Window
  allowanceTimer : Timer
  deriving DecidableEq, Repr

/-- A portal's alarm latch: the set of kinds raised and not yet acknowledged (R83). -/
structure Latch where
  breach : Bool
  unsealedOpen : Bool
  fault : Bool
  deriving DecidableEq, Repr

/-- Dock portal record, portals 0 to 15 (Table 5-1). Kind and zone are fixed by the index. -/
structure Dock where
  loaded : Bool
  receiveLane : LaneIx
  dispatchLane : LaneIx
  sealOk : Nat
  sealLow : Nat
  inflateTime : Nat
  deflateTime : Nat
  state : DockState
  position : Option DoorPos
  truck : Option Byte
  pressure : Option Nat
  sealTimer : Timer
  latch : Latch
  deriving DecidableEq, Repr

/-- A claims list entry (R74): one shuttle and the set of its holders. -/
structure Claim where
  shuttle : ShuttleIx
  holders : List Holder
  deriving DecidableEq, Repr

/-- A claim waiting list entry (R74). -/
structure Waiter where
  shuttle : ShuttleIx
  holder : Holder
  deriving DecidableEq, Repr

/-- Room portal record, portals 16 to 22 (Table 5-1). Kind and zone are fixed by the index. -/
structure Room where
  loaded : Bool
  openTime : Nat
  holdOpenTime : Nat
  state : RoomState
  position : Option DoorPos
  truck : Option Byte
  latch : Latch
  claims : List Claim
  waiting : List Waiter
  hold : Hold
  holdForced : Bool
  openedBy : OpenedBy
  request : DoorRequest
  doorTimer : Timer
  holdOpenTimer : Timer
  openDuringHold : Bool
  deriving DecidableEq, Repr

/-- Coil record (Table 6-1). -/
structure Coil where
  loaded : Bool
  zone : ZoneIx
  interval : Nat
  limit : Int
  start : Int
  pumpDown : Nat
  maxHeat : Nat
  terminate : Int
  drip : Nat
  fanTemp : Int
  fanMax : Nat
  minSpacing : Nat
  follow : Nat
  mask : Bool
  owed : Int
  forced : Bool
  pullIn : Bool
  phase : CoilPhase
  group : Bool
  quietStart : Bool
  commanded : CmdPhase
  lastEcho : Option CmdPhase
  notFollowing : Bool
  probeState : ProbeState
  probeValue : Option Int
  reported : ReportedState
  reportedValue : Option Int
  lastEnd : Option Quad
  intervalTimer : Timer
  spacingTimer : Timer
  phaseTimer : Timer
  followTimer : Timer
  reportTimer : Timer
  deriving DecidableEq, Repr

/-- Lane record (Table 7-2); rail none stands for NONE. -/
structure Lane where
  loaded : Bool
  zone : ZoneIx
  rail : Option ShuttleIx
  position : RailPos
  depth : Nat
  quarantine : Bool
  pallets : List PalletId
  reserved : Nat
  deriving DecidableEq, Repr

/-- Product class record (Table 7-1); bit z of the mask stands for zone z. -/
structure ProductClass where
  loaded : Bool
  limit : Int
  budget : Nat
  zones : BitVec 8
  deriving DecidableEq, Repr

/-- Pallet record in use (Table 7-3); a record not in use is none in the pallet table. -/
structure Pallet where
  id : PalletId
  cls : ClassIx
  location : Location
  status : PalletStatus
  quarantine : Bool
  released : Bool
  exposure : Nat
  arrival : Quad
  portal : DockIx
  departure : Option Quad
  deriving DecidableEq, Repr

/-- An armed travel (Table 8-1). -/
structure Armed where
  target : RailPos
  by_ : Requester
  deriving DecidableEq, Repr

/-- Shuttle record (Table 8-1). A room is named by the index of its door; the step timer counts 0.1 s. -/
structure Shuttle where
  loaded : Bool
  dockLow : RailPos
  dockHigh : RailPos
  roomA : Option RoomIx
  roomB : Option RoomIx
  homePos : RailPos
  parkPos : RailPos
  pitch : Nat
  settle : Nat
  handling : Nat
  parkTime : Nat
  state : ShuttleState
  position : Option RailPos
  deck : Option PalletId
  slotA : Option MoveId
  slotB : Option MoveId
  faultReason : Option FaultReason
  step : Option Step
  armed : Option Armed
  readyA : Bool
  readyB : Bool
  stepTimer : Timer
  parkTimer : Timer
  deriving DecidableEq, Repr

/-- Move record (Table 9-1). Its claims held and its wait sub-state are read from the portal lists and the
armed travel, which hold them (R74, R153). `destQuarantine` is the destination's quarantine lane field as the move last
read it: at its order, then at each pick-up decision, and never between (R120, R131). Log entry 45. -/
structure Move where
  id : MoveId
  reqTag : Half
  source : LaneIx
  dest : LaneIx
  named : Option PalletId
  priority : Priority
  remaining : Nat
  doneCount : Nat
  cancelling : Bool
  state : MoveState
  shuttle : Option ShuttleIx
  iteration : Option PalletId
  destQuarantine : Bool
  deriving DecidableEq, Repr

end Sys2Proof.Machine
end

