-- ==== Sys2Proof/Machine/State.lean ====
section
/-! DEFINITION. The machine state as plain data, its faults and refusals, and the state after power-on.

Every record the manual gives the part is a field here; `pending` is the queue of commands waiting, the
model's own. -/

namespace Sys2Proof.Machine

/-- Reasons to stop with a fault. There is none: every command of the part has an effect the manual gives, so
no command ends in a fault (log entry 3). -/
inductive Fault where
  deriving DecidableEq, Repr

/-- Reasons to refuse a command. -/
inductive Refusal where
  /-- Raised by exec's arm of a command that has no meaning yet; no arm raises it now. Safe: the model says
  nothing about the command. -/
  | notModelled (mnemonic : String)
  deriving DecidableEq, Repr

/-- The state of the part. -/
structure State where
  /-- CONFIG or ACTIVE (R177). -/
  mode : Mode
  /-- The strap value read at power-on; the part's address is 0xF0 plus it (00_scope.md 1.7). -/
  strap : Fin 8
  /-- The time base count (R177). -/
  count : Quad
  /-- The exposure interval, in seconds to its next expiry (R177). -/
  exposureTimer : Timer
  /-- The trunk receiver has seen the idle line that power-on waits for (R1). -/
  trunkReady : Bool
  /-- The field receiver has seen it (R1). -/
  fieldReady : Bool
  /-- The trunk port's six counters (R6). -/
  trunkCounters : Counters
  /-- The field port's six counters (R6). -/
  fieldCounters : Counters
  /-- The notice sequence (R2). -/
  sequence : Byte
  /-- The forwarded run of the trunk arbiter (R14). -/
  run : Nat
  /-- The frame in transmission on the trunk port (R8). -/
  trunkTx : Option Frame
  /-- The frame in transmission on the field port (R8). -/
  fieldTx : Option Frame
  /-- The uplink queue (R9). -/
  uplink : List Frame
  /-- The forwarded share of the field transmit queue (R10). -/
  forwarded : List Forwarded
  /-- The originated share, in the order its positions were filled (R11). -/
  originated : List Originated
  /-- The reply queue and the refusal queue together, in joining order (R12, R14, R169). -/
  answers : List Answer
  /-- The notice queue (R162). -/
  notices : List Notice
  /-- The notice unit's lost flag (R163). -/
  lost : Bool
  /-- The unmatched-up policy (R17). -/
  policy : UpPolicy
  classTable : Vector ClassEntry 128
  conditions : Vector Condition 64
  probes : Vector Probe 32
  zones : Vector Zone 8
  docks : Vector Dock 16
  rooms : Vector Room 7
  coils : Vector Coil 16
  classes : Vector ProductClass 8
  lanes : Vector Lane 48
  /-- The pallet table; none is a record not in use (Table 7-3). -/
  pallets : Vector (Option Pallet) 256
  /-- The departed list, oldest departure first (R123). -/
  departed : List PalletIx
  shuttles : Vector Shuttle 4
  /-- The move queue in order of acceptance (9.1). -/
  moves : List Move
  /-- The last issued move identifier (R147). -/
  lastMove : MoveId
  /-- The commands waiting, first in, first out. The model's own field. -/
  pending : List Instr
  deriving DecidableEq, Repr

/-- Every counter 0 (R6). -/
def Counters.reset : Counters :=
  { crc := 0, length := 0, format := 0, misdirected := 0, unclassified := 0, overflow := 0 }

/-- A classification entry after power-on (R16). -/
def ClassEntry.reset : ClassEntry :=
  { loaded := false, valid := false, direction := .up, node := 1#8, kind := some 0#8,
    object := .probe 0, forward := .forward, refresh := 0, maxPayload := 0, stored := none, hits := 0 }

/-- A condition entry after power-on (R43). -/
def Condition.reset : Condition :=
  { loaded := false, enabled := false, action := some .doorOpen, target := .door (some 0),
    subject := .zone 0 .temperature, cmp := .eq, reference := 0, reason := 1#8, refusals := 0 }

/-- A probe record after power-on (R51). -/
def Probe.reset : Probe :=
  { loaded := false, binding := .zone 0, offset := 0, shift := 0, timeout := 10, state := .none,
    filtered := 0, lastSample := none, staleTimer := none }

/-- A zone record after power-on (R58). -/
def Zone.reset : Zone :=
  { loaded := false, inUse := false, limit := 0, warn := 0, alarm := 0, hysteresis := 0, eWarn := 0,
    eAlarm := 0, recovery := 0, allowance := 0, recoveryTime := 0, frostThreshold := 0, wSealed := 0,
    wBreach := 0, wUnsealed := 0, wOpen := 0, defrostMode := .staggered, pointer := 0, quiet := false,
    value := 0, status := .stale, exposure := 0, frost := 0, alarmState := .normal, window := .closed,
    allowanceTimer := none }

/-- An empty alarm latch (R75). -/
def Latch.empty : Latch := { breach := false, unsealedOpen := false, fault := false }

/-- A dock portal record after power-on (R75). -/
def Dock.reset : Dock :=
  { loaded := false, receiveLane := 0, dispatchLane := 0, sealOk := 0, sealLow := 0, inflateTime := 1,
    deflateTime := 1, state := .unknown, position := none, truck := none, pressure := none,
    sealTimer := none, latch := Latch.empty }

/-- A room portal record after power-on (R75). -/
def Room.reset : Room :=
  { loaded := false, openTime := 1, holdOpenTime := 0, state := .unknown, position := none, truck := none,
    latch := Latch.empty, claims := [], waiting := [], hold := .clear, holdForced := false,
    openedBy := .none, request := .none, doorTimer := none, holdOpenTimer := none,
    openDuringHold := false }

/-- A coil record after power-on (R96). -/
def Coil.reset : Coil :=
  { loaded := false, zone := 0, interval := 30, limit := 1, start := 1, pumpDown := 0, maxHeat := 60,
    terminate := 0, drip := 0, fanTemp := 0, fanMax := 0, minSpacing := 0, follow := 1, mask := false,
    owed := 0, forced := false, pullIn := false, phase := .cool, group := false, quietStart := false,
    commanded := .cool, lastEcho := none, notFollowing := false, probeState := .none, probeValue := none,
    reported := .none, reportedValue := none, lastEnd := none, intervalTimer := none,
    spacingTimer := none, phaseTimer := none, followTimer := none, reportTimer := none }

/-- A lane record after power-on (R120). -/
def Lane.reset : Lane :=
  { loaded := false, zone := 0, rail := none, position := 0, depth := 1, quarantine := false,
    pallets := [], reserved := 0 }

/-- A product class after power-on (R119). -/
def ProductClass.reset : ProductClass :=
  { loaded := false, limit := 2000, budget := 16777215, zones := 0#8 }

/-- A shuttle record after power-on (R134). -/
def Shuttle.reset : Shuttle :=
  { loaded := false, dockLow := 0, dockHigh := 0, roomA := none, roomB := none, homePos := 0,
    parkPos := 0, pitch := 0, settle := 0, handling := 0, parkTime := 0, state := .unhomed,
    position := none, deck := none, slotA := none, slotB := none, faultReason := none, step := none,
    armed := none, readyA := false, readyB := false, stepTimer := none, parkTimer := none }

/-- The state after power-on (R177 and the power-on value of every record). The strap value is that of three
low strap pins (log entry 1). -/
def State.reset : State :=
  { mode := .config, strap := 0, count := 0#32, exposureTimer := none, trunkReady := false,
    fieldReady := false, trunkCounters := Counters.reset, fieldCounters := Counters.reset,
    sequence := 0#8, run := 0, trunkTx := none, fieldTx := none, uplink := [], forwarded := [],
    originated := [], answers := [], notices := [], lost := false, policy := .forward,
    classTable := Vector.replicate 128 ClassEntry.reset,
    conditions := Vector.replicate 64 Condition.reset,
    probes := Vector.replicate 32 Probe.reset,
    zones := Vector.replicate 8 Zone.reset,
    docks := Vector.replicate 16 Dock.reset,
    rooms := Vector.replicate 7 Room.reset,
    coils := Vector.replicate 16 Coil.reset,
    classes := Vector.replicate 8 ProductClass.reset,
    lanes := Vector.replicate 48 Lane.reset,
    pallets := Vector.replicate 256 none,
    departed := [],
    shuttles := Vector.replicate 4 Shuttle.reset,
    moves := [], lastMove := 23, pending := [] }

end Sys2Proof.Machine
end

