-- ==== Sys2Proof/Machine/Tables.lean ====
section
/-! DEFINITION. Reading and writing one record of a table, and small list helpers. Every record of the part is
read through `tget` and written through the `modX` operations below. -/

namespace Sys2Proof.Machine

/-- The record at an index. -/
def tget {α : Type} {n : Nat} (v : Vector α n) (i : Fin n) : α := v[i.val]

/-- The table with one record replaced. -/
def tset {α : Type} {n : Nat} (v : Vector α n) (i : Fin n) (x : α) : Vector α n := v.set i.val x i.isLt

/-- The table with one record changed. -/
def tmod {α : Type} {n : Nat} (v : Vector α n) (i : Fin n) (f : α → α) : Vector α n :=
  tset v i (f (tget v i))

/-- The table with every record changed. -/
def tmap {α : Type} {n : Nat} (f : α → α) (v : Vector α n) : Vector α n :=
  ⟨(v.toList.map f).toArray, by simp⟩

/-- The indices of a table, ascending. -/
def indices (n : Nat) : List (Fin n) := List.finRange n

/-- The first index whose record passes a test. -/
def tfind {α : Type} {n : Nat} (p : α → Bool) (v : Vector α n) : Option (Fin n) :=
  (indices n).find? fun i => p (tget v i)

/-- The index as a Fin when it lies in the table. -/
def finOf? (n i : Nat) : Option (Fin n) := if h : i < n then some ⟨i, h⟩ else none

/-- A count that saturates (00_scope.md 2.2). -/
def satAdd (top a b : Nat) : Nat := min top (a + b)

/-- Act on each element in turn, the state passing from one to the next. -/
def forEach {α : Type} (l : List α) (f : α → State → State) (s : State) : State :=
  l.foldl (fun s a => f a s) s

def State.modProbe (s : State) (i : ProbeIx) (f : Probe → Probe) : State :=
  { s with probes := tmod s.probes i f }

def State.modZone (s : State) (i : ZoneIx) (f : Zone → Zone) : State :=
  { s with zones := tmod s.zones i f }

def State.modDock (s : State) (i : DockIx) (f : Dock → Dock) : State :=
  { s with docks := tmod s.docks i f }

def State.modRoom (s : State) (i : RoomIx) (f : Room → Room) : State :=
  { s with rooms := tmod s.rooms i f }

def State.modCoil (s : State) (i : CoilIx) (f : Coil → Coil) : State :=
  { s with coils := tmod s.coils i f }

def State.modLane (s : State) (i : LaneIx) (f : Lane → Lane) : State :=
  { s with lanes := tmod s.lanes i f }

def State.modShuttle (s : State) (i : ShuttleIx) (f : Shuttle → Shuttle) : State :=
  { s with shuttles := tmod s.shuttles i f }

def State.modPallet (s : State) (i : PalletIx) (f : Pallet → Pallet) : State :=
  { s with pallets := tmod s.pallets i (Option.map f) }

def State.modEntry (s : State) (i : Fin 128) (f : ClassEntry → ClassEntry) : State :=
  { s with classTable := tmod s.classTable i f }

def State.modCondition (s : State) (i : Fin 64) (f : Condition → Condition) : State :=
  { s with conditions := tmod s.conditions i f }

def State.probe (s : State) (i : ProbeIx) : Probe := tget s.probes i
def State.zone (s : State) (i : ZoneIx) : Zone := tget s.zones i
def State.dock (s : State) (i : DockIx) : Dock := tget s.docks i
def State.room (s : State) (i : RoomIx) : Room := tget s.rooms i
def State.coil (s : State) (i : CoilIx) : Coil := tget s.coils i
def State.lane (s : State) (i : LaneIx) : Lane := tget s.lanes i
def State.shuttle (s : State) (i : ShuttleIx) : Shuttle := tget s.shuttles i
def State.pallet (s : State) (i : PalletIx) : Option Pallet := tget s.pallets i
def State.entry (s : State) (i : Fin 128) : ClassEntry := tget s.classTable i
def State.condition (s : State) (i : Fin 64) : Condition := tget s.conditions i
def State.cls (s : State) (i : ClassIx) : ProductClass := tget s.classes i

/-- The move record with an identifier, if the queue holds one (9.1). -/
def State.move? (s : State) (m : MoveId) : Option Move := s.moves.find? fun r => r.id == m

/-- The queue with the record of one move changed. -/
def State.modMove (s : State) (m : MoveId) (f : Move → Move) : State :=
  { s with moves := s.moves.map fun r => if r.id == m then f r else r }

/-- The zone behind a room door: portal 16 + z − 1 belongs to zone z (00_scope.md 2.5). -/
def roomZone (r : RoomIx) : ZoneIx := r.succ

/-- The room door of a zone; zone 0 has none. -/
def zoneRoom? (z : ZoneIx) : Option RoomIx := if h : z = 0 then none else some (z.pred h)

/-- The portal index of a dock portal. -/
def dockPortal (p : DockIx) : PortalIx := ⟨p.val, by omega⟩

/-- The portal index of a room portal. -/
def roomPortal (r : RoomIx) : PortalIx := ⟨16 + r.val, by omega⟩

/-- Which record a portal index names: a dock portal below 16, a room portal from 16 on. -/
def portalKind (p : PortalIx) : DockIx ⊕ RoomIx :=
  if h : p.val < 16 then .inl ⟨p.val, h⟩ else .inr ⟨p.val - 16, by omega⟩

end Sys2Proof.Machine
end

