-- ==== Sys2Proof/Machine/Flags.lean ====
section
/-! DEFINITION. The arithmetic of section 4 and the state tables of sections 4 and 5, as functions on values:
clamping and filtering of samples, zone value rounding, the alarm step, the dock portal tables, and the
comparisons of interlock conditions. -/

namespace Sys2Proof.Machine

/-! ## Temperatures (4.2, 4.3, 4.5) -/

/-- The nearer bound of the probe range for a value outside it (R54, R98). -/
def clampTemp (x : Int) : Int := max Config.tempLow (min Config.tempHigh x)

/-- The value lies within −880 to 2000 (R54). -/
def inTempRange (x : Int) : Bool := decide (Config.tempLow ≤ x) && decide (x ≤ Config.tempHigh)

/-- The probe's state admits its filtered value to use (R60). -/
def ProbeState.usable : ProbeState → Bool
  | .valid | .overRange => true
  | .none | .fault | .stale => false

/-- The filter: a restart from NONE, FAULT or STALE takes s; an update adds the quotient of the distance by
2^k rounded toward zero (R56). The arguments are the state before the sample, the filtered value, the
calibrated value and k. -/
def filterStep (before : ProbeState) (filtered c : Int) (k : Nat) : Int :=
  let s := c * 16
  if before.usable then filtered + (s - filtered).tdiv (2 ^ k : Int) else s

/-- A filtered value in 1/16 °C: 8 added, divided by 16, rounded down (R60). -/
def roundTemp (filtered : Int) : Int := (filtered + 8) / 16

/-! ## Exposure (4.8, 4.11) -/

/-- The excess above 0 added to an account, saturating (R64, R69). -/
def addExcess (account : Nat) (excess : Int) : Nat :=
  satAdd Config.exposureTop account excess.toNat

/-- The allowance raises limit, warn and alarm while the window is open (R63). -/
def Zone.raisedBy (z : Zone) : Int :=
  match z.window with
  | .closed => 0
  | .openDefrost | .openRecovery => z.allowance

/-- The zone's account after the exposure step of R64. -/
def exposureStep (z : Zone) : Nat :=
  match z.status with
  | .stale => z.exposure
  | .valid =>
    let excess := z.value - (z.limit + z.raisedBy)
    if 0 < excess then addExcess z.exposure excess else z.exposure - z.recovery

/-! ## The alarm step (4.9) -/

def alarmTest (z : Zone) : Bool :=
  decide (z.alarm + z.raisedBy ≤ z.value) || decide (z.eAlarm ≤ z.exposure)

def warningTest (z : Zone) : Bool :=
  decide (z.warn + z.raisedBy ≤ z.value) || decide (z.eWarn ≤ z.exposure)

def alarmClearTest (z : Zone) : Bool :=
  decide (z.value < z.alarm + z.raisedBy - z.hysteresis) && decide (z.exposure < z.eAlarm)

def warningClearTest (z : Zone) : Bool :=
  decide (z.value < z.warn + z.raisedBy - z.hysteresis) && decide (z.exposure < z.eWarn)

/-- One row of Table 4-4: the state after, and the notice raised if any (R65). -/
def alarmStep (z : Zone) : AlarmState × Option NoticeKind :=
  match z.status with
  | .stale => (z.alarmState, none)
  | .valid =>
    match z.alarmState with
    | .normal =>
      if alarmTest z then (.alarm, some .zoneAlarm)
      else if warningTest z then (.warning, some .zoneWarning)
      else (.normal, none)
    | .warning =>
      if alarmTest z then (.alarm, some .zoneAlarm)
      else if warningClearTest z then (.normal, some .zoneNormal)
      else (.warning, none)
    | .alarm =>
      if warningClearTest z then (.normal, some .zoneNormal)
      else if alarmClearTest z then (.warning, some .zoneWarning)
      else (.alarm, none)
    | .acknowledged =>
      if warningClearTest z then (.normal, some .zoneNormal)
      else if alarmClearTest z then (.warning, some .zoneWarning)
      else (.acknowledged, none)

/-! ## Dock portals (5.3) -/

/-- The last pressure, an absent one counting as 0 (R78). -/
def Dock.pressureOr0 (d : Dock) : Nat := d.pressure.getD 0

/-- The state derived in UNKNOWN or FAULT from a report other than FAULT (R78). -/
def dockDerive (d : Dock) : DoorPos → DockState
  | .closed => if d.sealOk ≤ d.pressureOr0 then .sealed else .idle
  | .opened => if d.sealOk ≤ d.pressureOr0 then .openSealed else .openUnsealed
  | .moving => .unknown
  | .fault => .fault

/-- Table 5-2, column CLOSED. -/
def dockOnClosed : DockState → DockState
  | .openSealed => .sealed
  | .breach => .idle
  | .openUnsealed => .idle
  | st => st

/-- Table 5-2, column OPEN. -/
def dockOnOpen : DockState → DockState
  | .idle => .openUnsealed
  | .inflating => .openUnsealed
  | .deflating => .openUnsealed
  | .sealed => .openSealed
  | st => st

/-- Table 5-3, column "at or above seal_ok". -/
def dockOnSealed (position : Option DoorPos) : DockState → DockState
  | .idle => if position = some .closed then .sealed else .idle
  | .inflating => .sealed
  | .breach => .openSealed
  | .openUnsealed => .openSealed
  | st => st

/-- Table 5-3, column "below seal_low". -/
def dockOnLost : DockState → DockState
  | .sealed => .idle
  | .openSealed => .breach
  | .deflating => .idle
  | st => st

/-- The door stands open: tag reads are admitted (R84). -/
def DockState.isOpen : DockState → Bool
  | .openSealed | .breach | .openUnsealed => true
  | _ => false

/-- The seal timer runs in these two states and stops when the portal leaves either (R82). -/
def DockState.timed : DockState → Bool
  | .inflating | .deflating => true
  | _ => false

/-! ## Comparisons (R46) -/

def Cmp.holds (value reference : Int) : Cmp → Bool
  | .eq => decide (value = reference)
  | .ne => decide (value ≠ reference)
  | .gt => decide (reference < value)
  | .ge => decide (reference ≤ value)
  | .lt => decide (value < reference)
  | .le => decide (value ≤ reference)

/-! ## Phases (Table 6-2) -/

/-- The coil heats or stands before or after heating: PUMP_DOWN, HEAT or DRIP (R35, R110). -/
def CoilPhase.underHold : CoilPhase → Bool
  | .pumpDown | .heat | .drip => true
  | .cool | .portalWait | .fanDelay => false

/-- A step of the shuttle is under way, or its homing or parking waits for doors (R141). -/
def ShuttleState.inStep : ShuttleState → Bool
  | .homing | .travelling | .parking | .lifting | .lowering => true
  | .unhomed | .idle | .notReady | .fault => false

end Sys2Proof.Machine
end

