-- ==== Sys2Proof/Machine/Operands.lean ====
section
/-! DEFINITION. The wire forms: multi-byte fields (R2), the CRC (R3), link frames as bytes (Table 1-8), and the
codes of every named field value (Tables 1-10, 1-11, 3-6, 9-3, 10-1, 11-2 and R167). -/

namespace Sys2Proof.Machine

/-! ## Bytes -/

/-- A byte holding a number; the callers' numbers lie below 256. -/
def byteOf (n : Nat) : Byte := BitVec.ofNat 8 n

/-- Two bytes, high byte first (R2). -/
def be2 (n : Nat) : List Byte := [byteOf (n / 256), byteOf n]

/-- Four bytes, high byte first (R2). -/
def be4 (n : Nat) : List Byte :=
  [byteOf (n / 16777216), byteOf (n / 65536), byteOf (n / 256), byteOf n]

def halfBytes (h : Half) : List Byte := be2 h.toNat
def quadBytes (q : Quad) : List Byte := be4 q.toNat

/-- A signed number in two's complement, one, two or four bytes (R2). -/
def signed1 (x : Int) : List Byte := [BitVec.ofInt 8 x]
def signed2 (x : Int) : List Byte := halfBytes (BitVec.ofInt 16 x)
def signed4 (x : Int) : List Byte := quadBytes (BitVec.ofInt 32 x)

/-- The two bytes as a field, high byte first. -/
def half (a b : Byte) : Half := a ++ b

/-- The four bytes as a field, high byte first. -/
def quad (a b c d : Byte) : Quad := a ++ b ++ c ++ d

/-- A flag as one byte (R167). -/
def flagByte (b : Bool) : Byte := if b then 1#8 else 0#8

/-! ## CRC and frames -/

/-- One bit of the CRC register: the generator is x^16 + x^12 + x^5 + 1 (R3). -/
def crcShift (r : Half) : Half := if r.msb then (r <<< 1) ^^^ 0x1021#16 else r <<< 1

/-- One byte entering the register, most significant bit first (R3). -/
def crcByte (r : Half) (b : Byte) : Half :=
  let r := r ^^^ half b 0#8
  crcShift (crcShift (crcShift (crcShift (crcShift (crcShift (crcShift (crcShift r)))))))

/-- The remainder over a run of bytes, from the register's start value 0xFFFF (R3). -/
def crc (bytes : List Byte) : Half := bytes.foldl crcByte 0xFFFF#16

/-- Offsets 0 to 4 + LEN of a frame (Table 1-8). -/
def Frame.body (f : Frame) : List Byte :=
  f.dest :: f.src :: f.kind :: f.tag :: byteOf f.payload.length :: f.payload

/-- The whole frame as sent, CRC included (Table 1-8, R3). Log entry 23. -/
def Frame.bytes (f : Frame) : List Byte := f.body ++ halfBytes (crc f.body)

/-- The fields of the bytes received, LEN taken from their count: the payload is what stands between the five
header bytes and the two CRC bytes (R1, Table 1-8). Log entry 23. -/
def frameOf? (bytes : List Byte) : Option Frame :=
  match bytes with
  | dest :: src :: kind :: tag :: _ :: rest =>
    some { dest, src, kind, tag, payload := rest.take (rest.length - 2) }
  | _ => none

/-- The LEN byte received (Table 1-8). -/
def lenByte (bytes : List Byte) : Nat := (bytes.getD 4 0#8).toNat

/-- The last two bytes received, as the received CRC (R3). -/
def receivedCrc (bytes : List Byte) : Half :=
  half (bytes.getD (bytes.length - 2) 0#8) (bytes.getD (bytes.length - 1) 0#8)

/-- The remainder computed over the first n − 2 bytes (R3). -/
def computedCrc (bytes : List Byte) : Half := crc (bytes.take (bytes.length - 2))

/-! ## Frame kind codes (Table 1-9) -/

def kindSample : Byte := 0x10#8
def kindDoorReport : Byte := 0x11#8
def kindPressure : Byte := 0x12#8
def kindTagRead : Byte := 0x13#8
def kindShuttleReport : Byte := 0x14#8
def kindCoilReport : Byte := 0x15#8
def kindActCommand : Byte := 0x20#8
def kindShuttleOrder : Byte := 0x21#8
def kindCoilCommand : Byte := 0x22#8
def kindRequest : Byte := 0x30#8
def kindReply : Byte := 0x31#8
def kindNotice : Byte := 0x32#8
def kindRefused : Byte := 0x33#8

/-! ## Codes of named values -/

/-- Position codes of DOOR_REPORT (Table 1-10). -/
def DoorPos.code : DoorPos → Nat
  | .closed => 0
  | .moving => 1
  | .opened => 2
  | .fault => 3

def doorPos? : Nat → Option DoorPos
  | 0 => some .closed
  | 1 => some .moving
  | 2 => some .opened
  | 3 => some .fault
  | _ => none

/-- Direction code of TAG_READ (Table 1-10): true stands for OUT. -/
def outbound? : Nat → Option Bool
  | 0 => some false
  | 1 => some true
  | _ => none

/-- Report codes of SHUTTLE_REPORT (Table 1-10). -/
def report? : Nat → Option Report
  | 0 => some .arrived
  | 1 => some .picked
  | 2 => some .placed
  | 3 => some .homed
  | 4 => some .fault
  | 5 => some .ready
  | 6 => some .notReady
  | _ => none

/-- Action codes of ACT_COMMAND (Table 1-10). -/
def Action.code : Action → Nat
  | .doorOpen => 0
  | .doorClose => 1
  | .sealInflate => 2
  | .sealDeflate => 3
  | .coilPhase => 4
  | .shuttleDirect => 5

def action? : Nat → Option Action
  | 0 => some .doorOpen
  | 1 => some .doorClose
  | 2 => some .sealInflate
  | 3 => some .sealDeflate
  | 4 => some .coilPhase
  | 5 => some .shuttleDirect
  | _ => none

/-- Order codes of SHUTTLE_ORDER (Table 1-10). -/
def Order.code : Order → Nat
  | .go => 0
  | .pick => 1
  | .place => 2
  | .home => 3

/-- Phase codes of COIL_COMMAND and the phase echo (Table 1-10). -/
def CmdPhase.code : CmdPhase → Nat
  | .cool => 0
  | .pumpDown => 1
  | .heat => 2
  | .drip => 3
  | .fanDelay => 4

def cmdPhase? : Nat → Option CmdPhase
  | 0 => some .cool
  | 1 => some .pumpDown
  | 2 => some .heat
  | 3 => some .drip
  | 4 => some .fanDelay
  | _ => none

/-- Coil phase codes (Table 3-6). -/
def CoilPhase.code : CoilPhase → Nat
  | .cool => 0
  | .pumpDown => 1
  | .heat => 2
  | .drip => 3
  | .fanDelay => 4
  | .portalWait => 5

/-- Dock portal state codes (Table 3-6). -/
def DockState.code : DockState → Nat
  | .unknown => 0
  | .idle => 1
  | .inflating => 2
  | .sealed => 3
  | .openSealed => 4
  | .breach => 5
  | .openUnsealed => 6
  | .deflating => 7
  | .fault => 8

/-- Room portal state codes (Table 3-6). -/
def RoomState.code : RoomState → Nat
  | .unknown => 0
  | .fault => 8
  | .closed => 9
  | .opening => 10
  | .opened => 11
  | .closing => 12

/-- Shuttle state codes (Table 3-6). -/
def ShuttleState.code : ShuttleState → Nat
  | .unhomed => 0
  | .homing => 1
  | .idle => 2
  | .travelling => 3
  | .lifting => 4
  | .lowering => 5
  | .parking => 6
  | .notReady => 7
  | .fault => 8

/-- Fault reason codes (Table 8-1). -/
def FaultReason.code : FaultReason → Nat
  | .timeout => 0
  | .reported => 1
  | .deckMismatch => 2

/-- Alarm state codes (Table 3-5), also the position of the name in Table 4-2. -/
def AlarmState.code : AlarmState → Nat
  | .normal => 0
  | .warning => 1
  | .alarm => 2
  | .acknowledged => 3

/-- Built-in refusal reason codes (Table 1-11). -/
def GateReason.code : GateReason → Nat
  | .sealNotReady => 1
  | .defrostHold => 2
  | .zoneQuiet => 3
  | .crossing => 4
  | .doorNotClosed => 5
  | .ownedByPart => 6
  | .queueFull => 7
  | .unknownTarget => 8

/-- Reply reason codes (Table 11-2). -/
def Reason.code : Reason → Nat
  | .badRequest => 1
  | .badTable => 2
  | .badIndex => 3
  | .badValue => 4
  | .notPermitted => 5
  | .wrongMode => 6
  | .liveFieldOnly => 7
  | .busy => 8
  | .queueFull => 9
  | .notFound => 10
  | .noRoute => 11
  | .notHomed => 12
  | .zoneQuiet => 13
  | .destAlarm => 14
  | .classZone => 15
  | .configInvalid => 16

/-- Move result codes (Table 9-3). -/
def MoveResult.code : MoveResult → Nat
  | .done => 0
  | .partialDone => 1
  | .stopped => 2
  | .cancelled => 3
  | .failed => 4

/-- Move reason codes (Table 9-3). -/
def MoveReason.code : MoveReason → Nat
  | .none => 0
  | .sourceEmpty => 1
  | .notAtHead => 2
  | .quarantine => 3
  | .destFull => 4
  | .zoneQuiet => 5
  | .shuttleFault => 6

/-- Severity codes (Table 1-10). -/
def Severity.code : Severity → Nat
  | .info => 0
  | .warning => 1
  | .alarm => 2

/-- Notice kind codes (Table 10-1). -/
def NoticeKind.code : NoticeKind → Nat
  | .restarted => 1
  | .frameUnaddressed => 2
  | .probeFault => 3
  | .probeStale => 4
  | .zoneStale => 5
  | .zoneRestored => 6
  | .zoneNormal => 7
  | .zoneWarning => 8
  | .zoneAlarm => 9
  | .palletQuarantine => 10
  | .portalFault => 11
  | .portalUnsealedOpen => 12
  | .portalBreach => 13
  | .sealLost => 14
  | .inflateTimeout => 15
  | .deflateTimeout => 16
  | .doorTimeout => 17
  | .portalClosedOnClaim => 18
  | .doorOpenInDefrost => 19
  | .tagRejected => 20
  | .defrostOverdue => 21
  | .defrostMissed => 22
  | .defrostStart => 23
  | .defrostTimeEnd => 24
  | .defrostEnd => 25
  | .coilNotFollowing => 26
  | .palletTableFull => 27
  | .duplicateTag => 28
  | .laneFull => 29
  | .departureOutOfOrder => 30
  | .shuttleFault => 31
  | .shuttleReadyChange => 32
  | .homed => 33
  | .moveResult => 34

/-- Object type code and index of a notice (Tables 1-9 and 1-10). -/
def NoticeObj.typeCode : NoticeObj → Nat
  | .none => 0
  | .zone _ => 1
  | .probe _ => 2
  | .portal _ => 3
  | .coil _ => 4
  | .lane _ => 5
  | .pallet _ => 6
  | .shuttle _ => 7
  | .move _ => 8

def NoticeObj.index : NoticeObj → Nat
  | .none => 0
  | .zone i => i.val
  | .probe i => i.val
  | .portal i => i.val
  | .coil i => i.val
  | .lane i => i.val
  | .pallet i => i.val
  | .shuttle i => i.val
  | .move i => i.val

/-- The severity of a notice (Table 10-1); for MOVE_RESULT it follows the result in the value (R157). -/
def NoticeKind.severity (value : Quad) : NoticeKind → Severity
  | .zoneStale | .zoneAlarm | .palletQuarantine | .portalFault | .portalUnsealedOpen | .portalBreach
  | .defrostOverdue | .defrostMissed | .coilNotFollowing | .palletTableFull | .shuttleFault => .alarm
  | .zoneRestored | .zoneNormal | .tagRejected | .defrostStart | .defrostEnd | .duplicateTag
  | .departureOutOfOrder | .shuttleReadyChange | .homed => .info
  | .restarted | .frameUnaddressed | .probeFault | .probeStale | .zoneWarning | .sealLost
  | .inflateTimeout | .deflateTimeout | .doorTimeout | .portalClosedOnClaim | .doorOpenInDefrost
  | .defrostTimeEnd | .laneFull => .warning
  | .moveResult => if value.toNat / 65536 = MoveResult.code .done then .info else .warning

/-- A signed value as the 32 bits of a notice's value field (Table 1-9). -/
def noticeInt (x : Int) : Quad := BitVec.ofInt 32 x

/-- A count as the value of a notice. -/
def noticeNat (n : Nat) : Quad := BitVec.ofNat 32 n

/-- The part's own address: 0xF0 plus the strap value (Table 1-5). -/
def State.address (s : State) : Byte := 0xF0#8 + byteOf s.strap.val

end Sys2Proof.Machine
end

