-- ==== Sys2Proof/Machine/Ops.lean ====
section
/-! DEFINITION. The shared operations of the ports and the notice unit: counters, queues and their joins, the
two transmit arbiters, raising a notice, and originating a frame toward the field. Whatever joins a queue
whose transmitter is idle is chosen at once (R8), so every join ends in `kickTrunk` or `kickField`. -/

namespace Sys2Proof.Machine

/-! ## Counters (R6) -/

/-- Which of a port's six counters an event raises (Table 1-12). -/
inductive CounterName where
  | crc
  | length
  | format
  | misdirected
  | unclassified
  | overflow
  deriving DecidableEq, Repr

def Counters.raise (k : CounterName) (c : Counters) : Counters :=
  match k with
  | .crc => { c with crc := satAdd Config.countTop c.crc 1 }
  | .length => { c with length := satAdd Config.countTop c.length 1 }
  | .format => { c with format := satAdd Config.countTop c.format 1 }
  | .misdirected => { c with misdirected := satAdd Config.countTop c.misdirected 1 }
  | .unclassified => { c with unclassified := satAdd Config.countTop c.unclassified 1 }
  | .overflow => { c with overflow := satAdd Config.countTop c.overflow 1 }

/-- One event counted on a port, saturating at 65535 (R6). -/
def countEvent (p : Port) (k : CounterName) (s : State) : State :=
  match p with
  | .trunk => { s with trunkCounters := s.trunkCounters.raise k }
  | .field => { s with fieldCounters := s.fieldCounters.raise k }

/-! ## The arbiters (R13, R14) -/

def Answer.frame : Answer → Frame
  | .reply f => f
  | .refusal f => f

def Answer.isReply : Answer → Bool
  | .reply _ => true
  | .refusal _ => false

def Answer.isRefusal (a : Answer) : Bool := !a.isReply

def Notice.isAlarm (n : Notice) : Bool := n.severity == .alarm

/-- Two notices have the same key: kind together with object (R161). -/
def Notice.sameKey (n m : Notice) : Bool := n.kind == m.kind && n.obj == m.obj

/-- The NOTICE frame built when a notice leaves its queue (R164, Table 1-9). -/
def noticeFrame (s : State) (n : Notice) : Frame :=
  { dest := Config.manager, src := s.address, kind := kindNotice, tag := s.sequence,
    payload := [byteOf n.kind.code, byteOf n.severity.code, byteOf n.obj.typeCode, byteOf n.obj.index]
      ++ quadBytes n.value ++ quadBytes n.time ++ [flagByte s.lost] }

/-- A notice leaves its queue for the trunk transmitter: it carries the sequence and the lost flag, the
sequence rises by one, the flag is cleared, the run returns to 0 (R2, R14, R164). -/
def sendNotice (n : Notice) (s : State) : State :=
  { s with
    trunkTx := some (noticeFrame s n)
    notices := s.notices.eraseP (fun m => m.sameKey n)
    sequence := s.sequence + 1#8
    lost := false
    run := 0 }

/-- The trunk arbiter takes the head of the uplink queue when one waits, else the oldest WARNING or INFO
notice: steps 4 and 5 of R14. -/
def trunkForwardStep (s : State) : State :=
  match s.uplink with
  | f :: rest => { s with trunkTx := some f, uplink := rest, run := min Config.runTop (s.run + 1) }
  | [] =>
    match s.notices.find? (fun n => !n.isAlarm) with
    | some n => sendNotice n s
    | none => s

/-- One choice of the trunk arbiter, by the five steps of R14 in order. -/
def trunkChoose (s : State) : State :=
  match s.answers with
  | a :: rest => { s with trunkTx := some a.frame, answers := rest, run := 0 }
  | [] =>
    match s.notices.find? Notice.isAlarm with
    | some n => sendNotice n s
    | none =>
      if s.run = Config.runTop then
        match s.notices.find? (fun n => !n.isAlarm) with
        | some n => sendNotice n s
        | none => trunkForwardStep s
      else trunkForwardStep s

/-- A frame has joined a trunk queue: an idle transmitter's arbiter chooses at once (R8). -/
def kickTrunk (s : State) : State :=
  match s.trunkTx with
  | some _ => s
  | none => trunkChoose s

/-- One choice of the field arbiter: the first originated frame, else the head of the forwarded share
(R13). -/
def fieldChoose (s : State) : State :=
  match s.originated with
  | o :: rest => { s with fieldTx := some o.frame, originated := rest }
  | [] =>
    match s.forwarded with
    | f :: rest => { s with fieldTx := some f.frame, forwarded := rest }
    | [] => s

/-- A frame has joined a field queue: an idle transmitter's arbiter chooses at once (R8). -/
def kickField (s : State) : State :=
  match s.fieldTx with
  | some _ => s
  | none => fieldChoose s

/-! ## Joining the queues -/

/-- An upward frame joins the uplink queue, or is dropped and counted when it is full (R9). -/
def uplinkFull (s : State) : Bool := decide (Config.uplinkDepth ≤ s.uplink.length)

def joinUplink (f : Frame) (s : State) : State :=
  if uplinkFull s then countEvent .field .overflow s
  else kickTrunk { s with uplink := s.uplink ++ [f] }

/-- The forwarded share holds 16 frames (R10). -/
def forwardedFull (s : State) : Bool := decide (Config.forwardedDepth ≤ s.forwarded.length)

/-- A frame joins the tail of the forwarded share; the caller has tested for room (R10, R38). -/
def placeForwarded (f : Frame) (target : Option Bound) (s : State) : State :=
  kickField { s with forwarded := s.forwarded ++ [{ frame := f, target := target }] }

/-- A downward frame that is not an admitted ACT_COMMAND joins the forwarded share, or is dropped and counted
on the trunk port when it is full (R10). -/
def joinForwarded (f : Frame) (s : State) : State :=
  if forwardedFull s then countEvent .trunk .overflow s else placeForwarded f none s

def refusalCount (s : State) : Nat := (s.answers.filter Answer.isRefusal).length

def replyCount (s : State) : Nat := (s.answers.filter Answer.isReply).length

/-- A COMMAND_REFUSED joins the refusal queue, or is dropped and counted on the trunk port (R12). -/
def joinRefusal (f : Frame) (s : State) : State :=
  if Config.refusalDepth ≤ refusalCount s then countEvent .trunk .overflow s
  else kickTrunk { s with answers := s.answers ++ [.refusal f] }

/-- A MGMT_REPLY joins the reply queue; R168 tested for room when the request was taken. -/
def joinReply (f : Frame) (s : State) : State :=
  kickTrunk { s with answers := s.answers ++ [.reply f] }

/-! ## Refusals of commands (R49) -/

/-- The COMMAND_REFUSED answering a command, with its action echo, reason and condition index (R49). -/
def refusalFrame (s : State) (cmd : Frame) (reason index : Byte) : Frame :=
  { dest := cmd.src, src := s.address, kind := kindRefused, tag := cmd.tag,
    payload := [cmd.payload.headD 0xFF#8, reason, index] }

/-- Produce the refusal of a command and offer it to the refusal queue (R12, R49). -/
def refuseCommand (cmd : Frame) (reason index : Byte) (s : State) : State :=
  joinRefusal (refusalFrame s cmd reason index) s

/-- A built-in refusal: condition index 0xFF (R49). -/
def refuseBuiltIn (cmd : Frame) (r : GateReason) (s : State) : State :=
  refuseCommand cmd (byteOf r.code) 0xFF#8 s

/-! ## Notices (R161 to R163) -/

/-- Make room in a full notice queue for a notice of the given severity: the oldest INFO gives way to a
WARNING or an ALARM, the oldest WARNING to an ALARM; none when the offered notice is the one dropped (R163). -/
def displaced? (sev : Severity) (q : List Notice) : Option (List Notice) :=
  let info := fun n : Notice => n.severity == .info
  let warning := fun n : Notice => n.severity == .warning
  match sev with
  | .info => none
  | .warning => if q.any info then some (q.eraseP info) else none
  | .alarm =>
    if q.any info then some (q.eraseP info)
    else if q.any warning then some (q.eraseP warning)
    else none

/-- Offer a notice to the queue: coalesced with a pending one of the same key, joining the tail, or decided
by R163 at a full queue (R162). -/
def offerNotice (n : Notice) (s : State) : State :=
  if s.notices.any (fun m => m.sameKey n) then
    { s with notices := s.notices.map fun m => if m.sameKey n then n else m }
  else if s.notices.length < Config.noticeDepth then
    kickTrunk { s with notices := s.notices ++ [n] }
  else
    match displaced? n.severity s.notices with
    | some q => kickTrunk { s with notices := q ++ [n], lost := true }
    | none => { s with lost := true }

/-- A unit raises a notice: the notice unit adds the severity and the time (R161). -/
def raiseNotice (k : NoticeKind) (o : NoticeObj) (value : Quad) (s : State) : State :=
  offerNotice { kind := k, obj := o, value := value, time := s.count, severity := k.severity value } s

/-! ## Originating toward the field (R11, R28) -/

/-- The object an originated frame names, as the classification table binds it (Table 2-4). -/
def OrigObj.bound : OrigObj → Bound
  | .shuttle i => .shuttle i
  | .coil i => .coil i
  | .door r => .door (roomPortal r)

/-- The object a FRAME_UNADDRESSED names (Table 10-1). -/
def OrigObj.noticeObj : OrigObj → NoticeObj
  | .shuttle i => .shuttle i
  | .coil i => .coil i
  | .door r => .portal (roomPortal r)

/-- The entry addresses frames of this kind to this object (R28). -/
def ClassEntry.addresses (kind : Byte) (b : Bound) (e : ClassEntry) : Bool :=
  e.valid && e.direction == .down && (e.kind == none || e.kind == some kind) && e.object == b

/-- The node address of the lowest-numbered addressing entry (R28). -/
def addressOf? (s : State) (kind : Byte) (b : Bound) : Option Byte :=
  (s.classTable.toList.find? (ClassEntry.addresses kind b)).map ClassEntry.node

/-- The frame fills the object's position, or replaces the one waiting there in its place (R11). -/
def fillPosition (o : OrigObj) (f : Frame) (s : State) : State :=
  if s.originated.any (fun p => p.obj == o) then
    { s with originated := s.originated.map fun p => if p.obj == o then { p with frame := f } else p }
  else kickField { s with originated := s.originated ++ [{ obj := o, frame := f }] }

/-- A unit originates a frame: addressed at this moment and placed, or reported FRAME_UNADDRESSED (R28). -/
def originate (o : OrigObj) (kind : Byte) (payload : List Byte) (s : State) : State :=
  match addressOf? s kind o.bound with
  | some node =>
    fillPosition o { dest := node, src := s.address, kind := kind, tag := 0#8, payload := payload } s
  | none => raiseNotice .frameUnaddressed o.noticeObj (noticeNat kind.toNat) s

/-- A room door ACT_COMMAND of the portal unit; its argument byte is a free value (Table 1-9, log entry 9). -/
def originateDoor (r : RoomIx) (a : Action) (s : State) : State :=
  originate (.door r) kindActCommand [byteOf a.code, Config.doorArgument] s

/-- A COIL_COMMAND of the defrost scheduler (Table 1-9). -/
def originateCoil (c : CoilIx) (p : CmdPhase) (s : State) : State :=
  originate (.coil c) kindCoilCommand [byteOf p.code] s

/-- A SHUTTLE_ORDER of the shuttle unit with its position byte (Table 1-9, R2). -/
def originateOrder (u : ShuttleIx) (o : Order) (position : Byte) (s : State) : State :=
  originate (.shuttle u) kindShuttleOrder [byteOf o.code, position] s

/-- The waiting frame is a room door command with the given action (R91). -/
def Originated.isDoor (r : RoomIx) (a : Action) (o : Originated) : Bool :=
  o.obj == .door r && o.frame.payload.head? == some (byteOf a.code)

/-- Remove a door command still waiting in the originated share (R91). -/
def dropOriginatedDoor (r : RoomIx) (a : Action) (s : State) : State :=
  { s with originated := s.originated.filter fun o => !o.isDoor r a }

/-! ## Withdrawal of waiting trunk commands (R42) -/

/-- The waiting frame is an ACT_COMMAND with the given target room portal and action (R42). -/
def Forwarded.isCommand (r : RoomIx) (a : Action) (w : Forwarded) : Bool :=
  w.target == some (.door (roomPortal r)) && w.frame.kind == kindActCommand
    && w.frame.payload.head? == some (byteOf a.code)

/-- Withdraw every matching waiting command, oldest first, each answered by a refusal (R42). -/
def withdrawCommands (r : RoomIx) (a : Action) (reason : GateReason) (s : State) : State :=
  let gone := s.forwarded.filter (Forwarded.isCommand r a)
  forEach gone (fun w s => refuseBuiltIn w.frame reason s)
    { s with forwarded := s.forwarded.filter fun w => !w.isCommand r a }

end Sys2Proof.Machine
end

