-- ==== Sys2Proof/Machine/Travel.lean ====
section
/-! DEFINITION. The rail and the crossing rule (R136), and the sending of shuttle orders: a travel that is
clear to start, an armed travel, and the HOME order of a homing (R137, R138, R142). -/

namespace Sys2Proof.Machine

/-! ## Segments and crossings (R136) -/

/-- The segments of a rail. -/
inductive Segment where
  | dock
  | room (r : RoomIx)
  deriving DecidableEq, Repr

/-- The segment a position lies in; none when it is not on the rail (R136). -/
def Shuttle.segment? (u : Shuttle) (p : RailPos) : Option Segment :=
  if p < u.dockLow then u.roomA.map .room
  else if u.dockHigh < p then u.roomB.map .room
  else some .dock

/-- The zone of a segment (R136). -/
def Segment.zone : Segment → ZoneIx
  | .dock => 0
  | .room r => roomZone r

/-- The position lies in the room A segment. -/
def Shuttle.inRoomA (u : Shuttle) (p : RailPos) : Bool := u.roomA.isSome && decide (p < u.dockLow)

/-- The position lies in the room B segment. -/
def Shuttle.inRoomB (u : Shuttle) (p : RailPos) : Bool := u.roomB.isSome && decide (u.dockHigh < p)

/-- The room doors of a rail, room A first. -/
def Shuttle.doors (u : Shuttle) : List RoomIx := u.roomA.toList ++ u.roomB.toList

/-- The room doors a travel crosses: those of whose segment exactly one end lies, and every room door of the
rail from UNKNOWN (R136). Log entry 17. -/
def Shuttle.crossed (u : Shuttle) (start : Option RailPos) (target : RailPos) : List RoomIx :=
  match start with
  | none => u.doors
  | some p =>
    (if u.inRoomA p != u.inRoomA target then u.roomA.toList else [])
      ++ (if u.inRoomB p != u.inRoomB target then u.roomB.toList else [])

/-- The distance of a travel in rail positions, counted without sign (R138). From UNKNOWN, which no travel of
a reachable state starts at, it is a free value. Log entry 6. -/
def travelDistance (start : Option RailPos) (target : RailPos) : Nat :=
  match start with
  | some p => (p.val - target.val) + (target.val - p.val)
  | none => Config.unknownDistance target

/-! ## Door readiness (R137) -/

/-- The shuttle has an entry in the portal's claims list (R137). -/
def hasEntry (s : State) (r : RoomIx) (u : ShuttleIx) : Bool :=
  (s.room r).claims.any fun c => c.shuttle == u

/-- The door ready flag of the segment behind a room door. -/
def Shuttle.readyAt (u : Shuttle) (r : RoomIx) : Bool :=
  (u.roomA == some r && u.readyA) || (u.roomB == some r && u.readyB)

/-- Set the door ready flag of the segment behind a room door. -/
def Shuttle.setReady (u : Shuttle) (r : RoomIx) (b : Bool) : Shuttle :=
  { u with
    readyA := if u.roomA = some r then b else u.readyA
    readyB := if u.roomB = some r then b else u.readyB }

/-- A travel to a position is clear to start: every crossed door has the shuttle's entry and is ready
(R137). -/
def clearToStart (s : State) (u : ShuttleIx) (target : RailPos) : Bool :=
  let v := s.shuttle u
  (v.crossed v.position target).all fun r => hasEntry s r u && v.readyAt r

/-! ## Orders (R138) -/

/-- The shuttle's state changes, which stops its park timer (R145). -/
def setShuttleState (u : ShuttleIx) (st : ShuttleState) (s : State) : State :=
  s.modShuttle u fun v => { v with state := st, parkTimer := none }

/-- Begin a travel by R138: the GO order, TRAVELLING or PARKING by requester, the step and its timer. -/
def beginTravel (u : ShuttleIx) (target : RailPos) (by_ : Requester) (s : State) : State :=
  let v := s.shuttle u
  let st := match by_ with
    | .move _ => ShuttleState.travelling
    | .shuttle => ShuttleState.parking
  originateOrder u .go (byteOf target.val)
    (s.modShuttle u fun w =>
      { w with
        state := st
        parkTimer := none
        armed := none
        step := some (.travel target by_)
        stepTimer := some (travelDistance v.position target * v.pitch + v.settle) })

/-- The position byte of a PICK or PLACE order: the recorded position (R2), a free value when UNKNOWN.
Log entry 6. -/
def orderPosition (v : Shuttle) : Byte :=
  match v.position with
  | some p => byteOf p.val
  | none => Config.unknownPositionByte

/-- Send a PICK or PLACE with the handling time (R138, Table 8-2). -/
def beginHandling (u : ShuttleIx) (o : Order) (st : ShuttleState) (step : Step) (s : State) : State :=
  let v := s.shuttle u
  originateOrder u o (orderPosition v)
    (s.modShuttle u fun w =>
      { w with
        state := st
        parkTimer := none
        step := some step
        stepTimer := some (v.handling * 10) })

/-- Send the HOME order of a homing (R142, Table 8-2). -/
def beginHoming (u : ShuttleIx) (s : State) : State :=
  let v := s.shuttle u
  originateOrder u .home (byteOf v.homePos.val)
    (s.modShuttle u fun w =>
      { w with
        step := some .homing
        stepTimer := some (64 * v.pitch + v.settle) })

/-- The state of the shuttle lets an armed travel begin: IDLE for a move's travel (R138), PARKING for its
own park travel (R145). -/
def armedMayStart (st : ShuttleState) (by_ : Requester) : Bool :=
  match by_ with
  | .move _ => st == .idle
  | .shuttle => st == .parking

/-- Test an armed travel, and begin it when it is clear to start (R137). -/
def testArmed (u : ShuttleIx) (s : State) : State :=
  match (s.shuttle u).armed with
  | some a =>
    if armedMayStart (s.shuttle u).state a.by_ && clearToStart s u a.target then
      beginTravel u a.target a.by_ s
    else s
  | none => s

/-- A homing whose order has not been sent: it goes out when every crossed door is ready (R142).
Log entry 24. -/
def testHoming (u : ShuttleIx) (s : State) : State :=
  let v := s.shuttle u
  if v.state = .homing ∧ v.step = none ∧ clearToStart s u v.homePos = true then beginHoming u s else s

/-- What waits for doors is tested again at a change of readiness or a grant (R137, R142). -/
def testWaiting (u : ShuttleIx) (s : State) : State := testHoming u (testArmed u s)

end Sys2Proof.Machine
end

