-- ==== Sys2Proof/Machine/Claims.lean ====
section
/-! DEFINITION. The room portal's dealings with its claims list and its door (R86 to R89, R92), as far as they
do not reach the defrost scheduler: telling holders that the door is ready, forming an entry, opening for
claims, granting the waiting list, and the hold-open expiry. -/

namespace Sys2Proof.Machine

/-! ## Readiness (R85, R87, R137) -/

/-- The portal tells the holders of one shuttle's entry that the door is ready (R87). -/
def tellReady (r : RoomIx) (u : ShuttleIx) (s : State) : State :=
  testWaiting u (s.modShuttle u fun v => v.setReady r true)

/-- The portal tells the holders of one shuttle's entry that the door is no longer ready (R137). -/
def tellNotReady (r : RoomIx) (u : ShuttleIx) (s : State) : State :=
  s.modShuttle u fun v => v.setReady r false

/-- The shuttles with an entry in a portal's claims list, in the list's order. -/
def claimShuttles (s : State) (r : RoomIx) : List ShuttleIx := (s.room r).claims.map Claim.shuttle

/-- Every entry's shuttle is told that the door is ready, in the order of the claims list, and sends its order in
that order (R85, R137): the model's order. Log entry 37. -/
def tellAllReady (r : RoomIx) (s : State) : State := forEach (claimShuttles s r) (tellReady r) s

/-- Every entry's shuttle is told that the door is no longer ready, in the order of the claims list (R85). -/
def tellAllNotReady (r : RoomIx) (s : State) : State := forEach (claimShuttles s r) (tellNotReady r) s

/-! ## Requests of the portal to its door -/

/-- Originate a DOOR_OPEN and wait for its answer: the pending request becomes OPEN and the door timer starts
(R87). -/
def askOpen (r : RoomIx) (s : State) : State :=
  (originateDoor r .doorOpen s).modRoom r fun p =>
    { p with request := .opening, doorTimer := some p.openTime }

/-- "Open for claims" of Table 5-4: ask the door to open, enter OPENING; opened_by becomes PART when it was
NONE (R87). -/
def openForClaims (r : RoomIx) (s : State) : State :=
  (askOpen r s).modRoom r fun p =>
    { p with
      state := .opening
      openedBy := if p.openedBy = .none then .part else p.openedBy }

/-- The portal opens for a claim from CLOSED, UNKNOWN or CLOSING: opened_by becomes PART (R87). -/
def openForEntry (r : RoomIx) (s : State) : State :=
  (askOpen r s).modRoom r fun p => { p with state := .opening, openedBy := .part }

/-- The portal acts by its state on a new entry (R87). -/
def actOnEntry (r : RoomIx) (u : ShuttleIx) (s : State) : State :=
  match (s.room r).state with
  | .closed | .unknown | .closing => openForEntry r s
  | .opening => if (s.room r).request = .opening then s else askOpen r s
  | .opened => tellReady r u s
  | .fault => s

/-- A grant that forms a new entry: waiting trunk DOOR_CLOSEs are withdrawn with CROSSING, the hold-open timer
stops, the portal acts by its state, and the shuttle's waiting travel is tested (R87, R137). R86 gives the entry no
place among the others; that it joins as the last is the model's choice. Log entry 46. -/
def formEntry (r : RoomIx) (u : ShuttleIx) (h : Holder) (s : State) : State :=
  let s := s.modRoom r fun p => { p with claims := p.claims ++ [{ shuttle := u, holders := [h] }] }
  let s := withdrawCommands r .doorClose .crossing s
  let s := s.modRoom r fun p => { p with holdOpenTimer := none }
  testWaiting u (actOnEntry r u s)

/-- A holder joins its shuttle's entry; it is told the door is ready when the portal is OPEN (R86, R87). The holders
are a set (R74) that the record keeps, and READ_OBJECT lists, in the order of joining: the model's choice. Log entry
46. -/
def joinEntry (r : RoomIx) (u : ShuttleIx) (h : Holder) (s : State) : State :=
  let s := s.modRoom r fun p =>
    { p with claims := p.claims.map fun c =>
        if c.shuttle == u then { c with holders := c.holders ++ [h] } else c }
  if (s.room r).state = .opened then tellReady r u s else s

/-- The granted rows of R86: the holder joins its shuttle's entry, or a new entry forms. -/
def grantClaim (r : RoomIx) (u : ShuttleIx) (h : Holder) (s : State) : State :=
  if hasEntry s r u then joinEntry r u h s else formEntry r u h s

/-! ## Claim requests (R86) -/

/-- The holder already holds a claim at the portal. -/
def Room.holds (p : Room) (u : ShuttleIx) (h : Holder) : Bool :=
  p.claims.any fun c => c.shuttle == u && c.holders.contains h

/-- The holder already waits at the portal. -/
def Room.waits (p : Room) (u : ShuttleIx) (h : Holder) : Bool :=
  p.waiting.any fun w => w.shuttle == u && w.holder == h

/-- A claim request must wait: the hold is SET, or a forced hold waits, or others wait already (R86). -/
def Room.mustWait (p : Room) : Bool :=
  p.hold == .set || (p.hold == .waiting && p.holdForced) || !p.waiting.isEmpty

/-- The request would be refused: the zone is quiet, and the holder neither holds nor waits already (R86). -/
def claimRefused (s : State) (r : RoomIx) (u : ShuttleIx) (h : Holder) : Bool :=
  !(s.room r).holds u h && !(s.room r).waits u h && (s.zone (roomZone r)).quiet

/-- A claim request that is not refused: granted, or joining the tail of the waiting list; a repeated request
changes nothing (R86). -/
def requestClaim (r : RoomIx) (u : ShuttleIx) (h : Holder) (s : State) : State :=
  let p := s.room r
  if p.holds u h || p.waits u h || (s.zone (roomZone r)).quiet then s
  else if hasEntry s r u then joinEntry r u h s
  else if p.mustWait then
    s.modRoom r fun p => { p with waiting := p.waiting ++ [{ shuttle := u, holder := h }] }
  else formEntry r u h s

/-- Ask each door in turn and stop at the first that refuses; false when one refused (R142, R145, R153).
Log entry 17. -/
def requestClaims (u : ShuttleIx) (h : Holder) : List RoomIx → State → State × Bool
  | [], s => (s, true)
  | r :: rest, s =>
    if claimRefused s r u h then (s, false) else requestClaims u h rest (requestClaim r u h s)

/-! ## The waiting list (R92) -/

/-- Grant the waiting requests in arrival order, each leaving the list as it is granted (R92). -/
def grantWaiting (r : RoomIx) (s : State) : State :=
  forEach (s.room r).waiting
    (fun w s => grantClaim r w.shuttle w.holder (s.modRoom r fun p => { p with waiting := p.waiting.tail }))
    s

/-- The hold is released from SET: it becomes CLEAR and the waiting list is granted; a release of a hold that
is not SET changes nothing (R92). -/
def releaseHold (r : RoomIx) (s : State) : State :=
  if (s.room r).hold = .set then
    grantWaiting r
      (s.modRoom r fun p => { p with hold := .clear, holdForced := false, openDuringHold := false })
  else s

/-! ## The hold-open timer (R89) -/

/-- The hold-open timer expires: a door the part opened is closed by the part (R89). -/
def expireHoldOpen (r : RoomIx) (s : State) : State :=
  let s := s.modRoom r fun p => { p with holdOpenTimer := none }
  let p := s.room r
  if (p.state = .opened ∨ p.state = .opening) ∧ p.openedBy = .part then
    (originateDoor r .doorClose s).modRoom r fun p =>
      { p with request := .closing, doorTimer := some p.openTime, state := .closing }
  else s

/-- Start the hold-open timer; a waiting hold or a hold-open time of 0 makes it expire at once (R88, R89). -/
def startHoldOpen (r : RoomIx) (s : State) : State :=
  let p := s.room r
  if p.hold = .waiting ∨ p.holdOpenTime = 0 then expireHoldOpen r s
  else s.modRoom r fun p => { p with holdOpenTimer := some p.holdOpenTime }

/-- The door is handed back when the claims list becomes empty (R88). -/
def handBackDoor (r : RoomIx) (s : State) : State :=
  match (s.room r).openedBy with
  | .part => startHoldOpen r s
  | .outside => s.modRoom r fun p => { p with request := .none, doorTimer := none }
  | .none => s

/-! ## The portal's half of a hold grant (R91) -/

/-- A WAITING hold may be granted: no claims, and the door CLOSED (R91). -/
def Room.holdGrantable (p : Room) : Bool := p.claims.isEmpty && p.state == .closed

/-- Steps 1 to 3 of a hold grant: SET, the portal's own waiting DOOR_OPEN removed, waiting trunk DOOR_OPENs
withdrawn with DEFROST_HOLD (R91). Log entry 33. -/
def setHold (r : RoomIx) (s : State) : State :=
  let s := s.modRoom r fun p => { p with hold := .set, openDuringHold := false }
  withdrawCommands r .doorOpen .defrostHold (dropOriginatedDoor r .doorOpen s)

end Sys2Proof.Machine
end

