-- ==== Sys2Proof/Machine/Defrost.lean ====
section
/-! DEFINITION. The defrost scheduler (section 6): the owed count, the phases of a defrost, selection, the hold
request, and the allowance window the scheduler's reports move (R63).

A defrost whose phases end at once runs on within one handling. Entering a phase answers the state and
whether a completion asks for a new selection of the zone; `selectZone` is the one loop that follows such
completions. -/

namespace Sys2Proof.Machine

/-! ## Reading coils -/

/-- The loaded coils bound to a zone, ascending. -/
def zoneCoils (s : State) (z : ZoneIx) : List CoilIx :=
  (indices 16).filter fun c => (s.coil c).loaded && (s.coil c).zone == z

/-- A loaded probe binds the coil (R98). -/
def hasProbe (s : State) (c : CoilIx) : Bool :=
  s.probes.toList.any fun p => p.loaded && p.binding == .coil c

/-- The usable coil temperature: from the coil's probe when a loaded probe binds it, else the reported reading;
none when it is not usable (R98). -/
def coilTemp? (s : State) (c : CoilIx) : Option Int :=
  let k := s.coil c
  if hasProbe s c then if k.probeState.usable then k.probeValue else none
  else if k.reported = .valid then k.reportedValue else none

/-- A coil whose phase is other than COOL is out of COOL (6.1). -/
def Coil.outOfCool (k : Coil) : Bool := k.phase != .cool

/-- The coil's defrost holds the zone's hold request: a single coil from PORTAL_WAIT to the end of DRIP, a
group's members as long as the group lasts (R100, R107, R110). -/
def Coil.inRequest (k : Coil) : Bool := k.group || k.phase == .portalWait || k.phase.underHold

/-- The forced mark of the zone's hold request (R100): 1 while any coil that shares the request is forced. When a
masked coil's own defrost and a group share it, both count; R91 and R100 name the mark of one of them only.
Log entry 38. -/
def requestMark (s : State) (z : ZoneIx) : Bool :=
  (zoneCoils s z).any fun c => (s.coil c).inRequest && (s.coil c).forced

/-! ## Commands to the coil node (R113) -/

/-- Originate a COIL_COMMAND: it becomes the commanded phase and its supervision starts (R113). -/
def commandCoil (c : CoilIx) (p : CmdPhase) (s : State) : State :=
  (originateCoil c p s).modCoil c fun k =>
    { k with commanded := p, notFollowing := false, followTimer := some k.follow }

/-! ## The allowance window (R63) -/

/-- A coil of the zone enters PUMP_DOWN: the window becomes OPEN_DEFROST and its timer stops (R63). -/
def openWindow (z : ZoneIx) (s : State) : State :=
  s.modZone z fun n => { n with window := .openDefrost, allowanceTimer := none }

/-- Another coil of the zone is still in PUMP_DOWN, HEAT, DRIP or FAN_DELAY (R63). -/
def otherDefrosting (s : State) (z : ZoneIx) (c : CoilIx) : Bool :=
  (zoneCoils s z).any fun d =>
    d != c && ((s.coil d).phase.underHold || (s.coil d).phase == .fanDelay)

/-- A coil completes its defrost at the end of FAN_DELAY: the recovery starts when no other coil of the zone
defrosts; a recovery time of 0 closes the window at once (R63). -/
def reportCompletion (z : ZoneIx) (c : CoilIx) (s : State) : State :=
  if otherDefrosting s z c then s
  else s.modZone z fun n =>
    if n.recoveryTime = 0 then { n with window := .closed, allowanceTimer := none }
    else { n with window := .openRecovery, allowanceTimer := some n.recoveryTime }

/-! ## Completion (R111, R112) -/

/-- Steps 1 to 4 of a completion: owed falls by one unless the defrost began while quiet, forced is cleared
below L, the spacing starts, DEFROST_END carries the owed count (R111). Log entry 18. -/
def completeCoil (c : CoilIx) (s : State) : State :=
  let now := s.count
  let s := s.modCoil c fun k =>
    let owed := if k.quietStart then k.owed else max Config.owedFloor (k.owed - 1)
    { k with
      owed := owed
      quietStart := false
      forced := if owed < k.limit then false else k.forced
      lastEnd := some now
      spacingTimer := if k.minSpacing = 0 then none else some k.minSpacing }
  raiseNotice .defrostEnd (.coil c) (noticeInt (s.coil c).owed) s

/-- The members of the zone's group, ascending. -/
def groupMembers (s : State) (z : ZoneIx) : List CoilIx :=
  (zoneCoils s z).filter fun c => (s.coil c).group

/-- FAN_DELAY ends: COOL is commanded and entered, the completion is reported, and the completion takes place,
at once for a single coil and at the common end for a group (R111, R112). The mark of a hold that the coil shared
with coils still under it is not reported anew here: the model's choice, log entry 38. The answer says whether the
zone's selection is due. -/
def endFanDelay (c : CoilIx) (s : State) : State × Bool :=
  let z := (s.coil c).zone
  let s := commandCoil c .cool s
  let s := s.modCoil c fun k => { k with phase := .cool, phaseTimer := none }
  let s := reportCompletion z c s
  if (s.coil c).group then
    let members := groupMembers s z
    if members.all fun d => (s.coil d).phase == .cool then
      (forEach members (fun d s => completeCoil d (s.modCoil d fun k => { k with group := false })) s,
        true)
    else (s, false)
  else (completeCoil c s, true)

/-- Usable and at or below the fan temperature (R111). -/
def fanDone (s : State) (c : CoilIx) : Bool :=
  match coilTemp? s c with
  | some t => decide (t ≤ (s.coil c).fanTemp)
  | none => false

/-- Usable and at or above the terminate temperature (R109). -/
def heatDone (s : State) (c : CoilIx) : Bool :=
  match coilTemp? s c with
  | some t => decide ((s.coil c).terminate ≤ t)
  | none => false

/-- The hold is released at the end of this coil's DRIP when no other coil of the zone is in PUMP_DOWN, HEAT or
DRIP: a single coil's DRIP, or the last of a group (R110), so that the portal opens for no claim while a coil of
the zone defrosts under the hold (R87). A single coil and a group that share the hold release it together.
Log entry 38. -/
def releasesHold (s : State) (c : CoilIx) : Bool :=
  !(zoneCoils s (s.coil c).zone).any fun d => d != c && (s.coil d).phase.underHold

/-- A coil of the zone waits for the hold in PORTAL_WAIT. -/
def anyWaiting (s : State) (z : ZoneIx) : Bool := (zoneCoils s z).any fun d => (s.coil d).phase == .portalWait

/-- DRIP ends: the coil enters FAN_DELAY, the hold is released when due, FAN_DELAY is commanded, and its end is
tested at entry (R110, R111). The answer also asks to go on when the release leaves coils in PORTAL_WAIT, whose
request follows. Log entries 16 and 33. -/
def enterFanDelay (c : CoilIx) (s : State) : State × Bool :=
  let z := (s.coil c).zone
  let due := releasesHold s c
  let s := s.modCoil c fun k => { k with phase := .fanDelay, phaseTimer := some k.fanMax }
  let s := match zoneRoom? z with
    | some r => if due then releaseHold r s else s
    | none => s
  let s := commandCoil c .fanDelay s
  if fanDone s c || (s.coil c).fanMax == 0 then endFanDelay c s else (s, due && anyWaiting s z)

/-- The coil enters DRIP; a drip time of 0 ends it at its entry (R110). -/
def enterDrip (c : CoilIx) (s : State) : State × Bool :=
  let s := commandCoil c .drip s
  let s := s.modCoil c fun k => { k with phase := .drip, phaseTimer := some k.drip }
  if (s.coil c).drip = 0 then enterFanDelay c s else (s, false)

/-- The coil enters HEAT; a coil temperature at or above the terminate temperature ends it at its entry
(R109). -/
def enterHeat (c : CoilIx) (s : State) : State × Bool :=
  let s := commandCoil c .heat s
  let s := s.modCoil c fun k => { k with phase := .heat, phaseTimer := some k.maxHeat }
  if heatDone s c then enterDrip c s else (s, false)

/-- The entry actions of PUMP_DOWN (R108). -/
def enterPumpDown (c : CoilIx) (s : State) : State :=
  let s := commandCoil c .pumpDown s
  let s := s.modCoil c fun k => { k with phase := .pumpDown, phaseTimer := some k.pumpDown }
  let s := openWindow (s.coil c).zone s
  raiseNotice .defrostStart (.coil c) (noticeInt (s.coil c).owed) s

/-- Act on each coil in turn; a selection is due when any of them asked for it. -/
def forEachCoil (f : CoilIx → State → State × Bool) : List CoilIx → State → State × Bool
  | [], s => (s, false)
  | c :: rest, s =>
    let (s, due) := f c s
    let (s, due') := forEachCoil f rest s
    (s, due || due')

/-- Coils enter PUMP_DOWN together; those whose pump-down time is 0 pass on to HEAT at once (R107, R108).
Log entry 16. -/
def startPumpDown (cs : List CoilIx) (s : State) : State × Bool :=
  let s := forEach cs enterPumpDown s
  forEachCoil (fun c s => if (s.coil c).pumpDown = 0 then enterHeat c s else (s, false)) cs s

/-! ## The hold (R91, R107) -/

/-- The hold is granted: the portal sets it, and every coil of the request enters PUMP_DOWN (R91, R107). -/
def grantHold (r : RoomIx) (s : State) : State × Bool :=
  let s := setHold r s
  let waiting := (zoneCoils s (roomZone r)).filter fun c => (s.coil c).phase == .portalWait
  startPumpDown waiting s

/-- Examine a WAITING hold: granted when the claims list is empty and the state is CLOSED (R91). -/
def examineHold (r : RoomIx) (s : State) : State × Bool :=
  let p := s.room r
  if p.hold = .waiting ∧ p.holdGrantable = true then grantHold r s else (s, false)

/-- The scheduler's hold request (R91): granted at once or WAITING from CLEAR, where a running hold-open timer
expires at once (R89); from WAITING or SET only the mark is replaced. Log entry 33. -/
def requestHold (r : RoomIx) (mark : Bool) (s : State) : State × Bool :=
  let p := s.room r
  match p.hold with
  | .clear =>
    if p.holdGrantable then grantHold r (s.modRoom r fun p => { p with holdForced := mark })
    else
      let s := s.modRoom r fun p => { p with hold := .waiting, holdForced := mark }
      (if p.holdOpenTimer.isSome then expireHoldOpen r s else s, false)
  | .waiting | .set => (s.modRoom r fun p => { p with holdForced := mark }, false)

/-- A group that came to wait while the hold already served a masked coil makes its request once that hold is
released: one request at a time (R91, R107). Log entry 33. -/
def renewHold (z : ZoneIx) (s : State) : State :=
  match zoneRoom? z with
  | none => s
  | some r =>
    if (s.room r).hold = .clear ∧ anyWaiting s z = true then (requestHold r (requestMark s z) s).1 else s

/-- Report the forced mark of the zone's hold request when it has changed (R92, R100): the portal stores it,
examines a WAITING hold, and grants the waiting list when the mark of a WAITING hold fell to 0. -/
def reportMark (z : ZoneIx) (s : State) : State × Bool :=
  match zoneRoom? z with
  | none => (s, false)
  | some r =>
    let p := s.room r
    let mark := requestMark s z
    if p.hold = .clear ∨ p.holdForced = mark then (s, false)
    else
      let s := s.modRoom r fun p => { p with holdForced := mark }
      if p.hold = .waiting then
        if p.holdGrantable then grantHold r s
        else (if mark then s else grantWaiting r s, false)
      else (s, false)

/-! ## Selection (R102 to R104) -/

/-- The third condition of R102: a pending pull-in, or owed at S in a zone that is not quiet. -/
def Coil.wants (k : Coil) (quiet : Bool) : Bool := k.pullIn || (!quiet && decide (k.start ≤ k.owed))

/-- A coil is eligible (R102). -/
def Coil.eligible (k : Coil) (quiet : Bool) : Bool :=
  !k.mask && k.phase == .cool && k.spacingTimer.isNone && k.wants quiet

/-- The coil starts a defrost: its pull-in is taken and its quiet start mark set by the zone (R103, R104). -/
def Coil.started (k : Coil) (quiet group : Bool) : Coil :=
  { k with pullIn := false, quietStart := quiet, group := group }

/-- The selected coils begin: PORTAL_WAIT and a hold request in a room, PUMP_DOWN at once in zone 0 (R103,
R104, R107). -/
def beginDefrost (z : ZoneIx) (cs : List CoilIx) (s : State) : State × Bool :=
  match zoneRoom? z with
  | none => startPumpDown cs s
  | some r =>
    let s := forEach cs (fun c s => s.modCoil c fun k => { k with phase := .portalWait }) s
    requestHold r (requestMark s z) s

/-- The zone's coils in the order the pointer gives: from the pointer up, then from coil 0 (R103). -/
def pointerOrder (s : State) (z : ZoneIx) : List CoilIx :=
  let cs := zoneCoils s z
  let p := (s.zone z).pointer
  cs.filter (fun c => p ≤ c) ++ cs.filter fun c => c < p

/-- STAGGERED selection: with no coil of the zone out of COOL, the first eligible coil in the pointer's order
starts, and the pointer moves past it (R103). -/
def selectStaggered (z : ZoneIx) (s : State) : State × Bool :=
  if (zoneCoils s z).any fun c => (s.coil c).outOfCool then (s, false)
  else
    let quiet := (s.zone z).quiet
    match (pointerOrder s z).find? fun c => (s.coil c).eligible quiet with
    | none => (s, false)
    | some c =>
      let s := s.modCoil c fun k => k.started quiet k.group
      let s := s.modZone z fun n => { n with pointer := c + 1 }
      beginDefrost z [c] s

/-- ALL selection: with every unmasked coil in COOL and spaced, no coil of the zone in a group that has not come
to its common end (R112), and one of them wanting a defrost, they start together as a group (R104). A masked coil
out of COOL holds nothing back. Log entry 33. -/
def selectAll (z : ZoneIx) (s : State) : State × Bool :=
  let quiet := (s.zone z).quiet
  let cs := (zoneCoils s z).filter fun c => !(s.coil c).mask
  let ready := (cs.all fun c => (s.coil c).phase == .cool && (s.coil c).spacingTimer.isNone)
    && (groupMembers s z).isEmpty
  if ready && cs.any fun c => (s.coil c).wants quiet then
    beginDefrost z cs (forEach cs (fun c s => s.modCoil c fun k => k.started quiet true) s)
  else (s, false)

/-- One evaluation of a zone's selection, by its defrost mode, when the zone is in use and the part ACTIVE
(R102). -/
def selectOnce (z : ZoneIx) (s : State) : State × Bool :=
  if s.mode = .active ∧ (s.zone z).inUse = true then
    match (s.zone z).defrostMode with
    | .staggered => selectStaggered z s
    | .all => selectAll z s
  else (s, false)

/-- Evaluate the selection, and again after each completion that the evaluation itself brought about; the
first argument bounds the passes (Config.selectionBudget). Log entry 11. -/
def selectLoop : Nat → ZoneIx → State → State
  | 0, _, s => s
  | n + 1, z, s =>
    let (s, due) := selectOnce z s
    if due then selectLoop n z (renewHold z s) else s

/-- Evaluate a zone's selection (R102). -/
def selectZone (z : ZoneIx) (s : State) : State := selectLoop Config.selectionBudget z s

/-- Follow an action of a zone's coils by what it asks for: the request of coils still waiting after a release
(R91), and the zone's selection (R111). -/
def thenSelect (z : ZoneIx) (p : State × Bool) : State :=
  if p.2 then selectZone z (renewHold z p.1) else p.1

/-- Examine a room's waiting hold, the selection following when a completion asks for it (R91). -/
def examineRoom (r : RoomIx) (s : State) : State := thenSelect (roomZone r) (examineHold r s)

/-! ## The owed count (R99 to R101) -/

/-- Raise a coil's owed count by n, capped at L; reaching L sets forced and raises DEFROST_OVERDUE (R100). A count
that a CONFIG load of a lower L has left above L is neither raised nor lowered here: the model's choice. Log entry
42. -/
def raiseOwed (n : Nat) (c : CoilIx) (s : State) : State :=
  let k := s.coil c
  if k.limit ≤ k.owed then s
  else
    let owed := min k.limit (k.owed + n)
    let s := s.modCoil c fun k =>
      { k with owed := owed, forced := if owed = k.limit then true else k.forced }
    if owed = k.limit then raiseNotice .defrostOverdue (.coil c) (noticeInt k.limit) s else s

/-- After a change of owed or of a limit: the mark is reported and the zone's selection evaluated (R100,
R102). -/
def owedChanged (z : ZoneIx) (s : State) : State := selectZone z (reportMark z s).1

/-- The zone's coils whose mask is clear. -/
def unmaskedCoils (s : State) (z : ZoneIx) : List CoilIx :=
  (zoneCoils s z).filter fun c => !(s.coil c).mask

/-- Raise the owed count of each unmasked coil of the zone, then take the owed change (R68, R100, R116).
Log entry 15. -/
def raiseZoneOwed (n : Nat) (z : ZoneIx) (s : State) : State :=
  owedChanged z (forEach (unmaskedCoils s z) (raiseOwed n) s)

/-- A new limit L, loaded in ACTIVE, clamps owed and sets or clears forced without a notice (R101).
Log entry 19. -/
def Coil.newLimit (k : Coil) : Coil :=
  if k.limit < k.owed then { k with owed := k.limit, forced := true }
  else if k.limit = k.owed then { k with forced := true }
  else { k with forced := false }

/-! ## Coil temperature arrivals (R57, R98) -/

/-- Test a changed or newly usable coil temperature against the end of the coil's phase (R98, R109, R111). -/
def testPhaseEnd (c : CoilIx) (s : State) : State × Bool :=
  match (s.coil c).phase with
  | .heat => if heatDone s c then enterDrip c s else (s, false)
  | .fanDelay => if fanDone s c then endFanDelay c s else (s, false)
  | .cool | .portalWait | .pumpDown | .drip => (s, false)

/-- Change a coil's readings; a coil temperature that became usable or changed while usable is tested (R98). -/
def changeReading (c : CoilIx) (f : Coil → Coil) (s : State) : State :=
  let before := coilTemp? s c
  let s := s.modCoil c f
  let after := coilTemp? s c
  if after.isSome && after != before then thenSelect (s.coil c).zone (testPhaseEnd c s) else s

/-- The temperature unit hands over a coil probe reading (R57). -/
def handProbeReading (c : CoilIx) (st : ProbeState) (value : Option Int) (s : State) : State :=
  changeReading c (fun k => { k with probeState := st, probeValue := value }) s

/-- A reported reading arrives: FAULT for −32768, otherwise VALID and limited to the range; the report timer
restarts with 60 s (R98). -/
def takeReported (c : CoilIx) (value : Int) (s : State) : State :=
  changeReading c
    (fun k =>
      { k with
        reported := if value = Config.faultCode then .fault else .valid
        reportedValue := if value = Config.faultCode then none else some (clampTemp value)
        reportTimer := some Config.reportSeconds })
    s

/-- A phase echo arrives and is compared with the commanded phase (R113). -/
def takeEcho (c : CoilIx) (echo : CmdPhase) (s : State) : State :=
  s.modCoil c fun k =>
    { k with
      lastEcho := some echo
      followTimer :=
        if echo = k.commanded then none
        else match k.followTimer with
          | none => some k.follow
          | some n => some n }

/-! ## Timer expiries -/

/-- The interval timer expires: it restarts, and the coil acts by its mask, its zone and its owed (R99). A mask
set out of COOL acts here at once, where R106 lets it govern from the completion on. Log entry 39. -/
def expireInterval (c : CoilIx) (s : State) : State :=
  let s := s.modCoil c fun k => { k with intervalTimer := some (k.interval * 60) }
  let k := s.coil c
  if k.mask then s
  else if (s.zone k.zone).quiet then
    selectZone k.zone (s.modCoil c fun k => { k with pullIn := true })
  else if k.owed < k.limit then owedChanged k.zone (raiseOwed 1 c s)
  else raiseNotice .defrostMissed (.coil c) (noticeInt k.limit) s

/-- The spacing timer expires and the zone's selection is evaluated (R102). -/
def expireSpacing (c : CoilIx) (s : State) : State :=
  selectZone (s.coil c).zone (s.modCoil c fun k => { k with spacingTimer := none })

/-- The phase timer expires and ends the coil's phase by time (R108 to R111). -/
def expirePhase (c : CoilIx) (s : State) : State :=
  let s := s.modCoil c fun k => { k with phaseTimer := none }
  let z := (s.coil c).zone
  match (s.coil c).phase with
  | .pumpDown => thenSelect z (enterHeat c s)
  | .heat =>
    let value := match coilTemp? s c with
      | some t => noticeInt t
      | none => noticeInt Config.faultCode
    thenSelect z (enterDrip c (raiseNotice .defrostTimeEnd (.coil c) value s))
  | .drip => thenSelect z (enterFanDelay c s)
  | .fanDelay => thenSelect z (endFanDelay c s)
  | .cool | .portalWait => s

/-- The follow timer expires: COIL_NOT_FOLLOWING at most once for each commanded phase (R113). -/
def expireFollow (c : CoilIx) (s : State) : State :=
  let s := s.modCoil c fun k => { k with followTimer := none }
  let k := s.coil c
  if k.notFollowing then s
  else
    let value := match k.lastEcho with
      | some e => noticeInt e.code
      | none => noticeInt (-1)
    (raiseNotice .coilNotFollowing (.coil c) value s).modCoil c fun k => { k with notFollowing := true }

/-- The report timer expires: a VALID or FAULT reported reading becomes STALE (R98). -/
def expireReport (c : CoilIx) (s : State) : State :=
  changeReading c
    (fun k =>
      { k with
        reportTimer := none
        reported := match k.reported with
          | .valid | .fault => .stale
          | .none => .none
          | .stale => .stale
        reportedValue := match k.reported with
          | .valid | .fault => none
          | .none | .stale => k.reportedValue })
    s

end Sys2Proof.Machine
end

