-- ==== Sys2Proof/Machine/Fields.lean ====
section
/-! DEFINITION. The configuration fields of a LOAD_ENTRY (R167, R170): how many bytes each table's fields take, and
each table's fields read from those bytes with every range of its record's table tested. A reader answers
none for a value out of range, which the load refuses with BAD_VALUE. -/

namespace Sys2Proof.Machine

/-! ## Single fields -/

/-- A number from lo to hi. -/
def natIn? (lo hi n : Nat) : Option Nat := if lo ≤ n ∧ n ≤ hi then some n else none

/-- A signed number from lo to hi. -/
def intIn? (lo hi x : Int) : Option Int := if lo ≤ x ∧ x ≤ hi then some x else none

/-- A temperature of −880 to 2000 in two bytes. -/
def tempIn? (a b : Byte) : Option Int := intIn? Config.tempLow Config.tempHigh (half a b).toInt

/-- A field of values 0 or 1. -/
def flag? : Nat → Option Bool
  | 0 => some false
  | 1 => some true
  | _ => none

/-- A field that admits ANY: 0xFFFF is ANY, any other value is read by the given reader (R167). -/
def orAny? {α : Type} (read : Nat → Option α) (h : Half) : Option (Option α) :=
  if h = 0xFFFF#16 then some none else (read h.toNat).map some

/-- A byte value, of a field of 0 to 255. -/
def byteIn? (n : Nat) : Option Byte := if n < 256 then some (byteOf n) else none

def direction? : Nat → Option Direction
  | 0 => some .up
  | 1 => some .down
  | _ => none

def forwardMode? : Nat → Option ForwardMode
  | 0 => some .forward
  | 1 => some .suppress
  | 2 => some .onChange
  | _ => none

def policy? : Nat → Option UpPolicy
  | 0 => some .forward
  | 1 => some .drop
  | _ => none

def defrostMode? : Nat → Option DefrostMode
  | 0 => some .staggered
  | 1 => some .all
  | _ => none

def priority? : Nat → Option Priority
  | 0 => some .normal
  | 1 => some .urgent
  | _ => none

def cmp? : Nat → Option Cmp
  | 0 => some .eq
  | 1 => some .ne
  | 2 => some .gt
  | 3 => some .ge
  | 4 => some .lt
  | 5 => some .le
  | _ => none

/-- The bound object of a classification entry: the type by its position in Table 2-1, the index by Table
2-2. -/
def bound? (t i : Nat) : Option Bound :=
  match t with
  | 0 => (finOf? 32 i).map .probe
  | 1 => (finOf? 23 i).map .door
  | 2 => (finOf? 16 i).map .seal
  | 3 => (finOf? 16 i).map .reader
  | 4 => (finOf? 4 i).map .shuttle
  | 5 => (finOf? 16 i).map .coil
  | 6 => (byteIn? i).map .actuator
  | 7 => if i = 0 then some .none else none
  | _ => none

/-- The target of a condition entry: the type by its position in Table 3-4, the index by Table 2-2, or ANY. -/
def condTarget? (t : Nat) (i : Half) : Option CondTarget :=
  match t with
  | 0 => (orAny? (finOf? 23) i).map .door
  | 1 => (orAny? (finOf? 16) i).map .seal
  | 2 => (orAny? (finOf? 16) i).map .coil
  | 3 => (orAny? (finOf? 4) i).map .shuttle
  | 4 => (orAny? byteIn? i).map .actuator
  | _ => none

/-- The attribute of a zone subject by its position in Table 3-5. -/
def zoneAttrOf? : Nat → Option ZoneAttr
  | 0 => some .temperature
  | 1 => some .exposure
  | 2 => some .alarmState
  | 3 => some .quiet
  | 4 => some .frostLoad
  | _ => none

def portalAttrOf? : Nat → Option PortalAttr
  | 0 => some .state
  | 1 => some .claims
  | _ => none

def coilAttrOf? : Nat → Option CoilAttr
  | 0 => some .phase
  | 1 => some .owed
  | _ => none

/-- The subject of a condition entry: type and index by Table 3-4, attribute by its position among those that
Table 3-5 lists for the type. -/
def subject? (t i a : Nat) : Option Subject :=
  match t with
  | 0 => (finOf? 8 i).bind fun z => (zoneAttrOf? a).map (.zone z)
  | 1 => (finOf? 32 i).bind fun p => if a = 0 then some (.probeTemperature p) else none
  | 2 => (finOf? 23 i).bind fun p => (portalAttrOf? a).map (.portal p)
  | 3 => (finOf? 16 i).bind fun c => (coilAttrOf? a).map (.coil c)
  | 4 => (finOf? 4 i).bind fun u => if a = 0 then some (.shuttleState u) else none
  | 5 => (finOf? 48 i).bind fun l => if a = 0 then some (.laneOccupancy l) else none
  | _ => none

/-- A probe binding: ZONE or COIL with its index (Table 4-1). -/
def binding? (t i : Nat) : Option Binding :=
  match t with
  | 0 => (finOf? 8 i).map .zone
  | 1 => (finOf? 16 i).map .coil
  | _ => none

/-- A lane's rail: a shuttle, or NONE with index 0 (Table 7-2). -/
def rail? (t i : Nat) : Option (Option ShuttleIx) :=
  match t with
  | 0 => (finOf? 4 i).map some
  | 1 => if i = 0 then some none else none
  | _ => none

/-- The room zone of a shuttle: NONE with index 0, or zone 1 to 7, kept as its door (Table 8-1). -/
def roomZone? (t i : Nat) : Option (Option RoomIx) :=
  match t with
  | 0 => if i = 0 then some none else none
  | 1 =>
    match i with
    | 0 => none
    | n + 1 => (finOf? 7 n).map some
  | _ => none

/-! ## The nine tables -/

/-- The tables of LOAD_ENTRY and READ_ENTRY (Table 11-3). -/
inductive Table where
  | classification
  | condition
  | probe
  | zone
  | portal
  | coil
  | lane
  | productClass
  | shuttle
  deriving DecidableEq, Repr

def table? : Nat → Option Table
  | 1 => some .classification
  | 2 => some .condition
  | 3 => some .probe
  | 4 => some .zone
  | 5 => some .portal
  | 6 => some .coil
  | 7 => some .lane
  | 8 => some .productClass
  | 9 => some .shuttle
  | _ => none

def Table.code : Table → Nat
  | .classification => 1
  | .condition => 2
  | .probe => 3
  | .zone => 4
  | .portal => 5
  | .coil => 6
  | .lane => 7
  | .productClass => 8
  | .shuttle => 9

/-- Entries of a table (Table 11-3). -/
def Table.entries : Table → Nat
  | .classification => 128
  | .condition => 64
  | .probe => 32
  | .zone => 8
  | .portal => 23
  | .coil => 16
  | .lane => 48
  | .productClass => 8
  | .shuttle => 4

/-- Bytes that the configuration fields of an entry take (R167). -/
def Table.fieldBytes (index : Nat) : Table → Nat
  | .classification => 10
  | .condition => 15
  | .probe => 6
  | .zone => if index = 0 then 30 else 29
  | .portal => if index < 16 then 10 else 4
  | .coil => 20
  | .lane => 6
  | .productClass => 7
  | .shuttle => 13

/-- The configuration fields of Table 2-1. -/
def readClassEntry : List Byte → Option ClassEntry
  | v :: d :: node :: k1 :: k0 :: t :: i :: m :: r :: p :: _ => do
    let valid ← flag? v.toNat
    let direction ← direction? d.toNat
    let _ ← natIn? 1 0xEF node.toNat
    let kind ← orAny? byteIn? (half k1 k0)
    let object ← bound? t.toNat i.toNat
    let fwd ← forwardMode? m.toNat
    let maxPayload ← natIn? 0 64 p.toNat
    some { loaded := true, valid := valid, direction := direction, node := node, kind := kind,
           object := object, forward := fwd, refresh := r.toNat, maxPayload := maxPayload,
           stored := none, hits := 0 }
  | _ => none

/-- The configuration fields of Table 3-4. -/
def readCondition : List Byte → Option Condition
  | e :: a1 :: a0 :: t :: x1 :: x0 :: st :: si :: at_ :: c :: r3 :: r2 :: r1 :: r0 :: why :: _ => do
    let enabled ← flag? e.toNat
    let action ← orAny? action? (half a1 a0)
    let target ← condTarget? t.toNat (half x1 x0)
    let subject ← subject? st.toNat si.toNat at_.toNat
    let cmp ← cmp? c.toNat
    let _ ← natIn? 1 255 why.toNat
    some { loaded := true, enabled := enabled, action := action, target := target, subject := subject,
           cmp := cmp, reference := (quad r3 r2 r1 r0).toInt, reason := why, refusals := 0 }
  | _ => none

/-- The configuration fields of Table 4-1 over the record's runtime fields. -/
def readProbe (old : Probe) : List Byte → Option Probe
  | t :: i :: o :: k :: t1 :: t0 :: _ => do
    let binding ← binding? t.toNat i.toNat
    let shift ← natIn? 0 7 k.toNat
    let timeout ← natIn? 10 600 (half t1 t0).toNat
    some { old with loaded := true, binding := binding, offset := o.toInt, shift := shift,
                    timeout := timeout }
  | _ => none

/-- The kind of a zone or a portal is fixed by its index: DOCK 0 or ROOM 1 (Tables 4-2 and 5-1).
Log entry 21. -/
def fixed? (want got : Nat) : Option Unit := if got = want then some () else none

/-- The configuration fields of Table 4-2 over the record's runtime fields. -/
def readZone (index : ZoneIx) (old : Zone) : List Byte → Option Zone
  | kind :: u :: l1 :: l0 :: w1 :: w0 :: a1 :: a0 :: h :: ew3 :: ew2 :: ew1 :: ew0 :: ea3 :: ea2 :: ea1
      :: ea0 :: rec :: d1 :: d0 :: r1 :: r0 :: f1 :: f0 :: ws :: wb :: wu :: wo :: m :: _ => do
    fixed? (if index = 0 then 0 else 1) kind.toNat
    let inUse ← flag? u.toNat
    let limit ← tempIn? l1 l0
    let warn ← tempIn? w1 w0
    let alarm ← tempIn? a1 a0
    let hysteresis ← natIn? 0 160 h.toNat
    let eWarn ← natIn? 0 Config.exposureTop (quad ew3 ew2 ew1 ew0).toNat
    let eAlarm ← natIn? 0 Config.exposureTop (quad ea3 ea2 ea1 ea0).toNat
    let allowance ← natIn? 0 320 (half d1 d0).toNat
    let recoveryTime ← natIn? 0 3600 (half r1 r0).toNat
    let mode ← defrostMode? m.toNat
    some { old with
      loaded := true, inUse := inUse, limit := limit, warn := warn, alarm := alarm,
      hysteresis := hysteresis, eWarn := eWarn, eAlarm := eAlarm, recovery := rec.toNat,
      allowance := allowance, recoveryTime := recoveryTime, frostThreshold := (half f1 f0).toNat,
      wSealed := ws.toNat, wBreach := wb.toNat, wUnsealed := wu.toNat, wOpen := wo.toNat,
      defrostMode := mode }
  | _ => none

/-- The unmatched-up policy, the last field of entry 0 of the zone table (R167). -/
def readPolicy (fields : List Byte) : Option UpPolicy := policy? (fields.getD 29 0#8).toNat

/-- The configuration fields of a dock portal in Table 5-1. -/
def readDock (old : Dock) : List Byte → Option Dock
  | kind :: zone :: r :: d :: o1 :: o0 :: l1 :: l0 :: inf :: def_ :: _ => do
    fixed? 0 kind.toNat
    fixed? 0 zone.toNat
    let receive ← finOf? 48 r.toNat
    let dispatch ← finOf? 48 d.toNat
    let inflate ← natIn? 1 120 inf.toNat
    let deflate ← natIn? 1 120 def_.toNat
    some { old with
      loaded := true, receiveLane := receive, dispatchLane := dispatch, sealOk := (half o1 o0).toNat,
      sealLow := (half l1 l0).toNat, inflateTime := inflate, deflateTime := deflate }
  | _ => none

/-- The configuration fields of a room portal in Table 5-1. -/
def readRoom (index : RoomIx) (old : Room) : List Byte → Option Room
  | kind :: zone :: o :: h :: _ => do
    fixed? 1 kind.toNat
    fixed? (index.val + 1) zone.toNat
    let openTime ← natIn? 1 60 o.toNat
    let holdOpen ← natIn? 0 60 h.toNat
    some { old with loaded := true, openTime := openTime, holdOpenTime := holdOpen }
  | _ => none

/-- The configuration fields of Table 6-1; S is tested against 1 to 8 here (R97). -/
def readCoilEntry (old : Coil) : List Byte → Option Coil
  | z :: i1 :: i0 :: l :: s :: p1 :: p0 :: h1 :: h0 :: t1 :: t0 :: d1 :: d0 :: f1 :: f0 :: m1 :: m0 :: s1
      :: s0 :: fo :: _ => do
    let zone ← finOf? 8 z.toNat
    let interval ← natIn? 30 1440 (half i1 i0).toNat
    let limit ← natIn? 1 8 l.toNat
    let start ← natIn? 1 8 s.toNat
    let pumpDown ← natIn? 0 600 (half p1 p0).toNat
    let maxHeat ← natIn? 60 3600 (half h1 h0).toNat
    let terminate ← tempIn? t1 t0
    let drip ← natIn? 0 900 (half d1 d0).toNat
    let fanTemp ← tempIn? f1 f0
    let fanMax ← natIn? 0 900 (half m1 m0).toNat
    let spacing ← natIn? 0 7200 (half s1 s0).toNat
    let follow ← natIn? 1 60 fo.toNat
    some { old with
      loaded := true, zone := zone, interval := interval, limit := limit, start := start,
      pumpDown := pumpDown, maxHeat := maxHeat, terminate := terminate, drip := drip,
      fanTemp := fanTemp, fanMax := fanMax, minSpacing := spacing, follow := follow }
  | _ => none

/-- The configuration fields of Table 7-2. -/
def readLane (old : Lane) : List Byte → Option Lane
  | z :: rt :: ri :: p :: d :: q :: _ => do
    let zone ← finOf? 8 z.toNat
    let rail ← rail? rt.toNat ri.toNat
    let position ← finOf? 64 p.toNat
    let depth ← natIn? 1 16 d.toNat
    let quarantine ← flag? q.toNat
    some { old with
      loaded := true, zone := zone, rail := rail, position := position, depth := depth,
      quarantine := quarantine }
  | _ => none

/-- The fields of Table 7-1; a mask that names zone 0 is out of range (R119). -/
def readProductClass : List Byte → Option ProductClass
  | l1 :: l0 :: b3 :: b2 :: b1 :: b0 :: mask :: _ => do
    let limit ← tempIn? l1 l0
    let budget ← natIn? 1 Config.exposureTop (quad b3 b2 b1 b0).toNat
    if mask.getLsbD 0 then none
    else some { loaded := true, limit := limit, budget := budget, zones := mask }
  | _ => none

/-- The ends of the dock segment suit the rooms named (R135). -/
def Shuttle.layoutOk (u : Shuttle) : Bool :=
  decide (u.dockLow ≤ u.dockHigh) && !(u.roomA.isSome && decide (u.dockLow = 0))
    && !(u.roomB.isSome && decide (u.dockHigh = 63)) && !(u.roomA.isSome && u.roomA == u.roomB)

/-- The configuration fields of Table 8-1, with the cases of R135. -/
def readShuttleEntry (old : Shuttle) : List Byte → Option Shuttle
  | lo :: hi :: at_ :: ai :: bt :: bi :: home :: park :: pitch :: settle :: hand :: p1 :: p0 :: _ => do
    let low ← finOf? 64 lo.toNat
    let high ← finOf? 64 hi.toNat
    let roomA ← roomZone? at_.toNat ai.toNat
    let roomB ← roomZone? bt.toNat bi.toNat
    let homePos ← finOf? 64 home.toNat
    let parkPos ← finOf? 64 park.toNat
    let _ ← natIn? 1 255 pitch.toNat
    let handling ← natIn? 1 60 hand.toNat
    let parkTime ← natIn? 0 3600 (half p1 p0).toNat
    let new := { old with
      loaded := true, dockLow := low, dockHigh := high, roomA := roomA, roomB := roomB,
      homePos := homePos, parkPos := parkPos, pitch := pitch.toNat, settle := settle.toNat,
      handling := handling, parkTime := parkTime }
    if new.layoutOk then some new else none
  | _ => none

end Sys2Proof.Machine
end

