-- ==== Sys2Proof/Machine/Requests.lean ====
section
/-! DEFINITION. How the management block takes a request (R168, R169): the steps that every request passes, the
decision each request's own checks give, and the reply. -/

namespace Sys2Proof.Machine

/-- What a request's own checks decide: refused with a reason, refused with CONFIG_INVALID and the offending
table and index, or accepted with reply fields and the state it leaves. -/
inductive Decision where
  | refused (r : Reason)
  | invalid (table index : Nat)
  | accepted (fields : List Byte) (s : State)

/-- The MGMT_REPLY to a request (R169, Table 1-9). -/
def replyFrame (s : State) (q : Sender) (outcome reason : Nat) (fields : List Byte) : Frame :=
  { dest := q.src, src := s.address, kind := kindReply, tag := q.tag,
    payload := byteOf outcome :: byteOf reason :: fields }

/-- The one reply a decided request produces; a refused request changes no other state (R168, R169). -/
def Decision.answer (q : Sender) (d : Decision) (s : State) : State :=
  match d with
  | .refused r => joinReply (replyFrame s q 1 r.code []) s
  | .invalid table index =>
    joinReply (replyFrame s q 1 Reason.configInvalid.code [byteOf table, byteOf index]) s
  | .accepted fields t => joinReply (replyFrame t q 0 0 fields) t

/-- Who may send a request (Table 11-1). -/
inductive Access where
  | manager
  | anySource
  deriving DecidableEq, Repr

/-- In which modes a request is taken (Table 11-1). -/
inductive Modes where
  | both
  | configOnly
  | activeOnly
  deriving DecidableEq, Repr

def Modes.admits : Modes → Mode → Bool
  | .both, _ => true
  | .configOnly, m => m == .config
  | .activeOnly, m => m == .active

def Access.admits (src : Byte) : Access → Bool
  | .manager => src == Config.manager
  | .anySource => true

/-- Steps 2 to 5 of R168: form, access, mode, the request's own checks. -/
def decideRequest (q : Sender) (form : Bool) (a : Access) (m : Modes) (own : State → Decision)
    (s : State) : Decision :=
  if !form then .refused .badRequest
  else if !a.admits q.src then .refused .notPermitted
  else if !m.admits s.mode then .refused .wrongMode
  else own s

/-- The reply queue holds 4 replies (step 1 of R168). -/
def repliesFull (s : State) : Bool := decide (Config.replyDepth ≤ replyCount s)

/-- The management block takes a request: dropped and counted at a full reply queue, otherwise decided and
answered (R168). -/
def takeRequest (q : Sender) (form : Bool) (a : Access) (m : Modes) (own : State → Decision)
    (s : State) : State :=
  if repliesFull s then countEvent .trunk .overflow s
  else (decideRequest q form a m own s).answer q s

end Sys2Proof.Machine
end

