-- ==== Sys2Proof/Machine/Loads.lean ====
section
/-! DEFINITION. LOAD_ENTRY on each of the nine tables: the checks of Table 11-4 in order and what an accepted load
changes (R29, R47, R52, R59, R76, R97, R101, R119, R120, R135, R170). -/

namespace Sys2Proof.Machine

/-- A coil to which no loaded probe is bound has coil probe state NONE throughout (R57). Log entry 25. -/
def dropUnboundReadings (s : State) : State :=
  { s with
    coils := Vector.ofFn fun c : Fin 16 =>
      if hasProbe s c then s.coil c
      else { s.coil c with probeState := .none, probeValue := none } }

/-- Classification entry: all fields live (R29). -/
def loadClassification (i : Fin 128) (fields : List Byte) (s : State) : Decision :=
  match readClassEntry fields with
  | none => .refused .badValue
  | some e => .accepted [] { s with classTable := tset s.classTable i e }

/-- Interlock condition entry: all fields live (R47). -/
def loadCondition (i : Fin 64) (fields : List Byte) (s : State) : Decision :=
  match readCondition fields with
  | none => .refused .badValue
  | some c => .accepted [] { s with conditions := tset s.conditions i c }

/-- Probe: the binding is structural (R52). -/
def loadProbe (i : ProbeIx) (fields : List Byte) (s : State) : Decision :=
  let old := s.probe i
  match readProbe old fields with
  | none => .refused .badValue
  | some p =>
    match s.mode with
    | .config => .accepted [] (dropUnboundReadings (s.modProbe i fun _ => p))
    | .active =>
      if old.loaded = true ∧ p.binding = old.binding then .accepted [] (s.modProbe i fun _ => p)
      else .refused .liveFieldOnly

/-- The ordering pairs of a zone (R59). -/
def Zone.ordered (z : Zone) : Bool := decide (z.warn ≤ z.alarm) && decide (z.eWarn ≤ z.eAlarm)

/-- An accepted zone load: the record, the policy with entry 0, and the zone's selection (R17, R59, R102). -/
def storeZone (i : ZoneIx) (z : Zone) (policy : UpPolicy) (s : State) : State :=
  let s := s.modZone i fun _ => z
  selectZone i (if i = 0 then { s with policy := policy } else s)

/-- Zone: the in-use field is structural (R59). -/
def loadZone (i : ZoneIx) (fields : List Byte) (s : State) : Decision :=
  let old := s.zone i
  match readZone i old fields, (if i = 0 then readPolicy fields else some s.policy) with
  | some z, some policy =>
    match s.mode with
    | .config => .accepted [] (storeZone i z policy s)
    | .active =>
      if z.inUse ≠ old.inUse then .refused .liveFieldOnly
      else if z.ordered then .accepted [] (storeZone i z policy s)
      else .refused .badValue
  | _, _ => .refused .badValue

/-- Dock portal: its lanes are structural (R76). -/
def loadDock (p : DockIx) (fields : List Byte) (s : State) : Decision :=
  let old := s.dock p
  match readDock old fields with
  | none => .refused .badValue
  | some d =>
    match s.mode with
    | .config => .accepted [] (s.modDock p fun _ => d)
    | .active =>
      if old.loaded = false ∨ d.receiveLane ≠ old.receiveLane ∨ d.dispatchLane ≠ old.dispatchLane then
        .refused .liveFieldOnly
      else if d.sealLow < d.sealOk then .accepted [] (s.modDock p fun _ => d)
      else .refused .badValue

/-- Room portal: its two times are live (R76). -/
def loadRoom (r : RoomIx) (fields : List Byte) (s : State) : Decision :=
  match readRoom r (s.room r) fields with
  | none => .refused .badValue
  | some p => .accepted [] (s.modRoom r fun _ => p)

/-- Coil: the zone is structural; in ACTIVE a new L acts on owed, and the load is an owed change of the zone
(R97, R101, R102). Log entry 19. -/
def loadCoil (c : CoilIx) (fields : List Byte) (s : State) : Decision :=
  let old := s.coil c
  match readCoilEntry old fields with
  | none => .refused .badValue
  | some k =>
    match s.mode with
    | .config => .accepted [] (s.modCoil c fun _ => k)
    | .active =>
      if old.loaded = false ∨ k.zone ≠ old.zone then .refused .liveFieldOnly
      else if k.limit < k.start then .refused .badValue
      else
        let k := if k.limit = old.limit then k else k.newLimit
        .accepted [] (owedChanged k.zone (s.modCoil c fun _ => k))

/-- The lane load would change the zone or leave the depth below the occupancy (R120). -/
def laneBusy (old new : Lane) : Bool :=
  !old.pallets.isEmpty && (new.zone != old.zone || decide (new.depth < old.pallets.length))

/-- Lane: zone, rail, rail position and depth are structural (R120). -/
def loadLane (l : LaneIx) (fields : List Byte) (s : State) : Decision :=
  let old := s.lane l
  match readLane old fields with
  | none => .refused .badValue
  | some n =>
    match s.mode with
    | .config => if laneBusy old n then .refused .busy else .accepted [] (s.modLane l fun _ => n)
    | .active =>
      if old.loaded = true ∧ n.zone = old.zone ∧ n.rail = old.rail ∧ n.position = old.position
          ∧ n.depth = old.depth then
        .accepted [] (s.modLane l fun _ => n)
      else .refused .liveFieldOnly

/-- Product class: all fields live (R119). -/
def loadProductClass (k : ClassIx) (fields : List Byte) (s : State) : Decision :=
  match readProductClass fields with
  | none => .refused .badValue
  | some c => .accepted [] { s with classes := tset s.classes k c }

/-- The two records have the same rail layout, home and park (R170). -/
def Shuttle.sameLayout (a b : Shuttle) : Bool :=
  a.dockLow == b.dockLow && a.dockHigh == b.dockHigh && a.roomA == b.roomA && a.roomB == b.roomB
    && a.homePos == b.homePos && a.parkPos == b.parkPos

/-- Shuttle: the layout is structural; a park time of 0 stops the park timer (R135, R145). -/
def loadShuttle (u : ShuttleIx) (fields : List Byte) (s : State) : Decision :=
  let old := s.shuttle u
  match readShuttleEntry old fields with
  | none => .refused .badValue
  | some v =>
    match s.mode with
    | .config => .accepted [] (s.modShuttle u fun _ => v)
    | .active =>
      if old.loaded = true ∧ v.sameLayout old = true then
        .accepted []
          (s.modShuttle u fun _ =>
            { v with parkTimer := if v.parkTime = 0 then none else v.parkTimer })
      else .refused .liveFieldOnly

/-- The load of one table's entry; an index outside the table is BAD_INDEX (R170). -/
def loadTable (t : Table) (index : Nat) (fields : List Byte) (s : State) : Decision :=
  match t with
  | .classification =>
    match finOf? 128 index with
    | some i => loadClassification i fields s
    | none => .refused .badIndex
  | .condition =>
    match finOf? 64 index with
    | some i => loadCondition i fields s
    | none => .refused .badIndex
  | .probe =>
    match finOf? 32 index with
    | some i => loadProbe i fields s
    | none => .refused .badIndex
  | .zone =>
    match finOf? 8 index with
    | some i => loadZone i fields s
    | none => .refused .badIndex
  | .portal =>
    match finOf? 23 index with
    | some i =>
      match portalKind i with
      | .inl p => loadDock p fields s
      | .inr r => loadRoom r fields s
    | none => .refused .badIndex
  | .coil =>
    match finOf? 16 index with
    | some i => loadCoil i fields s
    | none => .refused .badIndex
  | .lane =>
    match finOf? 48 index with
    | some i => loadLane i fields s
    | none => .refused .badIndex
  | .productClass =>
    match finOf? 8 index with
    | some i => loadProductClass i fields s
    | none => .refused .badIndex
  | .shuttle =>
    match finOf? 4 index with
    | some i => loadShuttle i fields s
    | none => .refused .badIndex

/-- The payload of a LOAD_ENTRY holds the fields its table requires; with an unknown table or index only the
table and the index are required (R167, R168, log entry 27). -/
def loadForm (table index : Nat) (fields : List Byte) : Bool :=
  match table? table with
  | none => true
  | some t => if index < t.entries then decide (t.fieldBytes index ≤ fields.length) else true

/-- LOAD_ENTRY, the request's own checks (R170). -/
def loadDecision (table index : Nat) (fields : List Byte) (s : State) : Decision :=
  match table? table with
  | none => .refused .badTable
  | some t => loadTable t index fields s

end Sys2Proof.Machine
end

