-- ==== Sys2Proof/Machine/Pallets.lean ====
section
/-! DEFINITION. The pallet unit (section 7): lanes, pallet records, the departed list, arrivals and departures,
reservations, picks and placements, and the accrual and quarantine test of 4.11. -/

namespace Sys2Proof.Machine

/-! ## Looking up -/

/-- The record in use that carries an identifier, departed or not (R122). -/
def palletIx? (s : State) (id : PalletId) : Option PalletIx :=
  tfind (fun o => match o with
    | some p => p.id == id
    | none => false) s.pallets

/-- The pallet has left through a door. -/
def Pallet.departed (p : Pallet) : Bool := p.status == .departed

/-- The record of a live pallet with an identifier (R122). -/
def livePallet? (s : State) (id : PalletId) : Option (PalletIx × Pallet) :=
  match palletIx? s id with
  | some i =>
    match s.pallet i with
    | some p => if p.departed then none else some (i, p)
    | none => none
  | none => none

/-- A lane has room: occupancy plus reservations below its depth (7.2). -/
def Lane.hasRoom (l : Lane) : Bool := decide (l.pallets.length + l.reserved < l.depth)

/-- The status of a pallet standing in a lane of a zone: DOCK in zone 0, STORED in a room (Table 7-4). -/
def laneStatus (z : ZoneIx) : PalletStatus := if z = 0 then .dock else .stored

/-- A held-back pallet: quarantined and not released (R131). -/
def Pallet.heldBack (p : Pallet) : Bool := p.quarantine && !p.released

/-- The pallet with an identifier is held back (R131). -/
def isHeldBack (s : State) (id : PalletId) : Bool :=
  match livePallet? s id with
  | some (_, p) => p.heldBack
  | none => false

/-! ## Moving a pallet between a lane, a deck and UNPLACED (R122) -/

/-- Set the location and the status of the pallet with an identifier. -/
def locatePallet (id : PalletId) (loc : Location) (st : PalletStatus) (s : State) : State :=
  match palletIx? s id with
  | some i => s.modPallet i fun p => { p with location := loc, status := st }
  | none => s

/-- A pallet joins the tail of a lane, its record following in the same step (R121, R122). -/
def appendToLane (l : LaneIx) (id : PalletId) (s : State) : State :=
  let s := s.modLane l fun n => { n with pallets := n.pallets ++ [id] }
  locatePallet id (.lane l) (laneStatus (s.lane l).zone) s

/-- A pallet leaves a lane wherever it stands in it (R121). -/
def removeFromLane (l : LaneIx) (id : PalletId) (s : State) : State :=
  s.modLane l fun n => { n with pallets := n.pallets.filter fun x => x != id }

/-- A pallet leaves the lane its record names; an UNPLACED pallet leaves no list (R125, R129). -/
def leaveLocation (p : Pallet) (s : State) : State :=
  match p.location with
  | .lane l => removeFromLane l p.id s
  | .deck _ | .unplaced | .none => s

/-! ## Reservations, picks and placements (R126) -/

/-- Release a reservation; a count of 0 stays (R126). -/
def releaseReservation (l : LaneIx) (s : State) : State :=
  s.modLane l fun n => { n with reserved := n.reserved - 1 }

/-- Take a reservation; the caller has tested for room (R126). -/
def takeReservation (l : LaneIx) (s : State) : State :=
  s.modLane l fun n => { n with reserved := n.reserved + 1 }

/-- Pick the head of a lane onto a deck; EMPTY from an empty lane or onto a loaded deck (R126). -/
def pickFromLane (l : LaneIx) (u : ShuttleIx) (s : State) : State × Option PalletId :=
  match (s.lane l).pallets, (s.shuttle u).deck with
  | id :: rest, none =>
    let s := s.modLane l fun n => { n with pallets := rest }
    let s := s.modShuttle u fun v => { v with deck := some id }
    (locatePallet id (.deck u) .carried s, some id)
  | _, _ => (s, none)

/-- Place the deck's pallet at the tail of a lane in place of its reservation; an empty deck only releases the
reservation (R126). -/
def placeFromDeck (l : LaneIx) (u : ShuttleIx) (s : State) : State :=
  let s := releaseReservation l s
  match (s.shuttle u).deck with
  | some id => appendToLane l id (s.modShuttle u fun v => { v with deck := none })
  | none => s

/-! ## Deck changes (R127) -/

/-- Change the status of the deck's pallet. -/
def setDeckStatus (u : ShuttleIx) (st : PalletStatus) (s : State) : State :=
  match (s.shuttle u).deck with
  | some id => locatePallet id (.deck u) st s
  | none => s

/-- Hold the pallet on a deck: CARRIED becomes HELD (R127). -/
def holdDeck (u : ShuttleIx) (s : State) : State := setDeckStatus u .held s

/-- Carry the pallet on a deck: HELD becomes CARRIED (R127). -/
def carryDeck (u : ShuttleIx) (s : State) : State := setDeckStatus u .carried s

/-- Return the deck's pallet to a lane with room; the caller has tested the lane (R127). -/
def returnToLane (l : LaneIx) (u : ShuttleIx) (s : State) : State :=
  match (s.shuttle u).deck with
  | some id => appendToLane l id (s.modShuttle u fun v => { v with deck := none })
  | none => s

/-- Unplace the deck's pallet: it becomes UNPLACED, on the dock (R127). -/
def unplaceDeck (u : ShuttleIx) (s : State) : State :=
  match (s.shuttle u).deck with
  | some id => locatePallet id .unplaced .dock (s.modShuttle u fun v => { v with deck := none })
  | none => s

/-! ## Arrivals (R123, R124) -/

/-- A free record for a fresh arrival: the lowest not in use, else the head of the departed list, which it
leaves (R123). -/
def freeRecord? (s : State) : Option (PalletIx × List PalletIx) :=
  match tfind Option.isNone s.pallets with
  | some i => some (i, s.departed)
  | none =>
    match s.departed with
    | i :: rest => some (i, rest)
    | [] => none

/-- The record of a fresh arrival, before its location is settled (R124). -/
def freshPallet (s : State) (id : PalletId) (cls : ClassIx) (p : DockIx) : Pallet :=
  { id := id, cls := cls, location := .unplaced, status := .dock, quarantine := false,
    released := false, exposure := 0, arrival := s.count, portal := p, departure := none }

/-- Set up a fresh arrival in a record: into the portal's receive lane, or UNPLACED with LANE_FULL (R124). -/
def freshArrival (i : PalletIx) (id : PalletId) (cls : ClassIx) (p : DockIx) (s : State) : State :=
  let l := (s.dock p).receiveLane
  let s := { s with pallets := tset s.pallets i (some (freshPallet s id cls p)) }
  if (s.lane l).hasRoom then
    let s := s.modLane l fun n => { n with pallets := n.pallets ++ [id] }
    s.modPallet i fun q => { q with location := .lane l, status := laneStatus (s.lane l).zone }
  else raiseNotice .laneFull (.lane l) id s

/-- An admitted IN read (R124). -/
def readIn (p : DockIx) (id : PalletId) (cls : ClassIx) (s : State) : State :=
  match palletIx? s id with
  | none =>
    match freeRecord? s with
    | none => raiseNotice .palletTableFull (.portal (dockPortal p)) id s
    | some (i, rest) => freshArrival i id cls p { s with departed := rest }
  | some i =>
    match s.pallet i with
    | none => s
    | some q =>
      if q.departed then
        freshArrival i id cls p { s with departed := s.departed.filter fun j => j != i }
      else if q.location = .lane (s.dock p).receiveLane ∨ (q.location = .unplaced ∧ q.portal = p) then s
      else raiseNotice .duplicateTag (.pallet i) id s

/-! ## Departures (R125) -/

/-- A live pallet in a lane or UNPLACED departs; out of order unless from the head of the portal's dispatch
lane (R125). -/
def departPallet (p : DockIx) (i : PalletIx) (q : Pallet) (s : State) : State :=
  let l := (s.dock p).dispatchLane
  let inOrder := q.location == .lane l && (s.lane l).pallets.head? == some q.id
  let s := leaveLocation q s
  let now := s.count
  let s := s.modPallet i fun r =>
    { r with location := .none, status := .departed, departure := some now }
  let s := { s with departed := s.departed ++ [i] }
  if inOrder then s else raiseNotice .departureOutOfOrder (.pallet i) q.id s

/-- An admitted OUT read (R125). -/
def readOut (p : DockIx) (id : PalletId) (s : State) : State :=
  match palletIx? s id with
  | none => raiseNotice .tagRejected (.portal (dockPortal p)) id s
  | some i =>
    match s.pallet i with
    | none => s
    | some q =>
      if q.departed then s
      else
        match q.location with
        | .deck _ => raiseNotice .tagRejected (.portal (dockPortal p)) id s
        | .lane _ | .unplaced | .none => departPallet p i q s

/-- A tag read at a dock portal: admitted while the door stands open, otherwise rejected (R84). -/
def tagRead (p : DockIx) (id : PalletId) (cls : ClassIx) (outbound : Bool) (s : State) : State :=
  if (s.dock p).state.isOpen then (if outbound then readOut p id s else readIn p id cls s)
  else raiseNotice .tagRejected (.portal (dockPortal p)) id s

/-! ## Corrections (R128 to R130) -/

/-- Remove a pallet record: out of its lane or the departed list, and not in use (R129). -/
def removePallet (i : PalletIx) (q : Pallet) (s : State) : State :=
  let s := leaveLocation q s
  { s with pallets := tset s.pallets i none, departed := s.departed.filter fun j => j != i }

/-! ## Exposure (R69, R70) -/

/-- The zone of a rail position: its segment's zone, zone 0 off the rail or at UNKNOWN (R69, R136). -/
def Shuttle.zoneAt (u : Shuttle) : ZoneIx :=
  match u.position with
  | none => 0
  | some p =>
    if p < u.dockLow then (match u.roomA with
      | some r => roomZone r
      | none => 0)
    else if u.dockHigh < p then (match u.roomB with
      | some r => roomZone r
      | none => 0)
    else 0

/-- The zone a pallet is charged for (R69). -/
def palletZone (s : State) (p : Pallet) : ZoneIx :=
  match p.location with
  | .lane l => (s.lane l).zone
  | .deck u => (s.shuttle u).zoneAt
  | .unplaced | .none => 0

/-- One pallet's accrual: the excess above its class limit in its zone, nothing while the zone is STALE
(R69). -/
def accruePallet (s : State) (p : Pallet) : Pallet :=
  let n := s.zone (palletZone s p)
  if p.departed then p
  else
    match n.status with
    | .stale => p
    | .valid => { p with exposure := addExcess p.exposure (n.value - (s.cls p.cls).limit) }

/-- The quarantine test holds for the pallet (R70). -/
def overBudget (s : State) (p : Pallet) : Bool :=
  !p.departed && !p.quarantine && !p.released && decide ((s.cls p.cls).budget ≤ p.exposure)

/-- The quarantine test of one record (R70). -/
def quarantineStep (i : PalletIx) (s : State) : State :=
  match s.pallet i with
  | none => s
  | some p =>
    if overBudget s p then
      raiseNotice .palletQuarantine (.pallet i) p.id
        (s.modPallet i fun q => { q with quarantine := true })
    else s

/-- The pallet unit at an exposure-interval expiry: accrual of every pallet, then the quarantine test in
record order (R69, R70). -/
def palletExpiry (s : State) : State :=
  let s := { s with pallets := tmap (Option.map (accruePallet s)) s.pallets }
  forEach (indices 256) quarantineStep s

end Sys2Proof.Machine
end

