-- ==== Sys2Proof/Machine/Portal.lean ====
section
/-! DEFINITION. The portal unit's events (section 5): releases and hand-overs of claims, door reports and seal
pressures, the alarm latch, and the portal timers. -/

namespace Sys2Proof.Machine

/-! ## Releasing a claim (R88) -/

/-- Take a holder out of a claims list; an entry leaves with its last holder (R74). -/
def dropHolder (u : ShuttleIx) (h : Holder) (cs : List Claim) : List Claim :=
  (cs.map fun c => if c.shuttle == u then { c with holders := c.holders.filter (· != h) } else c).filter
    fun c => !(c.shuttle == u && c.holders.isEmpty)

/-- A holder releases its claim: out of the waiting list, or out of its entry; when its shuttle's entry leaves,
the shuttle's door ready flag falls, and when the list becomes empty the door is handed back and a waiting
hold examined (R88, R91, R137). -/
def releaseClaim (r : RoomIx) (u : ShuttleIx) (h : Holder) (s : State) : State :=
  let p := s.room r
  if p.waits u h then
    s.modRoom r fun p => { p with waiting := p.waiting.filter fun w => !(w.shuttle == u && w.holder == h) }
  else if p.holds u h then
    let s := s.modRoom r fun p => { p with claims := dropHolder u h p.claims }
    let s := if hasEntry s r u then s else tellNotReady r u s
    if (s.room r).claims.isEmpty then examineRoom r (handBackDoor r s) else s
  else s

/-- Release the holder's claim at every portal, portal by portal (R143, R144, R157). -/
def releaseAllClaims (u : ShuttleIx) (h : Holder) (s : State) : State :=
  forEach (indices 7) (fun r => releaseClaim r u h) s

/-- Release the holder's claim at every portal except the named ones (R153). -/
def releaseOtherClaims (u : ShuttleIx) (h : Holder) (keep : List RoomIx) (s : State) : State :=
  forEach ((indices 7).filter fun r => !keep.contains r) (fun r => releaseClaim r u h) s

/-- The shuttle takes a move's place among the holders, without a second mark of itself (R88). The holders are a set;
that the place among them is kept is the model's choice. Log entry 46. -/
def replaceHolder (m : MoveId) (hs : List Holder) : List Holder :=
  if hs.contains (.move m) then
    if hs.contains .shuttle then hs.filter (· != .move m)
    else hs.map fun h => if h == .move m then .shuttle else h
  else hs

/-- The same in the waiting list, which holds at most one entry per holder (R74, R88). -/
def replaceWaiter (u : ShuttleIx) (m : MoveId) (ws : List Waiter) : List Waiter :=
  if ws.any fun w => w.shuttle == u && w.holder == .shuttle then
    ws.filter fun w => !(w.shuttle == u && w.holder == .move m)
  else ws.map fun w => if w.shuttle == u && w.holder == .move m then { w with holder := .shuttle } else w

/-- A failed move's claims at one portal pass to its shuttle: no count, grant or timer changes (R88). -/
def handOverAt (u : ShuttleIx) (m : MoveId) (r : RoomIx) (s : State) : State :=
  s.modRoom r fun p =>
    { p with
      claims := p.claims.map fun c =>
        if c.shuttle == u then { c with holders := replaceHolder m c.holders } else c
      waiting := replaceWaiter u m p.waiting }

/-- The hand-over at every portal (R159). -/
def handOverClaims (u : ShuttleIx) (m : MoveId) (s : State) : State :=
  forEach (indices 7) (handOverAt u m) s

/-! ## The alarm latch (R83) -/

/-- The alarm kinds a latch holds. -/
inductive LatchKind where
  | breach
  | unsealedOpen
  | fault
  deriving DecidableEq, Repr

def Latch.holds (l : Latch) : LatchKind → Bool
  | .breach => l.breach
  | .unsealedOpen => l.unsealedOpen
  | .fault => l.fault

def Latch.add (l : Latch) : LatchKind → Latch
  | .breach => { l with breach := true }
  | .unsealedOpen => { l with unsealedOpen := true }
  | .fault => { l with fault := true }

def LatchKind.notice : LatchKind → NoticeKind
  | .breach => .portalBreach
  | .unsealedOpen => .portalUnsealedOpen
  | .fault => .portalFault

def Latch.isEmpty (l : Latch) : Bool := !l.breach && !l.unsealedOpen && !l.fault

/-- Raise a latched alarm of a dock portal: only when its kind is not in the latch, which it then joins
(R83). -/
def alarmDock (p : DockIx) (k : LatchKind) (value : Quad) (s : State) : State :=
  if (s.dock p).latch.holds k then s
  else raiseNotice k.notice (.portal (dockPortal p)) value
    (s.modDock p fun d => { d with latch := d.latch.add k })

/-- The same for a room portal. -/
def alarmRoom (r : RoomIx) (k : LatchKind) (value : Quad) (s : State) : State :=
  if (s.room r).latch.holds k then s
  else raiseNotice k.notice (.portal (roomPortal r)) value
    (s.modRoom r fun p => { p with latch := p.latch.add k })

/-! ## Dock portals (5.3) -/

/-- The portal enters a state; its seal timer stops when it leaves INFLATING or DEFLATING (R82). -/
def enterDock (p : DockIx) (st : DockState) (s : State) : State :=
  s.modDock p fun d =>
    { d with state := st, sealTimer := if st = d.state then d.sealTimer else none }

/-- Enter the state a door report gives; an entered OPEN_UNSEALED raises the alarm of R80 with the last
pressure, or 0 (R78, R80). -/
def enterDockByDoor (p : DockIx) (st : DockState) (s : State) : State :=
  let d := s.dock p
  let s := enterDock p st s
  if st = .openUnsealed ∧ d.state ≠ .openUnsealed then
    alarmDock p .unsealedOpen (noticeNat d.pressureOr0) s
  else s

/-- A door report at a dock portal: recorded, then taken by the derivation, the FAULT rule or Table 5-2 (R77 to
R80). -/
def dockReport (p : DockIx) (pos : DoorPos) (truck : Byte) (s : State) : State :=
  let s := s.modDock p fun d => { d with position := some pos, truck := some truck }
  let d := s.dock p
  match pos with
  | .fault =>
    if d.state = .fault then s
    else alarmDock p .fault (noticeNat d.state.code) (enterDock p .fault s)
  | .closed =>
    if d.state = .unknown ∨ d.state = .fault then enterDockByDoor p (dockDerive d .closed) s
    else enterDock p (dockOnClosed d.state) s
  | .opened =>
    if d.state = .unknown ∨ d.state = .fault then enterDockByDoor p (dockDerive d .opened) s
    else enterDockByDoor p (dockOnOpen d.state) s
  | .moving =>
    if d.state = .unknown ∨ d.state = .fault then enterDockByDoor p (dockDerive d .moving) s else s

/-- A pressure report at a dock portal: recorded, then taken by Table 5-3 (R77, R81). -/
def dockPressure (p : DockIx) (pressure : Nat) (s : State) : State :=
  let s := s.modDock p fun d => { d with pressure := some pressure }
  let d := s.dock p
  if d.state = .unknown ∨ d.state = .fault then s
  else if d.sealOk ≤ pressure then enterDock p (dockOnSealed d.position d.state) s
  else if pressure < d.sealLow then
    let s := enterDock p (dockOnLost d.state) s
    match d.state with
    | .sealed => raiseNotice .sealLost (.portal (dockPortal p)) (noticeNat pressure) s
    | .openSealed => alarmDock p .breach (noticeNat pressure) s
    | _ => s
  else s

/-- The seal timer expires: INFLATING and DEFLATING end in IDLE with their timeout notices (R82). -/
def expireSeal (p : DockIx) (s : State) : State :=
  let d := s.dock p
  let s := s.modDock p fun d => { d with sealTimer := none }
  match d.state with
  | .inflating =>
    raiseNotice .inflateTimeout (.portal (dockPortal p)) (noticeNat d.pressureOr0) (enterDock p .idle s)
  | .deflating =>
    raiseNotice .deflateTimeout (.portal (dockPortal p)) (noticeNat d.pressureOr0) (enterDock p .idle s)
  | _ => s

/-! ## Room portals (5.6) -/

/-- The portal enters OPEN: the request is answered, opened_by becomes OUTSIDE if it was NONE, and every holder
is told that the door is ready (R85). -/
def enterOpen (r : RoomIx) (s : State) : State :=
  tellAllReady r
    (s.modRoom r fun p =>
      { p with
        state := .opened
        doorTimer := none
        request := .none
        openedBy := if p.openedBy = .none then .outside else p.openedBy })

/-- The portal enters CLOSED: both timers stop, request and opened_by become NONE, and a waiting hold is
examined (R85, R91). -/
def enterClosed (r : RoomIx) (s : State) : State :=
  examineRoom r
    (s.modRoom r fun p =>
      { p with
        state := .closed
        doorTimer := none
        holdOpenTimer := none
        request := .none
        openedBy := .none })

/-- A report takes the portal out of CLOSED while the hold is SET or WAITING: DOOR_OPEN_IN_DEFROST once in
the hold (R85, R93). -/
def noteOpenInDefrost (r : RoomIx) (pos : DoorPos) (s : State) : State :=
  let p := s.room r
  if p.hold ≠ .clear ∧ p.openDuringHold = false then
    raiseNotice .doorOpenInDefrost (.portal (roomPortal r)) (noticeNat pos.code)
      (s.modRoom r fun p => { p with openDuringHold := true })
  else s

/-- A claimed door closes by hand: the holders are told it is no longer ready, the portal opens for claims, and
PORTAL_CLOSED_ON_CLAIM carries the number of claimants (R85). The rule puts the telling before the DOOR_OPEN and gives
the notice no place; that it is raised after the DOOR_OPEN, and after a FRAME_UNADDRESSED of that, is the model's
choice. Log entry 41. -/
def closedOnClaim (r : RoomIx) (s : State) : State :=
  let n := (s.room r).claims.length
  raiseNotice .portalClosedOnClaim (.portal (roomPortal r)) (noticeNat n)
    (openForClaims r (tellAllNotReady r s))

/-- The row "CLOSED report" of Table 5-4. -/
def roomClosedReport (r : RoomIx) (s : State) : State :=
  let p := s.room r
  match p.state with
  | .unknown => enterClosed r s
  | .closed => s
  | .opening => if p.request = .opening ∨ p.claims ≠ [] then s else enterClosed r s
  | .opened => if p.claims = [] then enterClosed r s else closedOnClaim r s
  | .closing => enterClosed r s
  | .fault => if p.claims = [] then enterClosed r s else openForClaims r s

/-- The row "MOVING report" of Table 5-4. -/
def roomMovingReport (r : RoomIx) (s : State) : State :=
  let p := s.room r
  match p.state with
  | .unknown => s
  | .closed =>
    noteOpenInDefrost r .moving (s.modRoom r fun p => { p with state := .opening, openedBy := .outside })
  | .opening => s
  | .opened =>
    if p.claims = [] then s.modRoom r fun p => { p with state := .closing } else closedOnClaim r s
  | .closing => s
  | .fault =>
    if p.claims = [] then s.modRoom r fun p => { p with state := .unknown } else openForClaims r s

/-- The row "OPEN report" of Table 5-4. -/
def roomOpenReport (r : RoomIx) (s : State) : State :=
  let p := s.room r
  match p.state with
  | .unknown => enterOpen r s
  | .closed =>
    noteOpenInDefrost r .opened (enterOpen r (s.modRoom r fun p => { p with openedBy := .outside }))
  | .opening => enterOpen r s
  | .opened => s
  | .closing => if p.request = .closing then s else enterOpen r s
  | .fault => enterOpen r s

/-- A FAULT report at a room portal: the request is dropped, a door that was OPEN is no longer ready, and
PORTAL_FAULT is raised subject to the latch (R85). Log entry 26. -/
def roomFaultReport (r : RoomIx) (s : State) : State :=
  let p := s.room r
  if p.state = .fault then s
  else
    let s := s.modRoom r fun p => { p with state := .fault, doorTimer := none, request := .none }
    let s := if p.state = .opened then tellAllNotReady r s else s
    alarmRoom r .fault (noticeNat p.state.code) s

/-- A door report at a room portal: recorded, then taken by Table 5-4 (R77, R85). -/
def roomReport (r : RoomIx) (pos : DoorPos) (truck : Byte) (s : State) : State :=
  let s := s.modRoom r fun p => { p with position := some pos, truck := some truck }
  match pos with
  | .closed => roomClosedReport r s
  | .moving => roomMovingReport r s
  | .opened => roomOpenReport r s
  | .fault => roomFaultReport r s

/-- The action a pending request asked of the door (R90). -/
def DoorRequest.action : DoorRequest → Option Action
  | .none => Option.none
  | .opening => some .doorOpen
  | .closing => some .doorClose

/-- The door timer expires while a request is pending: DOOR_TIMEOUT carries its action code (R90). -/
def expireDoor (r : RoomIx) (s : State) : State :=
  let s := s.modRoom r fun p => { p with doorTimer := none }
  match (s.room r).request.action with
  | some a => raiseNotice .doorTimeout (.portal (roomPortal r)) (noticeNat a.code) s
  | none => s

/-- The portal is idle for the quiet-entry test (R92). -/
def Room.isIdle (p : Room) : Bool :=
  p.state == .closed && p.claims.isEmpty && p.waiting.isEmpty && p.hold == .clear

end Sys2Proof.Machine
end

