-- ==== Sys2Proof/Machine/Moves.lean ====
section
/-! DEFINITION. The move unit (section 9): travels with their claims, the pick-up decision, the end of a move,
assignment, cancellation and failure.

A move's own actions never call one another without end: a decision or an arrival either leaves the move
under way or ends it, and `settleRail` is the one loop that follows an end, moving the staged move up and
assigning the next (R151, R157). -/

namespace Sys2Proof.Machine

/-! ## Reading moves -/

/-- The rail of a move: the rail of its source lane (9.1). -/
def moveRail? (s : State) (m : Move) : Option ShuttleIx := (s.lane m.source).rail

/-- The move holds a reservation in its destination: from the pick-up decision to the placement (R152, R155). -/
def MoveState.reserves : MoveState → Bool
  | .toSource | .picking | .carrying | .placing => true
  | .queued | .staged => false

/-- The portals at which a move holds a claim, and whether it is GRANTED (true) or WAITING (Table 9-1). They are listed
by ascending portal index, not in the order in which they were asked: the model's choice. Log entries 21 and 43. -/
def moveClaims (s : State) (m : MoveId) : List (RoomIx × Bool) :=
  (indices 7).filterMap fun r =>
    let p := s.room r
    if p.claims.any fun c => c.holders.contains (.move m) then some (r, true)
    else if p.waiting.any fun w => w.holder == .move m then some (r, false)
    else none

/-- The wait sub-states of a move (Table 9-1). -/
inductive WaitState where
  | none
  | waitPortal
  | waitDefrost
  deriving DecidableEq, Repr

/-- The shuttle's armed travel was asked for by this move. -/
def armedFor (v : Shuttle) (m : MoveId) : Bool :=
  match v.armed with
  | some a => a.by_ == .move m
  | none => false

/-- While the move's travel is armed: WAIT_DEFROST when any of its claims is WAITING, else WAIT_PORTAL until the
shuttle begins the travel (R153). A travel that stays armed with every claim GRANTED and every crossed door ready,
because its shuttle is NOT_READY, shows WAIT_PORTAL: the model's choice. Log entries 21 and 40. -/
def waitState (s : State) (m : Move) : WaitState :=
  match m.shuttle with
  | none => .none
  | some u =>
    if armedFor (s.shuttle u) m.id then
      if (moveClaims s m.id).any fun c => !c.2 then .waitDefrost else .waitPortal
    else .none

/-! ## The end of a move (R157) -/

/-- The value of a MOVE_RESULT (R157). -/
def resultValue (result : MoveResult) (reason : MoveReason) (doneCount : Nat) : Quad :=
  noticeNat (65536 * result.code + 256 * reason.code + doneCount)

/-- The record leaves the queue and its slot (R157). -/
def dropMove (m : Move) (s : State) : State :=
  let s := { s with moves := s.moves.filter fun r => r.id != m.id }
  match m.shuttle with
  | none => s
  | some u => s.modShuttle u fun v =>
      { v with
        slotA := if v.slotA = some m.id then none else v.slotA
        slotB := if v.slotB = some m.id then none else v.slotB }

/-- Steps 2 and 3 of a move's end: MOVE_RESULT, then the record leaves (R157). -/
def reportEnd (m : Move) (result : MoveResult) (reason : MoveReason) (s : State) : State :=
  dropMove m (raiseNotice .moveResult (.move m.id) (resultValue result reason m.doneCount) s)

/-- Steps 1 to 3 of a move's end other than FAILED: claims released at every portal, the reservation released
when it still holds one, the result reported (R157). -/
def endMove (m : Move) (result : MoveResult) (reason : MoveReason) (reserved : Bool) (s : State) : State :=
  let s := match m.shuttle with
    | some u => releaseAllClaims u (.move m.id) s
    | none => s
  let s := if reserved then releaseReservation m.dest s else s
  reportEnd m result reason s

/-- PARTIAL after at least one placement, STOPPED before any (R152). -/
def shortResult (m : Move) : MoveResult := if 0 < m.doneCount then .partialDone else .stopped

/-- A check ends the move (R152 to R154). -/
def stopMove (m : Move) (reason : MoveReason) (reserved : Bool) (s : State) : State :=
  endMove m (shortResult m) reason reserved s

/-! ## Steps of a move (R138, R153 to R155) -/

/-- The placement will be the move's last (R151). -/
def Move.lastPlacement (m : Move) : Bool := m.remaining == 1 || m.cancelling

/-- The early claims of the staged move: those of the travel from the shuttle's position to its source, asked
door by door, a refused one passed over (R151). -/
def askEarlyClaims (u : ShuttleIx) (s : State) : State :=
  match (s.shuttle u).slotB with
  | none => s
  | some b =>
    match s.move? b with
    | none => s
    | some m =>
      let v := s.shuttle u
      forEach (v.crossed v.position (s.lane m.source).position)
        (fun r => requestClaim r u (.move b)) s

/-- The move asks for its PICK; the shuttle unit takes it in IDLE only (R138, R154). -/
def askPick (u : ShuttleIx) (m : Move) (s : State) : State :=
  if (s.shuttle u).state = .idle then beginHandling u .pick .lifting (.pick m.source m.id) s else s

/-- The move asks for its PLACE; the shuttle unit takes it in IDLE only (R138, R155). -/
def askPlace (u : ShuttleIx) (m : Move) (s : State) : State :=
  if (s.shuttle u).state = .idle then beginHandling u .place .lowering (.place m.dest m.id) s else s

/-- A travel of the move is done (R154, R155, R158): at the source it enters PICKING, or ends CANCELLED when it
is cancelling; at the destination it enters PLACING, asking the early claims before the last placement. -/
def moveArrived (u : ShuttleIx) (id : MoveId) (s : State) : State :=
  match s.move? id with
  | none => s
  | some m =>
    match m.state with
    | .toSource =>
      if m.cancelling then endMove m .cancelled .none true s
      else askPick u m (s.modMove id fun r => { r with state := .picking })
    | .carrying =>
      let s := s.modMove id fun r => { r with state := .placing }
      askPlace u m (if m.lastPlacement then askEarlyClaims u s else s)
    | .queued | .staged | .picking | .placing => s

/-- The move asks the shuttle unit for a travel (R137, R138): refused outside IDLE, done at once when the
shuttle already stands there, begun when clear to start, armed otherwise. -/
def askTravel (u : ShuttleIx) (id : MoveId) (target : RailPos) (s : State) : State :=
  let v := s.shuttle u
  if v.state ≠ .idle then s
  else if v.position = some target then moveArrived u id s
  else if clearToStart s u target then beginTravel u target (.move id) s
  else s.modShuttle u fun w => { w with armed := some { target := target, by_ := .move id }, parkTimer := none }

/-- Begin a travel of the move (R153): ask the crossed doors' claims, release the others, ask for the travel; a
claim refused with ZONE_QUIET ends the move. -/
def moveTravel (u : ShuttleIx) (m : Move) (target : RailPos) (s : State) : State :=
  let v := s.shuttle u
  let doors := v.crossed v.position target
  let (s, granted) := requestClaims u (.move m.id) doors s
  if granted then askTravel u m.id target (releaseOtherClaims u (.move m.id) doors s)
  else stopMove m .zoneQuiet true s

/-- Enter TO_SOURCE with the iteration pallet chosen (R152, R154). -/
def goToSource (u : ShuttleIx) (m : Move) (pallet : PalletId) (s : State) : State :=
  let s := s.modMove m.id fun r => { r with state := .toSource, iteration := some pallet }
  match s.move? m.id with
  | some m => moveTravel u m (s.lane m.source).position s
  | none => s

/-- Enter CARRYING toward the destination (R152, R155). -/
def goToDest (u : ShuttleIx) (m : Move) (pallet : PalletId) (s : State) : State :=
  let s := s.modMove m.id fun r => { r with state := .carrying, iteration := some pallet }
  match s.move? m.id with
  | some m => moveTravel u m (s.lane m.dest).position s
  | none => s

/-! ## The pick-up decision (R152) -/

/-- The move names no pallet, or names this one (test 2 of R152). -/
def Move.accepts (m : Move) (id : PalletId) : Bool :=
  match m.named with
  | none => true
  | some n => n == id

/-- Tests 2 to 4 of R152 on the pallet to be taken up: the reason of the first that fails. -/
def pickUpRefusal? (s : State) (m : Move) (id : PalletId) : Option MoveReason :=
  if !m.accepts id then some .notAtHead
  else if isHeldBack s id && !(s.lane m.dest).quarantine then some .quarantine
  else if !(s.lane m.dest).hasRoom then some .destFull
  else none

/-- The move keeps the destination's quarantine lane field as its pick-up decision reads it: a LOAD_ENTRY taken later
changes nothing for the iteration under way (R120, R131). Log entry 45. -/
def readDest (m : Move) (s : State) : State :=
  s.modMove m.id fun r => { r with destQuarantine := (s.lane m.dest).quarantine }

/-- The pick-up decision of a move on its shuttle: the deck's pallet if there is one, else the source head, is
tested and taken up with a reservation, or the move ends (R152). -/
def pickUpDecision (u : ShuttleIx) (m : Move) (s : State) : State :=
  match (s.shuttle u).deck with
  | some id =>
    match pickUpRefusal? s m id with
    | some reason => stopMove m reason false s
    | none => goToDest u m id (takeReservation m.dest (readDest m s))
  | none =>
    match (s.lane m.source).pallets with
    | [] => stopMove m .sourceEmpty false s
    | id :: _ =>
      match pickUpRefusal? s m id with
      | some reason => stopMove m reason false s
      | none => goToSource u m id (takeReservation m.dest (readDest m s))

/-! ## Assignment (R150, R151) -/

/-- The queued moves of a rail that are in no slot, oldest first. -/
def queuedMoves (s : State) (u : ShuttleIx) : List Move :=
  s.moves.filter fun m => m.state == .queued && m.shuttle == none && moveRail? s m == some u

/-- The next eligible move: the oldest URGENT one, else the oldest (R150). -/
def nextEligible? (s : State) (u : ShuttleIx) : Option Move :=
  match (queuedMoves s u).find? fun m => m.priority == .urgent with
  | some m => some m
  | none => (queuedMoves s u).head?

/-- A move enters slot A; the park timer stops (R145, R150). -/
def enterSlotA (u : ShuttleIx) (id : MoveId) (s : State) : State :=
  (s.modShuttle u fun v => { v with slotA := some id, parkTimer := none }).modMove id
    fun m => { m with state := .queued, shuttle := some u }

/-- A move enters slot B as STAGED; the park timer stops (R145, R150). -/
def enterSlotB (u : ShuttleIx) (id : MoveId) (s : State) : State :=
  (s.modShuttle u fun v => { v with slotB := some id, parkTimer := none }).modMove id
    fun m => { m with state := .staged, shuttle := some u }

/-- The staged move leaves slot B and enters slot A (R151). -/
def moveUp (u : ShuttleIx) (id : MoveId) (s : State) : State :=
  enterSlotA u id (s.modShuttle u fun v => { v with slotB := none })

/-- Who enters an empty slot A: the staged move, else the next eligible move when the shuttle is IDLE or
PARKING (R150, R151). -/
def fillSlotA (u : ShuttleIx) (s : State) : State :=
  match (s.shuttle u).slotB with
  | some b => moveUp u b s
  | none =>
    if (s.shuttle u).state = .idle ∨ (s.shuttle u).state = .parking then
      match nextEligible? s u with
      | some m => enterSlotA u m.id s
      | none => s
    else s

/-- The move waiting QUEUED in slot A begins its first iteration when the shuttle is IDLE (R150, R152). -/
def beginQueued (u : ShuttleIx) (s : State) : State :=
  match (s.shuttle u).slotA with
  | none => s
  | some a =>
    match s.move? a with
    | none => s
    | some m =>
      if (s.shuttle u).state = .idle ∧ m.state = .queued then pickUpDecision u m s else s

/-- Slot B, when slot A holds a move and slot B is empty, takes the next eligible move (R150), but not while the
shuttle is NOT_READY (R140). -/
def fillSlotB (u : ShuttleIx) (s : State) : State :=
  let v := s.shuttle u
  if v.slotA.isSome && v.slotB.isNone && v.state != .notReady then
    match nextEligible? s u with
    | some m => enterSlotB u m.id s
    | none => s
  else s

/-- Fill the slots of a rail's shuttle. A move that ends at its first decision empties slot A again, and the
next follows; the first argument bounds this (Config.assignmentBudget). Log entry 12. -/
def settleLoop : Nat → ShuttleIx → State → State
  | 0, _, s => s
  | n + 1, u, s =>
    if (s.shuttle u).slotA.isSome then fillSlotB u s
    else
      let s := fillSlotA u s
      if (s.shuttle u).slotA.isNone then s
      else
        let s := beginQueued u s
        if (s.shuttle u).slotA.isNone then settleLoop n u s else fillSlotB u s

/-- After the end of a move of the rail: the staged move moves up, and assignment is tried (R151, R157); also
the assignment of R150 itself. -/
def settleRail (u : ShuttleIx) (s : State) : State := settleLoop Config.assignmentBudget u s

/-! ## Entering IDLE (R145, R150, R152, R156) -/

/-- The park timer starts when the shuttle enters IDLE with nothing to do, away from its park position
(R145). Log entry 26. -/
def startPark (u : ShuttleIx) (s : State) : State :=
  let v := s.shuttle u
  if v.state = .idle ∧ v.slotA = none ∧ v.slotB = none ∧ v.armed = none ∧ v.position ≠ some v.parkPos
      ∧ v.parkTime ≠ 0 then
    s.modShuttle u fun v => { v with parkTimer := some v.parkTime }
  else s

/-- The active move asks again for a step that was refused: none under way and none armed (R156). -/
def retryStep (u : ShuttleIx) (s : State) : State :=
  let v := s.shuttle u
  if v.state = .idle ∧ v.step = none ∧ v.armed = none then
    match v.slotA.bind s.move? with
    | none => s
    | some m =>
      match m.state with
      | .toSource => moveTravel u m (s.lane m.source).position s
      | .picking => askPick u m s
      | .carrying => moveTravel u m (s.lane m.dest).position s
      | .placing => askPlace u m s
      | .queued | .staged => s
  else s

/-- The shuttle has entered IDLE: an armed travel may begin, a move waiting in slot A begins its iteration or
asks again for its step, assignment is tried, and the park timer may start. Log entry 26. -/
def enteredIdle (u : ShuttleIx) (s : State) : State :=
  startPark u (settleRail u (beginQueued u (retryStep u (testArmed u s))))

/-! ## After a pick and after a place (R154, R155) -/

/-- The move acts on the answer to its PICK (R154). Whether the pallet is held back is read as it stands at PICKED;
whether the destination is a quarantine lane is what the pick-up decision read, since a load taken between the two
changes no move under way (R120). Log entry 45. -/
def movePicked (u : ShuttleIx) (id : MoveId) (answer : Option PalletId) (s : State) : State :=
  match s.move? id with
  | none => s
  | some m =>
    match answer with
    | none => stopMove m .sourceEmpty true s
    | some x =>
      if m.iteration ≠ some x then stopMove m .notAtHead true s
      else if isHeldBack s x && !m.destQuarantine then stopMove m .quarantine true s
      else goToDest u m x s

/-- The move acts on its PLACED: the counts, then a new decision or its end (R155). -/
def movePlaced (u : ShuttleIx) (id : MoveId) (s : State) : State :=
  let s := s.modMove id fun r =>
    { r with doneCount := r.doneCount + 1, remaining := r.remaining - 1, iteration := none }
  match s.move? id with
  | none => s
  | some m =>
    if 0 < m.remaining ∧ m.cancelling = false then pickUpDecision u m s
    else endMove m (if m.cancelling then .cancelled else .done) .none false s

/-! ## Failure (R159) -/

/-- The active move beyond QUEUED fails: its reservation is released, its claims pass to the shuttle, and it
ends FAILED (R159). -/
def failMove (u : ShuttleIx) (m : Move) (s : State) : State :=
  let s := handOverClaims u m.id s
  let s := if m.state.reserves then releaseReservation m.dest s else s
  reportEnd m .failed .shuttleFault s

/-- A move in a slot returns to the queue as QUEUED, its early claims released (R156, R159). -/
def returnToQueue (u : ShuttleIx) (id : MoveId) (s : State) : State :=
  let s := releaseAllClaims u (.move id) s
  let s := s.modShuttle u fun v =>
    { v with
      slotA := if v.slotA = some id then none else v.slotA
      slotB := if v.slotB = some id then none else v.slotB }
  s.modMove id fun m => { m with state := .queued, shuttle := none }

/-- The move unit is told of a shuttle's fault (R156, R159). -/
def movesOnFault (u : ShuttleIx) (s : State) : State :=
  let s := match (s.shuttle u).slotA.bind s.move? with
    | some m => if m.state = .queued then returnToQueue u m.id s else failMove u m s
    | none => s
  match (s.shuttle u).slotB with
  | some b => returnToQueue u b s
  | none => s

/-! ## Cancellation (R158) -/

/-- The shuttle's step under way is a travel asked for by this move. -/
def travellingFor (v : Shuttle) (m : MoveId) : Bool :=
  match v.step with
  | some (.travel _ (.move k)) => k == m
  | some (.travel _ .shuttle) | some .homing | some (.pick _ _) | some (.place _ _) | none => false

/-- The effect of an accepted CANCEL_MOVE by the move's state (R158). -/
def cancelMove (m : Move) (s : State) : State :=
  if m.cancelling then s
  else
    match m.state with
    | .queued | .staged =>
      let s' := endMove m .cancelled .none false s
      match moveRail? s m with
      | some u => settleRail u s'
      | none => s'
    | .toSource =>
      match m.shuttle with
      | none => s
      | some u =>
        if travellingFor (s.shuttle u) m.id then s.modMove m.id fun r => { r with cancelling := true }
        else
          let s := s.modShuttle u fun v => if armedFor v m.id then { v with armed := none } else v
          settleRail u (endMove m .cancelled .none true s)
    | .picking | .carrying | .placing =>
      s.modMove m.id fun r => { r with cancelling := true, remaining := 1 }

end Sys2Proof.Machine
end

