-- ==== Sys2Proof/Machine/Shuttles.lean ====
section
/-! DEFINITION. The shuttle unit's events (section 8): reports, faults, homing, clearing and parking. -/

namespace Sys2Proof.Machine

/-! ## Faults (R141) -/

/-- The position after a fault: UNKNOWN when a travel, park travel or homing was under way with its order sent;
kept for a pick or place, for an order not yet sent, and for a deck mismatch, which leaves it at home (R141,
R143). -/
def positionAfterFault (v : Shuttle) (reason : FaultReason) : Option RailPos :=
  match reason with
  | .deckMismatch => v.position
  | .timeout | .reported =>
    match v.step with
    | some (.travel _ _) | some .homing => none
    | some (.pick _ _) | some (.place _ _) | none => v.position

/-- A shuttle enters FAULT: its step ends, its claims and door ready flags stay, its pallet becomes HELD, and
its moves are told (R141, R156, R159). -/
def enterFault (u : ShuttleIx) (reason : FaultReason) (s : State) : State :=
  let s := s.modShuttle u fun v =>
    { v with
      position := positionAfterFault v reason
      state := .fault
      faultReason := some reason
      step := none
      armed := none
      stepTimer := none
      parkTimer := none }
  let s := holdDeck u s
  let s := raiseNotice .shuttleFault (.shuttle u) (noticeNat reason.code) s
  movesOnFault u s

/-! ## Reports (R139, R140, R143) -/

/-- The step under way ends: its timer stops and the shuttle is IDLE (R139). -/
def endStep (u : ShuttleIx) (s : State) : State :=
  s.modShuttle u fun v => { v with step := none, stepTimer := none, state := .idle, parkTimer := none }

/-- After a step of a move: assignment on entry to IDLE, and the park timer when nothing is left to do (R145,
R150). -/
def afterMoveStep (u : ShuttleIx) (s : State) : State := startPark u (settleRail u s)

/-- ARRIVED at the target of the travel under way (R139, R145). -/
def arrive (u : ShuttleIx) (target : RailPos) (by_ : Requester) (s : State) : State :=
  let s := (endStep u s).modShuttle u fun v => { v with position := some target }
  match by_ with
  | .move m => afterMoveStep u (moveArrived u m s)
  | .shuttle => enteredIdle u (releaseAllClaims u .shuttle s)

/-- PICKED ends a pick (R139, R154). -/
def picked (u : ShuttleIx) (l : LaneIx) (m : MoveId) (s : State) : State :=
  let (s, answer) := pickFromLane l u (endStep u s)
  afterMoveStep u (movePicked u m answer s)

/-- PLACED ends a place (R139, R155). -/
def placed (u : ShuttleIx) (l : LaneIx) (m : MoveId) (s : State) : State :=
  afterMoveStep u (movePlaced u m (placeFromDeck l u (endStep u s)))

/-- The deck loaded byte says loaded: 1 does, 0 does not, any other value is free (Table 1-9). Log entry 5. -/
def deckLoaded (b : Byte) : Bool :=
  if b = 0#8 then false else if b = 1#8 then true else Config.oddDeckByte b

/-- HOMED at the home position while the HOME order is outstanding (R143). -/
def homed (u : ShuttleIx) (loaded : Byte) (s : State) : State :=
  let s := s.modShuttle u fun v => { v with position := some v.homePos, stepTimer := none }
  if deckLoaded loaded != (s.shuttle u).deck.isSome then enterFault u .deckMismatch s
  else
    let s := (endStep u s).modShuttle u fun v => { v with faultReason := none }
    let s := releaseAllClaims u .shuttle s
    let s := carryDeck u s
    let s := raiseNotice .homed (.shuttle u) (noticeNat (s.shuttle u).homePos.val) s
    enteredIdle u s

/-- A shuttle report: it ends the step it matches, or is a fault, a readiness change, or stray (R139 to R141, R143).
R140 gives no order between the SHUTTLE_READY_CHANGE of a READY and what else that handling raises, such as the
FRAME_UNADDRESSED of a GO that begins or a MOVE_RESULT; that it is raised first is the model's choice. Log entry 44. -/
def shuttleReport (u : ShuttleIx) (rep : Report) (pos : RailPos) (loaded : Byte) (s : State) : State :=
  let v := s.shuttle u
  match rep with
  | .arrived =>
    match v.step with
    | some (.travel target by_) => if pos = target then arrive u target by_ s else s
    | some .homing | some (.pick _ _) | some (.place _ _) | none => s
  | .picked =>
    match v.step with
    | some (.pick l m) => picked u l m s
    | some .homing | some (.travel _ _) | some (.place _ _) | none => s
  | .placed =>
    match v.step with
    | some (.place l m) => placed u l m s
    | some .homing | some (.travel _ _) | some (.pick _ _) | none => s
  | .homed =>
    match v.step with
    | some .homing => if pos = v.homePos then homed u loaded s else s
    | some (.travel _ _) | some (.pick _ _) | some (.place _ _) | none => s
  | .fault => if v.state.inStep then enterFault u .reported s else s
  | .notReady =>
    if v.state = .idle then
      raiseNotice .shuttleReadyChange (.shuttle u) (noticeNat 0) (setShuttleState u .notReady s)
    else if v.state.inStep then enterFault u .reported s
    else s
  | .ready =>
    if v.state = .notReady then
      enteredIdle u
        (raiseNotice .shuttleReadyChange (.shuttle u) (noticeNat 1) (setShuttleState u .idle s))
    else s

/-- The step timer expires and the shuttle enters FAULT with TIMEOUT (R141). -/
def expireStep (u : ShuttleIx) (s : State) : State := enterFault u .timeout s

/-! ## Homing (R142) -/

/-- The states from which HOME_SHUTTLE is refused with BUSY (R142). -/
def homingBusy (v : Shuttle) : Bool :=
  v.state.inStep || v.state == .notReady || (v.state == .idle && v.slotA.isSome)

/-- The doors the homing travel crosses (R136, R142). -/
def homingDoors (v : Shuttle) : List RoomIx := v.crossed v.position v.homePos

/-- An accepted HOME_SHUTTLE: HOMING, the claims of the crossed doors asked with the shuttle as holder, and the
order sent once they are ready (R142). Log entry 24. -/
def startHoming (u : ShuttleIx) (s : State) : State :=
  let doors := homingDoors (s.shuttle u)
  let s := setShuttleState u .homing s
  testHoming u (forEach doors (fun r => requestClaim r u .shuttle) s)

/-! ## Clearing (R144) -/

/-- What CLEAR_SHUTTLE declares of the deck and the lane. -/
structure Clearing where
  toIdle : Bool
  position : Option RailPos
  deck : Option PalletId
  lane : Option LaneIx
  deriving DecidableEq, Repr

/-- An accepted CLEAR_SHUTTLE: position, deck, claims, state, in this order (R144). -/
def clearShuttle (u : ShuttleIx) (d : Clearing) (s : State) : State :=
  let s := s.modShuttle u fun v => { v with position := d.position }
  let s := match d.deck, d.lane with
    | some _, some l => returnToLane l u s
    | some _, none => carryDeck u s
    | none, _ => unplaceDeck u s
  let s := releaseAllClaims u .shuttle s
  if d.toIdle then enteredIdle u (setShuttleState u .idle s) else setShuttleState u .unhomed s

/-! ## Parking (R145) -/

/-- The park travel begins: claims asked, abandoned when one is refused, otherwise PARKING with the travel
begun or armed, and assignment tried (R145, R150). Log entry 24. -/
def startParking (u : ShuttleIx) (s : State) : State :=
  let v := s.shuttle u
  let doors := v.crossed v.position v.parkPos
  let (s, granted) := requestClaims u .shuttle doors s
  if !granted then releaseAllClaims u .shuttle s
  else
    let s := setShuttleState u .parking s
    let s :=
      if v.position = some v.parkPos then arrive u v.parkPos .shuttle s
      else if clearToStart s u v.parkPos then beginTravel u v.parkPos .shuttle s
      else s.modShuttle u fun w => { w with armed := some { target := v.parkPos, by_ := .shuttle } }
    settleRail u s

/-- The park timer expires (R145). -/
def expirePark (u : ShuttleIx) (s : State) : State :=
  let s := s.modShuttle u fun v => { v with parkTimer := none }
  if (s.shuttle u).state = .idle then startParking u s else s

end Sys2Proof.Machine
end

