-- ==== Sys2Proof/Machine/Temperature.lean ====
section
/-! DEFINITION. The temperature unit's events (section 4): sample intake, zone values, staleness, and the
exposure-interval expiry. -/

namespace Sys2Proof.Machine

/-! ## Zone value and status (R60, R61) -/

/-- The probe contributes to the zone's value (R60). -/
def Probe.serves (z : ZoneIx) (p : Probe) : Bool := p.loaded && p.binding == .zone z && p.state.usable

/-- The filtered values of the zone's probes in VALID or OVER_RANGE (R60). -/
def usableValues (s : State) (z : ZoneIx) : List Int :=
  (s.probes.toList.filter (Probe.serves z)).map Probe.filtered

/-- The largest of a list of filtered values (R60). -/
def largest? : List Int → Option Int
  | [] => none
  | x :: rest => some (rest.foldl max x)

/-- Recompute a zone's value and status, with the notices of a change of status (R60, R61). -/
def recomputeZone (z : ZoneIx) (s : State) : State :=
  let n := s.zone z
  match largest? (usableValues s z) with
  | some f =>
    let value := roundTemp f
    let s := s.modZone z fun n => { n with value := value, status := .valid }
    if n.status = .stale then raiseNotice .zoneRestored (.zone z) (noticeInt value) s else s
  | none =>
    let s := s.modZone z fun n => { n with status := .stale }
    if n.status = .valid then raiseNotice .zoneStale (.zone z) (noticeInt n.value) s else s

/-- The value of a coil probe reading: present while the state is VALID or OVER_RANGE (R57). -/
def readingValue (p : Probe) : Option Int := if p.state.usable then some (roundTemp p.filtered) else none

/-- After a sample or a change of state the result passes to the zone or to the coil (R57, R60). -/
def passProbe (i : ProbeIx) (s : State) : State :=
  let p := s.probe i
  match p.binding with
  | .zone z => recomputeZone z s
  | .coil c => handProbeReading c p.state (readingValue p) s

/-! ## Sample intake (R53, R54, R56) -/

/-- The probe record after a fault-coded sample (R53). -/
def Probe.faulted (p : Probe) (now : Quad) : Probe :=
  { p with state := .fault, lastSample := some now, staleTimer := some p.timeout }

/-- The probe record after any other sample: calibrated, clamped, filtered (R54, R56). -/
def Probe.sampled (p : Probe) (value : Int) (now : Quad) : Probe :=
  let c := value + p.offset
  { p with
    state := if inTempRange c then .valid else .overRange
    filtered := filterStep p.state p.filtered (clampTemp c) p.shift
    lastSample := some now
    staleTimer := some p.timeout }

/-- A sample arrives for a probe (R53, R54): intake, filter, and the result passed on. PROBE_FAULT is raised
on entry to FAULT or OVER_RANGE. -/
def probeSample (i : ProbeIx) (value : Int) (s : State) : State :=
  let p := s.probe i
  if value = Config.faultCode then
    let s := s.modProbe i fun p => p.faulted s.count
    let s := if p.state = .fault then s else raiseNotice .probeFault (.probe i) (noticeInt value) s
    passProbe i s
  else
    let s := s.modProbe i fun p => p.sampled value s.count
    let s :=
      if !inTempRange (value + p.offset) && p.state != .overRange then
        raiseNotice .probeFault (.probe i) (noticeInt value) s
      else s
    passProbe i s

/-- The staleness timer expires: STALE, with PROBE_STALE carrying the last sample time or −1 (R55). PROBE_STALE is
raised before the ZONE_STALE it may bring about (R61): the model's order. Log entry 36. -/
def expireStaleness (i : ProbeIx) (s : State) : State :=
  let p := s.probe i
  let s := s.modProbe i fun p => { p with state := .stale, staleTimer := none }
  let value := match p.lastSample with
    | some t => t
    | none => noticeInt (-1)
  passProbe i (raiseNotice .probeStale (.probe i) value s)

/-- The allowance timer expires: the window closes (R63). -/
def expireAllowance (z : ZoneIx) (s : State) : State :=
  s.modZone z fun n => { n with window := .closed, allowanceTimer := none }

/-! ## The exposure-interval expiry (R62 to R68) -/

/-- A dock portal's weight in the frost step (R67). -/
def dockWeight (z : Zone) (d : Dock) : Nat :=
  if d.loaded then
    match d.state with
    | .openSealed => z.wSealed
    | .breach => z.wBreach
    | .openUnsealed => z.wUnsealed
    | _ => 0
  else 0

/-- The room portal's weight in the frost step (R67). -/
def roomWeight (z : Zone) (p : Room) : Nat :=
  match p.state with
  | .opened | .opening | .closing => z.wOpen
  | .unknown | .fault | .closed => 0

/-- The sum the frost step adds for a zone (R67). -/
def frostAdded (s : State) (z : ZoneIx) : Nat :=
  match zoneRoom? z with
  | none => (s.docks.toList.map (dockWeight (s.zone z))).sum
  | some r => roomWeight (s.zone z) (s.room r)

/-- The frost step: the load grows and saturates; at the threshold it pulls in one defrost for each whole
multiple, which leaves the load (R67, R68). -/
def frostStep (z : ZoneIx) (s : State) : State :=
  let n := s.zone z
  if n.quiet then s
  else
    let load := satAdd Config.frostTop n.frost (frostAdded s z)
    if n.frostThreshold ≠ 0 ∧ n.frostThreshold ≤ load then
      raiseZoneOwed (load / n.frostThreshold) z
        (s.modZone z fun n => { n with frost := load % n.frostThreshold })
    else s.modZone z fun n => { n with frost := load }

/-- The alarm step with its notice (R65). -/
def zoneAlarmStep (z : ZoneIx) (s : State) : State :=
  let n := s.zone z
  let (after, notice) := alarmStep n
  let s := s.modZone z fun n => { n with alarmState := after }
  match notice with
  | some k => raiseNotice k (.zone z) (noticeInt n.value) s
  | none => s

/-- One zone's three steps (R62). -/
def zoneExpiry (z : ZoneIx) (s : State) : State :=
  if (s.zone z).inUse then
    frostStep z (zoneAlarmStep z (s.modZone z fun n => { n with exposure := exposureStep n }))
  else s

/-- The exposure-interval expiry: the interval restarts, the zones in use act, then the pallet unit (R62,
R69, R177). Log entry 15. -/
def exposureExpiry (s : State) : State :=
  let s := { s with exposureTimer := some Config.exposureSeconds }
  palletExpiry (forEach (indices 8) zoneExpiry s)

end Sys2Proof.Machine
end

