-- ==== Sys2Proof/Machine/Modes.lean ====
section
/-! DEFINITION. The requests that act on whole tables and on the mode: CLEAR_TABLE, ACTIVATE, DEACTIVATE, RESTART
and SET_TIME (R15, R16, R51, R58, R71, R75, R94, R96, R117, R132, R134, R146, R147, R165, R172 to R177). -/

namespace Sys2Proof.Machine

/-! ## CLEAR_TABLE (R172) -/

/-- A pallet that stood in a lane becomes UNPLACED, on the dock (R132). -/
def Pallet.laneCleared (p : Pallet) : Pallet :=
  match p.location with
  | .lane _ => { p with location := .unplaced, status := .dock }
  | .deck _ | .unplaced | .none => p

/-- Every lane returns to power-on (R132). -/
def clearLanes (s : State) : State :=
  { s with
    lanes := Vector.replicate 48 Lane.reset
    pallets := tmap (Option.map Pallet.laneCleared) s.pallets }

/-- Every pallet record becomes not in use, and lanes, decks and the departed list are emptied (R132). -/
def clearPallets (s : State) : State :=
  { s with
    pallets := Vector.replicate 256 none
    departed := []
    lanes := tmap (fun l => { l with pallets := [] }) s.lanes
    shuttles := tmap (fun u => { u with deck := none }) s.shuttles }

/-- Every deck's pallet is unplaced, then every shuttle returns to power-on (R134). -/
def clearShuttles (s : State) : State :=
  let s := forEach (indices 4) unplaceDeck s
  { s with shuttles := Vector.replicate 4 Shuttle.reset }

/-- CLEAR_TABLE by its table code, 1 to 10 (R172, Table 11-3). -/
def clearDecision (table : Nat) (s : State) : Decision :=
  match table with
  | 1 => .accepted [] { s with classTable := Vector.replicate 128 ClassEntry.reset }
  | 2 => .accepted [] { s with conditions := Vector.replicate 64 Condition.reset }
  | 3 => .accepted [] (dropUnboundReadings { s with probes := Vector.replicate 32 Probe.reset })
  | 4 => .accepted [] { s with zones := Vector.replicate 8 Zone.reset, policy := .forward }
  | 5 => .accepted []
      { s with docks := Vector.replicate 16 Dock.reset, rooms := Vector.replicate 7 Room.reset }
  | 6 => .accepted [] { s with coils := Vector.replicate 16 Coil.reset }
  | 7 => .accepted [] (clearLanes s)
  | 8 => .accepted [] { s with classes := Vector.replicate 8 ProductClass.reset }
  | 9 => .accepted [] (clearShuttles s)
  | 10 => .accepted [] (clearPallets s)
  | _ => .refused .badTable

/-! ## Activation checks (R173, Table 11-5) -/

/-- Loaded probes of lower index with the same binding. -/
def earlierProbes (s : State) (i : ProbeIx) : Nat :=
  ((indices 32).filter fun j =>
    decide (j < i) && (s.probe j).loaded && (s.probe j).binding == (s.probe i).binding).length

/-- A loaded probe breaks a check: its object, the fifth of a zone, or the second of a coil. -/
def probeOffends (s : State) (i : ProbeIx) : Bool :=
  let p := s.probe i
  p.loaded &&
    match p.binding with
    | .zone z => !(s.zone z).inUse || decide (4 ≤ earlierProbes s i)
    | .coil c => !(s.coil c).loaded || decide (1 ≤ earlierProbes s i)

/-- Zone 0 is not in use, or a zone in use breaks an ordering pair. -/
def zoneOffends (s : State) (z : ZoneIx) : Bool :=
  (decide (z = 0) && !(s.zone z).inUse) || ((s.zone z).inUse && !(s.zone z).ordered)

/-- The lane is a loaded lane of zone 0. -/
def dockLaneOk (s : State) (l : LaneIx) : Bool := (s.lane l).loaded && decide ((s.lane l).zone = 0)

/-- A loaded dock portal breaks a check, or the room portal of a room zone in use is not loaded. -/
def portalOffends (s : State) (i : PortalIx) : Bool :=
  match portalKind i with
  | .inl p =>
    let d := s.dock p
    d.loaded && !(decide (d.sealLow < d.sealOk) && dockLaneOk s d.receiveLane && dockLaneOk s d.dispatchLane)
  | .inr r => (s.zone (roomZone r)).inUse && !(s.room r).loaded

/-- A loaded coil breaks a check. -/
def coilOffends (s : State) (c : CoilIx) : Bool :=
  let k := s.coil c
  k.loaded && !((s.zone k.zone).inUse && decide (k.start ≤ k.limit))

/-- A loaded lane with a rail breaks a check. -/
def laneOffends (s : State) (l : LaneIx) : Bool :=
  let n := s.lane l
  n.loaded &&
    match n.rail with
    | none => false
    | some u =>
      let v := s.shuttle u
      !(v.loaded && (match v.segment? n.position with
        | some g => decide (n.zone = g.zone)
        | none => false))

/-- The position lies in the dock segment. -/
def Shuttle.onDock (v : Shuttle) (p : RailPos) : Bool := v.segment? p == some .dock

/-- A loaded shuttle breaks a check. -/
def shuttleOffends (s : State) (u : ShuttleIx) : Bool :=
  let v := s.shuttle u
  v.loaded && !(v.onDock v.homePos && v.onDock v.parkPos
    && v.doors.all fun r => (s.zone (roomZone r)).inUse)

/-- The first offending entry of a table. -/
def firstBad (n : Nat) (bad : Fin n → Bool) : Option Nat := ((indices n).find? bad).map Fin.val

/-- The first offence over the tables in the order of their codes, with the table code and the index (R173). -/
def firstOffence (s : State) : Option (Nat × Nat) :=
  ((firstBad 32 (probeOffends s)).map (3, ·))
    <|> ((firstBad 8 (zoneOffends s)).map (4, ·))
    <|> ((firstBad 23 (portalOffends s)).map (5, ·))
    <|> ((firstBad 16 (coilOffends s)).map (6, ·))
    <|> ((firstBad 48 (laneOffends s)).map (7, ·))
    <|> ((firstBad 4 (shuttleOffends s)).map (9, ·))

/-! ## Activation values (R174) -/

/-- A loaded probe after ACTIVATE, and after RESTART but for the timer of CONFIG (R51, R71). -/
def Probe.fresh (timer : Bool) (p : Probe) : Probe :=
  if p.loaded then
    { p with
      state := .none, filtered := 0, lastSample := none
      staleTimer := if timer then some p.timeout else none }
  else p

/-- A zone record after ACTIVATE (R58). -/
def Zone.activated (z : Zone) : Zone :=
  { z with
    pointer := 0, quiet := false, value := 0, status := .stale, exposure := 0, frost := 0
    alarmState := .normal, window := .closed, allowanceTimer := none }

/-- A dock portal's runtime fields at their power-on values (R75, R94). -/
def Dock.fresh (d : Dock) : Dock :=
  { d with
    state := .unknown, position := none, truck := none, pressure := none, sealTimer := none
    latch := Latch.empty }

/-- A room portal's runtime fields at their power-on values (R75, R94). -/
def Room.fresh (p : Room) : Room :=
  { p with
    state := .unknown, position := none, truck := none, latch := Latch.empty, claims := [], waiting := []
    hold := .clear, holdForced := false, openedBy := .none, request := .none, doorTimer := none
    holdOpenTimer := none, openDuringHold := false }

/-- A loaded coil after ACTIVATE; the interval is in minutes (R96). Log entry 18. -/
def Coil.activated (k : Coil) : Coil :=
  if k.loaded then
    { k with
      owed := 0, forced := false, pullIn := false, phase := .cool, group := false, quietStart := false
      commanded := .cool, lastEcho := none, notFollowing := false, probeState := .none
      probeValue := none, reported := .none, reportedValue := none, lastEnd := none
      intervalTimer := some (k.interval * 60), spacingTimer := some k.minSpacing, phaseTimer := none
      followTimer := none, reportTimer := none }
  else k

/-- A CARRIED pallet becomes HELD (R132). -/
def Pallet.heldNow (p : Pallet) : Pallet :=
  if p.status = .carried then { p with status := .held } else p

/-- Reservations 0 and CARRIED pallets HELD, at ACTIVATE and at RESTART (R132). -/
def palletRestart (s : State) : State :=
  { s with
    lanes := tmap (fun l => { l with reserved := 0 }) s.lanes
    pallets := tmap (Option.map Pallet.heldNow) s.pallets }

/-- A loaded shuttle after ACTIVATE and after RESTART; the deck is kept (R134, R146). -/
def Shuttle.fresh (u : Shuttle) : Shuttle :=
  if u.loaded then
    { u with
      state := .unhomed, position := none, slotA := none, slotB := none, faultReason := none
      step := none, armed := none, readyA := false, readyB := false, stepTimer := none
      parkTimer := none }
  else u

/-- The state after an accepted ACTIVATE (R174, R177). -/
def activated (s : State) : State :=
  palletRestart
    { s with
      mode := .active
      count := 0#32
      exposureTimer := some Config.exposureSeconds
      probes := tmap (Probe.fresh true) s.probes
      zones := tmap Zone.activated s.zones
      docks := tmap Dock.fresh s.docks
      rooms := tmap Room.fresh s.rooms
      coils := tmap Coil.activated s.coils
      shuttles := tmap Shuttle.fresh s.shuttles }

/-- ACTIVATE, the request's own checks (R173, R174). -/
def activateDecision (s : State) : Decision :=
  match firstOffence s with
  | some (table, index) => .invalid table index
  | none => .accepted [] (activated s)

/-! ## DEACTIVATE (R175) -/

/-- A room portal holds a claims entry, a waiting claim, or a hold (R175). -/
def Room.engaged (p : Room) : Bool := !p.claims.isEmpty || !p.waiting.isEmpty || p.hold != .clear

/-- One of the four conditions of R175 holds. -/
def deactivateBusy (s : State) : Bool :=
  s.moves.any (fun m => m.state != .queued) || s.coils.toList.any Coil.outOfCool
    || s.rooms.toList.any Room.engaged || s.shuttles.toList.any fun u => u.state.inStep

def Probe.stopped (p : Probe) : Probe := { p with staleTimer := none }
def Zone.stopped (z : Zone) : Zone := { z with allowanceTimer := none }
def Dock.stopped (d : Dock) : Dock := { d with sealTimer := none }
def Room.stopped (p : Room) : Room := { p with doorTimer := none, holdOpenTimer := none }

def Coil.stopped (k : Coil) : Coil :=
  { k with
    intervalTimer := none, spacingTimer := none, phaseTimer := none, followTimer := none
    reportTimer := none }

/-- Both timers stop and every other field stands, a slot that names a discarded move among them (R134).
Log entry 20. -/
def Shuttle.stopped (u : Shuttle) : Shuttle := { u with stepTimer := none, parkTimer := none }

/-- The state after an accepted DEACTIVATE (R72, R75, R96, R134, R147, R175). -/
def deactivated (s : State) : State :=
  { s with
    mode := .config
    exposureTimer := none
    moves := []
    probes := tmap Probe.stopped s.probes
    zones := tmap Zone.stopped s.zones
    docks := tmap Dock.stopped s.docks
    rooms := tmap Room.stopped s.rooms
    coils := tmap Coil.stopped s.coils
    shuttles := tmap Shuttle.stopped s.shuttles }

/-- DEACTIVATE, the request's own checks (R175). -/
def deactivateDecision (s : State) : Decision :=
  if deactivateBusy s then .refused .busy else .accepted [] (deactivated s)

/-! ## RESTART (R176) -/

/-- Step 1: every queue of the ports and the reply queue emptied, the run 0 (R15, R169). -/
def portsRestart (s : State) : State :=
  { s with uplink := [], forwarded := [], originated := [], answers := [], run := 0 }

/-- Step 2: the notice queue emptied, the lost flag set when it held anything, RESTARTED raised with the number
of moves discarded (R165). -/
def noticesRestart (s : State) : State :=
  raiseNotice .restarted .none (noticeNat s.moves.length)
    { s with notices := [], lost := s.lost || !s.notices.isEmpty }

/-- Every entry loses its stored payload, time and age (R16). -/
def classifierRestart (s : State) : State :=
  { s with classTable := tmap (fun e => { e with stored := none }) s.classTable }

/-- A zone after RESTART: only zones in use act (R71). -/
def Zone.restarted (z : Zone) : Zone :=
  if z.inUse then
    { z with
      value := 0, status := .stale, alarmState := .normal, window := .closed, allowanceTimer := none
      quiet := false }
  else z

/-- The temperature unit's restart; staleness timers start in ACTIVE only (R71). -/
def temperatureRestart (s : State) : State :=
  { s with
    probes := tmap (Probe.fresh (s.mode == .active)) s.probes
    zones := tmap Zone.restarted s.zones }

/-- The portal unit's restart (R94). -/
def portalRestart (s : State) : State :=
  { s with docks := tmap Dock.fresh s.docks, rooms := tmap Room.fresh s.rooms }

/-- A loaded coil's record after RESTART; no timer starts in CONFIG (R117). Log entry 18. -/
def Coil.restarted (active cooled : Bool) (k : Coil) : Coil :=
  { k with
    phase := .cool, group := false, quietStart := false, commanded := .cool, notFollowing := false
    followTimer := if active && cooled then some k.follow else none
    probeState := .none, probeValue := none, reported := .none, reportedValue := none
    reportTimer := none, phaseTimer := none
    intervalTimer := if active then some (k.interval * 60) else none
    spacingTimer := if active then some k.minSpacing else none }

/-- One coil's restart: COOL is originated to a coil out of COOL (R117). -/
def coilRestart (c : CoilIx) (s : State) : State :=
  let k := s.coil c
  if k.loaded then
    let s := if k.outOfCool then originateCoil c .cool s else s
    s.modCoil c (Coil.restarted (s.mode == .active) k.outOfCool)
  else s

/-- The scheduler's restart: every coil, then the owed counts of the zones whose quiet flag was cleared
(R117). -/
def schedulerRestart (quiet : List ZoneIx) (s : State) : State :=
  forEach quiet (raiseZoneOwed 1) (forEach (indices 16) coilRestart s)

/-- The shuttle unit's restart (R146). -/
def shuttleRestart (s : State) : State := { s with shuttles := tmap Shuttle.fresh s.shuttles }

/-- The zones in use whose quiet flag is set: those RESTART clears (R71). -/
def quietZones (s : State) : List ZoneIx :=
  (indices 8).filter fun z => (s.zone z).inUse && (s.zone z).quiet

/-- The whole restart before its reply (R176). Log entry 15. -/
def restarted (s : State) : State :=
  let quiet := quietZones s
  let s := noticesRestart (portsRestart s)
  let s := portalRestart (temperatureRestart (classifierRestart s))
  let s := shuttleRestart (palletRestart (schedulerRestart quiet s))
  { s with moves := [] }

end Sys2Proof.Machine
end

