-- ==== Sys2Proof/Machine/Reads.lean ====
section
/-! DEFINITION. READ_ENTRY, READ_OBJECT and READ_COUNTERS: every record laid out by R167, and the parts of a
reply that does not fit in 62 bytes (R7, R31, R48, R73, R95, R118, R133, R146, R160, R169, R171). -/

namespace Sys2Proof.Machine

/-! ## Field layouts (R167) -/

def numByte (n : Nat) : List Byte := [byteOf n]

/-- A value that may be absent: a presence byte, then the value, or as many zero bytes. -/
def optField {α : Type} (width : Nat) (lay : α → List Byte) : Option α → List Byte
  | some x => 1#8 :: lay x
  | none => 0#8 :: List.replicate width 0#8

/-- A timer that may be stopped: a presence byte and the remaining time in four bytes. -/
def timerField : Timer → List Byte := optField 4 be4

/-- A timer that R73 gives as 0 when stopped, the staleness and the allowance timer: carried without the presence byte,
in READ_ENTRY as in READ_OBJECT (R167). -/
def plainTimer (t : Timer) : List Byte := be4 (t.getD 0)

/-- A list: one count byte, then the items in order. -/
def listField {α : Type} (lay : α → List Byte) (l : List α) : List Byte :=
  byteOf l.length :: (l.map lay).flatten

/-- A pallet identifier; an absent one is 0. -/
def palletField (p : Option PalletId) : List Byte := quadBytes (p.getD 0#32)

/-- A rail position; UNKNOWN is 0xFF. -/
def positionField : Option RailPos → List Byte
  | some p => [byteOf p.val]
  | none => [0xFF#8]

/-- A field that admits ANY: two bytes, ANY as 0xFFFF. -/
def anyField {α : Type} (lay : α → Nat) : Option α → List Byte
  | some x => be2 (lay x)
  | none => be2 0xFFFF

/-- Positions of names in their lists (R167). -/
def Direction.code : Direction → Nat
  | .up => 0
  | .down => 1

def ForwardMode.code : ForwardMode → Nat
  | .forward => 0
  | .suppress => 1
  | .onChange => 2

def UpPolicy.code : UpPolicy → Nat
  | .forward => 0
  | .drop => 1

def Cmp.code : Cmp → Nat
  | .eq => 0
  | .ne => 1
  | .gt => 2
  | .ge => 3
  | .lt => 4
  | .le => 5

def ProbeState.code : ProbeState → Nat
  | .none => 0
  | .valid => 1
  | .overRange => 2
  | .fault => 3
  | .stale => 4

def ReportedState.code : ReportedState → Nat
  | .none => 0
  | .valid => 1
  | .fault => 2
  | .stale => 3

def ZoneStatus.code : ZoneStatus → Nat
  | .valid => 0
  | .stale => 1

def Window.code : Window → Nat
  | .closed => 0
  | .openDefrost => 1
  | .openRecovery => 2

def DefrostMode.code : DefrostMode → Nat
  | .staggered => 0
  | .all => 1

def Hold.code : Hold → Nat
  | .clear => 0
  | .waiting => 1
  | .set => 2

def OpenedBy.code : OpenedBy → Nat
  | .none => 0
  | .part => 1
  | .outside => 2

def DoorRequest.code : DoorRequest → Nat
  | .none => 0
  | .opening => 1
  | .closing => 2

def PalletStatus.code : PalletStatus → Nat
  | .dock => 0
  | .stored => 1
  | .carried => 2
  | .held => 3
  | .departed => 4

def Priority.code : Priority → Nat
  | .normal => 0
  | .urgent => 1

def MoveState.code : MoveState → Nat
  | .queued => 0
  | .staged => 1
  | .toSource => 2
  | .picking => 3
  | .carrying => 4
  | .placing => 5

def WaitState.code : WaitState → Nat
  | .none => 0
  | .waitPortal => 1
  | .waitDefrost => 2

/-- Object choices: the kind's position and the index (R167). -/
def Bound.field : Bound → List Byte
  | .probe i => [0#8, byteOf i.val]
  | .door i => [1#8, byteOf i.val]
  | .seal i => [2#8, byteOf i.val]
  | .reader i => [3#8, byteOf i.val]
  | .shuttle i => [4#8, byteOf i.val]
  | .coil i => [5#8, byteOf i.val]
  | .actuator i => [6#8, i]
  | .none => [7#8, 0#8]

def Binding.field : Binding → List Byte
  | .zone z => [0#8, byteOf z.val]
  | .coil c => [1#8, byteOf c.val]

def Location.field : Location → List Byte
  | .lane l => [0#8, byteOf l.val]
  | .deck u => [1#8, byteOf u.val]
  | .unplaced => [2#8, 0#8]
  | .none => [3#8, 0#8]

def Holder.field : Holder → List Byte
  | .move m => [0#8, byteOf m.val]
  | .shuttle => [1#8, 0#8]

def Requester.field : Requester → List Byte
  | .move m => [0#8, byteOf m.val]
  | .shuttle => [1#8, 0#8]

def railField : Option ShuttleIx → List Byte
  | some u => [0#8, byteOf u.val]
  | none => [1#8, 0#8]

def roomField : Option RoomIx → List Byte
  | none => [0#8, 0#8]
  | some r => [1#8, byteOf (r.val + 1)]

/-- The target type and index of a condition (Table 3-4). -/
def CondTarget.field : CondTarget → List Byte
  | .door i => 0#8 :: anyField Fin.val i
  | .seal i => 1#8 :: anyField Fin.val i
  | .coil i => 2#8 :: anyField Fin.val i
  | .shuttle i => 3#8 :: anyField Fin.val i
  | .actuator i => 4#8 :: anyField BitVec.toNat i

def ZoneAttr.code : ZoneAttr → Nat
  | .temperature => 0
  | .exposure => 1
  | .alarmState => 2
  | .quiet => 3
  | .frostLoad => 4

def PortalAttr.code : PortalAttr → Nat
  | .state => 0
  | .claims => 1

def CoilAttr.code : CoilAttr → Nat
  | .phase => 0
  | .owed => 1

/-- Subject type, index and attribute (Tables 3-4 and 3-5). -/
def Subject.field : Subject → List Byte
  | .zone i a => [0#8, byteOf i.val, byteOf a.code]
  | .probeTemperature i => [1#8, byteOf i.val, 0#8]
  | .portal i a => [2#8, byteOf i.val, byteOf a.code]
  | .coil i a => [3#8, byteOf i.val, byteOf a.code]
  | .shuttleState i => [4#8, byteOf i.val, 0#8]
  | .laneOccupancy i => [5#8, byteOf i.val, 0#8]

/-- A portal's alarm latch as a set of kinds (Table 5-1). -/
def Latch.field (l : Latch) : List Byte :=
  [byteOf ((if l.breach then 1 else 0) + (if l.unsealedOpen then 2 else 0) + (if l.fault then 4 else 0))]

/-- A claims list entry: its shuttle and the list of its holders, in the order of joining, which R74, R95 and R167 leave
open: the model's choice. Log entry 46. -/
def Claim.field (c : Claim) : List Byte := byteOf c.shuttle.val :: listField Holder.field c.holders

/-- A waiting list entry: its shuttle and its holder. -/
def Waiter.field (w : Waiter) : List Byte := byteOf w.shuttle.val :: w.holder.field

/-! ## Configuration fields in the order of the rows -/

def ClassEntry.config (e : ClassEntry) : List Byte :=
  [flagByte e.valid, byteOf e.direction.code, e.node] ++ anyField BitVec.toNat e.kind ++ e.object.field
    ++ [byteOf e.forward.code, byteOf e.refresh, byteOf e.maxPayload]

def Condition.config (c : Condition) : List Byte :=
  flagByte c.enabled :: (anyField Action.code c.action ++ c.target.field ++ c.subject.field
    ++ [byteOf c.cmp.code] ++ signed4 c.reference ++ [c.reason])

def Probe.config (p : Probe) : List Byte :=
  p.binding.field ++ signed1 p.offset ++ numByte p.shift ++ be2 p.timeout

def Zone.config (i : ZoneIx) (policy : UpPolicy) (z : Zone) : List Byte :=
  [if i = 0 then 0#8 else 1#8, flagByte z.inUse] ++ signed2 z.limit ++ signed2 z.warn ++ signed2 z.alarm
    ++ signed1 z.hysteresis ++ be4 z.eWarn ++ be4 z.eAlarm ++ numByte z.recovery ++ signed2 z.allowance
    ++ be2 z.recoveryTime ++ be2 z.frostThreshold ++ numByte z.wSealed ++ numByte z.wBreach
    ++ numByte z.wUnsealed ++ numByte z.wOpen ++ [byteOf z.defrostMode.code]
    ++ (if i = 0 then [byteOf policy.code] else [])

def Dock.config (d : Dock) : List Byte :=
  [0#8, 0#8, byteOf d.receiveLane.val, byteOf d.dispatchLane.val] ++ be2 d.sealOk ++ be2 d.sealLow
    ++ numByte d.inflateTime ++ numByte d.deflateTime

def Room.config (r : RoomIx) (p : Room) : List Byte :=
  [1#8, byteOf (r.val + 1)] ++ numByte p.openTime ++ numByte p.holdOpenTime

def Coil.config (k : Coil) : List Byte :=
  numByte k.zone.val ++ be2 k.interval ++ signed1 k.limit ++ signed1 k.start ++ be2 k.pumpDown
    ++ be2 k.maxHeat ++ signed2 k.terminate ++ be2 k.drip ++ signed2 k.fanTemp ++ be2 k.fanMax
    ++ be2 k.minSpacing ++ numByte k.follow

def Lane.config (l : Lane) : List Byte :=
  numByte l.zone.val ++ railField l.rail ++ numByte l.position.val ++ numByte l.depth
    ++ [flagByte l.quarantine]

def ProductClass.config (c : ProductClass) : List Byte := signed2 c.limit ++ be4 c.budget ++ [c.zones]

def Shuttle.config (u : Shuttle) : List Byte :=
  numByte u.dockLow.val ++ numByte u.dockHigh.val ++ roomField u.roomA ++ roomField u.roomB
    ++ numByte u.homePos.val ++ numByte u.parkPos.val ++ numByte u.pitch ++ numByte u.settle
    ++ numByte u.handling ++ be2 u.parkTime

/-! ## Runtime fields in the order of the rows -/

def Stored.field (p : Stored) : List Byte := listField (fun b => [b]) p.payload

/-- Stored payload as a list of bytes behind its presence byte, stored time, hit count (R31). An absent stored
payload is a list of no bytes behind a presence byte 0. -/
def ClassEntry.runtime (e : ClassEntry) : List Byte :=
  optField 1 Stored.field e.stored ++ optField 4 (fun p : Stored => quadBytes p.time) e.stored
    ++ be2 e.hits

def Condition.runtime (c : Condition) : List Byte := be2 c.refusals

def Probe.runtime (p : Probe) : List Byte :=
  [byteOf p.state.code] ++ signed2 p.filtered ++ optField 4 quadBytes p.lastSample
    ++ plainTimer p.staleTimer

def Zone.runtime (z : Zone) : List Byte :=
  numByte z.pointer.val ++ [flagByte z.quiet] ++ signed2 z.value ++ [byteOf z.status.code]
    ++ be4 z.exposure ++ be2 z.frost ++ [byteOf z.alarmState.code, byteOf z.window.code]
    ++ plainTimer z.allowanceTimer

/-- Door position and truck present byte, each with its presence byte (Table 5-1). -/
def doorFields (pos : Option DoorPos) (truck : Option Byte) : List Byte :=
  optField 1 (fun p : DoorPos => [byteOf p.code]) pos ++ optField 1 (fun b : Byte => [b]) truck

def Dock.runtime (d : Dock) : List Byte :=
  [byteOf d.state.code] ++ doorFields d.position d.truck ++ optField 2 be2 d.pressure
    ++ timerField d.sealTimer ++ d.latch.field

def Room.runtime (p : Room) : List Byte :=
  [byteOf p.state.code] ++ doorFields p.position p.truck ++ p.latch.field
    ++ listField Claim.field p.claims ++ listField Waiter.field p.waiting
    ++ [byteOf p.hold.code, flagByte p.holdForced, byteOf p.openedBy.code, byteOf p.request.code]
    ++ timerField p.doorTimer ++ timerField p.holdOpenTimer ++ [flagByte p.openDuringHold]

/-- A coil's last echo with its presence byte. -/
def echoField (e : Option CmdPhase) : List Byte := optField 1 (fun p : CmdPhase => [byteOf p.code]) e

/-- The two readings of a coil, each a state and a value that may be absent (Table 6-1). -/
def Coil.readings (k : Coil) : List Byte :=
  [byteOf k.probeState.code] ++ optField 2 signed2 k.probeValue ++ [byteOf k.reported.code]
    ++ optField 2 signed2 k.reportedValue

def Coil.timers (k : Coil) : List Byte :=
  timerField k.intervalTimer ++ timerField k.spacingTimer ++ timerField k.phaseTimer
    ++ timerField k.followTimer ++ timerField k.reportTimer

def Coil.runtime (k : Coil) : List Byte :=
  [flagByte k.mask] ++ signed1 k.owed
    ++ [flagByte k.forced, flagByte k.pullIn, byteOf k.phase.code, flagByte k.group,
        flagByte k.quietStart, byteOf k.commanded.code]
    ++ echoField k.lastEcho ++ [flagByte k.notFollowing] ++ k.readings ++ optField 4 quadBytes k.lastEnd
    ++ k.timers

def Lane.runtime (l : Lane) : List Byte := listField quadBytes l.pallets ++ numByte l.reserved

/-- A step's order code and its target: of a travel its position, of a PICK or PLACE the lane named in the step (R139),
of a HOME the home position (Tables 1-10 and 8-1). Log entry 32. -/
def stepTarget (u : Shuttle) : Step → List Byte
  | .travel t _ => [byteOf Order.go.code, byteOf t.val]
  | .homing => [byteOf Order.home.code, byteOf u.homePos.val]
  | .pick l _ => [byteOf Order.pick.code, byteOf l.val]
  | .place l _ => [byteOf Order.place.code, byteOf l.val]

/-- The requester of a step (8.3): the shuttle itself for a homing. -/
def Step.requester : Step → Requester
  | .travel _ b => b
  | .homing => .shuttle
  | .pick _ m => .move m
  | .place _ m => .move m

def armedField (a : Armed) : List Byte := byteOf a.target.val :: a.by_.field

/-- State, position, deck, slots, fault reason (Table 8-1, R146). -/
def Shuttle.beforeStep (u : Shuttle) : List Byte :=
  [byteOf u.state.code] ++ positionField u.position ++ palletField u.deck
    ++ optField 1 (fun m : MoveId => [byteOf m.val]) u.slotA
    ++ optField 1 (fun m : MoveId => [byteOf m.val]) u.slotB
    ++ optField 1 (fun r : FaultReason => [byteOf r.code]) u.faultReason

/-- Armed travel, door ready flags, timers (Table 8-1, R146). -/
def Shuttle.afterStep (u : Shuttle) : List Byte :=
  optField 3 armedField u.armed ++ [flagByte u.readyA, flagByte u.readyB] ++ timerField u.stepTimer
    ++ timerField u.parkTimer

/-- The runtime rows of READ_ENTRY: the step is an order with its target and its requester (Table 8-1, R167). -/
def Shuttle.runtime (u : Shuttle) : List Byte :=
  u.beforeStep ++ optField 4 (fun st => stepTarget u st ++ st.requester.field) u.step ++ u.afterStep

/-- READ_OBJECT of a shuttle: the step with its order and target (R146). -/
def shuttleObject (u : Shuttle) : List Byte := u.beforeStep ++ optField 2 (stepTarget u) u.step ++ u.afterStep

/-! ## Parts (R169) -/

/-- The share of one part: at most 60 bytes of the content. -/
def partShare (content : List Byte) (part : Nat) : List Byte := (content.drop (60 * part)).take 60

/-- How many parts a content needs that does not fit in 62 bytes. -/
def partCount (content : List Byte) : Nat := (content.length + 59) / 60

/-- A read reply: whole when it fits in 62 bytes, otherwise the named part with its number and the number of
parts; a part number at or above the number of parts is BAD_VALUE (R169). -/
def readReply (content : List Byte) (part : Nat) (s : State) : Decision :=
  if content.length ≤ 62 then
    if part = 0 then .accepted content s else .refused .badValue
  else if part < partCount content then
    .accepted (byteOf part :: byteOf (partCount content) :: partShare content part) s
  else .refused .badValue

/-! ## READ_ENTRY (R171) -/

/-- Configuration fields, the loaded byte, runtime fields (R167). Log entry 32. -/
def entryContent (config : List Byte) (loaded : Bool) (runtime : List Byte) : List Byte :=
  config ++ [flagByte loaded] ++ runtime

/-- The content of a table's entry; none for an index outside the table. -/
def tableContent (t : Table) (index : Nat) (s : State) : Option (List Byte) :=
  match t with
  | .classification => (finOf? 128 index).map fun i =>
      entryContent (s.entry i).config (s.entry i).loaded (s.entry i).runtime
  | .condition => (finOf? 64 index).map fun i =>
      entryContent (s.condition i).config (s.condition i).loaded (s.condition i).runtime
  | .probe => (finOf? 32 index).map fun i =>
      entryContent (s.probe i).config (s.probe i).loaded (s.probe i).runtime
  | .zone => (finOf? 8 index).map fun i =>
      entryContent ((s.zone i).config i s.policy) (s.zone i).loaded (s.zone i).runtime
  | .portal => (finOf? 23 index).map fun i =>
      match portalKind i with
      | .inl p => entryContent (s.dock p).config (s.dock p).loaded (s.dock p).runtime
      | .inr r => entryContent ((s.room r).config r) (s.room r).loaded (s.room r).runtime
  | .coil => (finOf? 16 index).map fun i =>
      entryContent (s.coil i).config (s.coil i).loaded (s.coil i).runtime
  | .lane => (finOf? 48 index).map fun i =>
      entryContent (s.lane i).config (s.lane i).loaded (s.lane i).runtime
  | .productClass => (finOf? 8 index).map fun i =>
      entryContent (s.cls i).config (s.cls i).loaded []
  | .shuttle => (finOf? 4 index).map fun i =>
      entryContent (s.shuttle i).config (s.shuttle i).loaded (s.shuttle i).runtime

/-- READ_ENTRY, the request's own checks (R171). -/
def readEntryDecision (table index part : Nat) (s : State) : Decision :=
  match table? table with
  | none => .refused .badTable
  | some t =>
    match tableContent t index s with
    | none => .refused .badIndex
    | some content => readReply content part s

/-! ## READ_OBJECT (R171) -/

/-- Zone runtime state in the order of R73. Log entry 32. -/
def zoneObject (z : Zone) : List Byte :=
  signed2 z.value ++ [byteOf z.status.code] ++ be4 z.exposure ++ be2 z.frost
    ++ [byteOf z.alarmState.code, byteOf z.window.code] ++ plainTimer z.allowanceTimer
    ++ [flagByte z.quiet, byteOf z.pointer.val]

/-- Probe runtime state in the order of R73. Log entry 32. -/
def probeObject (p : Probe) : List Byte :=
  [byteOf p.state.code] ++ signed2 p.filtered ++ optField 4 quadBytes p.lastSample
    ++ plainTimer p.staleTimer

/-- Dock portal state in the order of R95. Log entry 32. -/
def dockObject (d : Dock) : List Byte :=
  [byteOf d.state.code] ++ doorFields d.position d.truck ++ optField 2 be2 d.pressure
    ++ timerField d.sealTimer ++ d.latch.field

/-- Room portal state in the order of R95. A room portal has no last pressure and no seal timer: both are
given as absent. Log entry 32. -/
def roomObject (p : Room) : List Byte :=
  [byteOf p.state.code] ++ doorFields p.position p.truck ++ optField 2 be2 none ++ timerField none
    ++ p.latch.field ++ listField Claim.field p.claims ++ listField Waiter.field p.waiting
    ++ [byteOf p.hold.code, flagByte p.holdForced, byteOf p.openedBy.code, byteOf p.request.code]
    ++ timerField p.doorTimer ++ timerField p.holdOpenTimer

/-- Coil state in the order of R118. Log entry 32. -/
def coilObject (k : Coil) : List Byte :=
  [byteOf k.phase.code, byteOf k.commanded.code] ++ echoField k.lastEcho ++ signed1 k.owed
    ++ signed1 k.limit
    ++ [flagByte k.forced, flagByte k.pullIn, flagByte k.mask, flagByte k.group, flagByte k.quietStart]
    ++ k.readings ++ optField 4 quadBytes k.lastEnd ++ k.timers

/-- Lane state in the order of R133. Log entry 32. -/
def laneObject (l : Lane) : List Byte :=
  l.config ++ [flagByte l.loaded] ++ numByte l.pallets.length ++ numByte l.reserved
    ++ listField quadBytes l.pallets

/-- Pallet state: the record index and every field of Table 7-3 (R133). Log entry 32. -/
def palletObject (i : PalletIx) (p : Pallet) : List Byte :=
  numByte i.val ++ [1#8] ++ quadBytes p.id ++ numByte p.cls.val ++ p.location.field
    ++ [byteOf p.status.code, flagByte p.quarantine, flagByte p.released] ++ be4 p.exposure
    ++ quadBytes p.arrival ++ numByte p.portal.val ++ optField 4 quadBytes p.departure

/-- A move's claim: its portal, and GRANTED 0 or WAITING 1 (Table 9-1). -/
def claimHeldField (c : RoomIx × Bool) : List Byte :=
  [byteOf (roomPortal c.1).val, if c.2 then 0#8 else 1#8]

/-- Move state: the identifier, then the order of R160. Log entry 32. -/
def moveObject (s : State) (m : Move) : List Byte :=
  numByte m.id.val ++ numByte m.source.val ++ numByte m.dest.val ++ palletField m.named
    ++ halfBytes m.reqTag ++ [byteOf m.priority.code] ++ numByte m.remaining ++ numByte m.doneCount
    ++ [flagByte m.cancelling, byteOf m.state.code, byteOf (waitState s m).code]
    ++ optField 1 (fun u : ShuttleIx => [byteOf u.val]) m.shuttle
    ++ listField claimHeldField (moveClaims s m.id) ++ palletField m.iteration

/-- The object types of READ_OBJECT and ACK_ALARM (Table 1-10). -/
inductive ObjType where
  | none
  | zone
  | probe
  | portal
  | coil
  | lane
  | pallet
  | shuttle
  | move
  deriving DecidableEq, Repr

def objType? : Nat → Option ObjType
  | 0 => some .none
  | 1 => some .zone
  | 2 => some .probe
  | 3 => some .portal
  | 4 => some .coil
  | 5 => some .lane
  | 6 => some .pallet
  | 7 => some .shuttle
  | 8 => some .move
  | _ => none

/-- READ_OBJECT, the request's own checks (R171 and the owning sections). Log entry 28. -/
def readObjectDecision (objType : Nat) (key : Quad) (part : Nat) (s : State) : Decision :=
  let i := key.toNat
  match objType? objType with
  | none | some .none => .refused .badValue
  | some .zone =>
    match finOf? 8 i with
    | some z => readReply (zoneObject (s.zone z)) part s
    | none => .refused .badIndex
  | some .probe =>
    match finOf? 32 i with
    | some p => readReply (probeObject (s.probe p)) part s
    | none => .refused .badIndex
  | some .portal =>
    match finOf? 23 i with
    | some p =>
      match portalKind p with
      | .inl d => readReply (dockObject (s.dock d)) part s
      | .inr r => readReply (roomObject (s.room r)) part s
    | none => .refused .badIndex
  | some .coil =>
    match finOf? 16 i with
    | some c => readReply (coilObject (s.coil c)) part s
    | none => .refused .badIndex
  | some .lane =>
    match finOf? 48 i with
    | some l => readReply (laneObject (s.lane l)) part s
    | none => .refused .badIndex
  | some .pallet =>
    match palletIx? s key with
    | none => .refused .notFound
    | some j =>
      match s.pallet j with
      | some p => readReply (palletObject j p) part s
      | none => .refused .notFound
  | some .shuttle =>
    match finOf? 4 i with
    | some u => readReply (shuttleObject (s.shuttle u)) part s
    | none => .refused .badIndex
  | some .move =>
    match finOf? 24 i with
    | some m =>
      match s.move? m with
      | some r => readReply (moveObject s r) part s
      | none => .refused .notFound
    | none => .refused .badIndex

/-! ## READ_COUNTERS (R7) -/

/-- Six counters in the order of Table 1-12. -/
def Counters.fields (c : Counters) : List Byte :=
  be2 c.crc ++ be2 c.length ++ be2 c.format ++ be2 c.misdirected ++ be2 c.unclassified ++ be2 c.overflow

/-- READ_COUNTERS: the twelve counters as they stand, then cleared when the clear flag asks for it (R7). A
clear byte other than 0 and 1 is out of range (log entry 28). -/
def readCountersDecision (clear : Nat) (s : State) : Decision :=
  let fields := s.trunkCounters.fields ++ s.fieldCounters.fields
  match flag? clear with
  | none => .refused .badValue
  | some false => .accepted fields s
  | some true =>
    .accepted fields { s with trunkCounters := Counters.reset, fieldCounters := Counters.reset }

end Sys2Proof.Machine
end

