-- ==== Sys2Proof/Machine/Orders.lean ====
section
/-! DEFINITION. The own checks and the effects of the requests that command the units: moves, shuttles, defrosts,
masks, quiet zones, acknowledgements and pallet corrections (sections 5 to 10). -/

namespace Sys2Proof.Machine

/-! ## MOVE_ORDER (R148, R149) -/

/-- A loaded lane with this index (check 1 of Table 9-2). -/
def loadedLane? (s : State) (l : Byte) : Option LaneIx :=
  match finOf? 48 l.toNat with
  | some i => if (s.lane i).loaded then some i else none
  | none => none

/-- A MOVE_RESULT for the identifier waits in the notice queue (R149). -/
def resultPending (s : State) (m : MoveId) : Bool :=
  s.notices.any fun n => n.kind == .moveResult && n.obj == .move m

/-- The identifier may be issued (R149). -/
def identifierFree (s : State) (m : MoveId) : Bool := (s.move? m).isNone && !resultPending s m

/-- The identifiers in the order in which they are tried: from the one after the last issued (R149). -/
def identifierOrder (last : MoveId) : List MoveId := (List.range 24).map fun k => last + 1 + Fin.ofNat 24 k

/-- The identifier the next accepted move gets (R149). -/
def nextIdentifier? (s : State) : Option MoveId := (identifierOrder s.lastMove).find? (identifierFree s)

/-- An order whose bytes passed checks 1 and 2. -/
structure OrderArgs where
  source : LaneIx
  dest : LaneIx
  named : Option PalletId
  repeats : Nat
  priority : Priority
  deriving DecidableEq, Repr

/-- Checks 3 to 10 of Table 9-2 in order; the rail and the identifier of an order that passes (R148). -/
def orderChecks (s : State) (a : OrderArgs) : Except Reason (ShuttleIx × MoveId) :=
  let src := s.lane a.source
  let dst := s.lane a.dest
  match src.rail, dst.rail with
  | some u, some v =>
    if u ≠ v then .error .noRoute
    else if a.source = a.dest then .error .badValue
    else if (s.shuttle u).loaded = false ∨ (s.shuttle u).state = .unhomed then .error .notHomed
    else if (s.zone src.zone).quiet || (s.zone dst.zone).quiet then .error .zoneQuiet
    else if ((s.zone dst.zone).alarmState = .alarm ∨ (s.zone dst.zone).alarmState = .acknowledged)
        ∧ dst.quarantine = false then .error .destAlarm
    else
      match a.named.map (livePallet? s) with
      | some none => .error .notFound
      | some (some (_, p)) =>
        if dst.zone ≠ 0 ∧ (s.cls p.cls).zones.getLsbD dst.zone.val = false then .error .classZone
        else issue u
      | none => issue u
  | _, _ => .error .noRoute
where
  /-- Check 10: room in the queue and a free identifier. -/
  issue (u : ShuttleIx) : Except Reason (ShuttleIx × MoveId) :=
    if s.moves.length < Config.moveDepth then
      match nextIdentifier? s with
      | some m => .ok (u, m)
      | none => .error .queueFull
    else .error .queueFull

/-- The repeat count taken: 0 for a move that is not repeatable (R149). -/
def repeatsTaken (s : State) (a : OrderArgs) : Nat :=
  if a.named = none ∧ (s.lane a.dest).quarantine = false then a.repeats else 0

/-- The record of an accepted order, with the destination's quarantine lane field as the order reads it (R131, R148,
R149). -/
def newMove (s : State) (reqTag : Half) (a : OrderArgs) (m : MoveId) : Move :=
  { id := m, reqTag := reqTag, source := a.source, dest := a.dest, named := a.named,
    priority := a.priority, remaining := repeatsTaken s a + 1, doneCount := 0, cancelling := false,
    state := .queued, shuttle := none, iteration := none,
    destQuarantine := (s.lane a.dest).quarantine }

/-- MOVE_ORDER, the request's own checks (R148); a named pallet of 0 is none (R167). -/
def moveOrderDecision (reqTag : Half) (source dest : Byte) (pallet : PalletId) (repeats priority : Byte)
    (s : State) : Decision :=
  match loadedLane? s source, loadedLane? s dest with
  | some src, some dst =>
    match priority? priority.toNat with
    | none => .refused .badValue
    | some p =>
      if 15 < repeats.toNat then .refused .badValue
      else
        let a : OrderArgs :=
          { source := src, dest := dst, named := if pallet = 0#32 then none else some pallet,
            repeats := repeats.toNat, priority := p }
        match orderChecks s a with
        | .error r => .refused r
        | .ok (u, m) =>
          .accepted [byteOf m.val, byteOf (repeatsTaken s a)]
            (settleRail u { s with moves := s.moves ++ [newMove s reqTag a m], lastMove := m })
  | _, _ => .refused .badIndex

/-! ## CANCEL_MOVE (R158) -/

def cancelDecision (move : Byte) (s : State) : Decision :=
  match finOf? 24 move.toNat with
  | none => .refused .badIndex
  | some i =>
    match s.move? i with
    | none => .refused .notFound
    | some m => .accepted [] (cancelMove m s)

/-! ## HOME_SHUTTLE and CLEAR_SHUTTLE (R142, R144) -/

def homeDecision (shuttle : Byte) (s : State) : Decision :=
  match finOf? 4 shuttle.toNat with
  | none => .refused .badIndex
  | some u =>
    let v := s.shuttle u
    if v.loaded = false then .refused .notFound
    else if homingBusy v then .refused .busy
    else if (homingDoors v).any fun r => (s.zone (roomZone r)).quiet then .refused .zoneQuiet
    else .accepted [] (startHoming u s)

/-- The state a CLEAR_SHUTTLE declares: true for IDLE (code 2 of Table 3-6), false for UNHOMED (code 0). -/
def clearState? : Nat → Option Bool
  | 0 => some false
  | 2 => some true
  | _ => none

/-- The position a CLEAR_SHUTTLE declares: UNKNOWN is 0xFF, and any other must lie on the rail (R144). -/
def declaredPosition? (v : Shuttle) (b : Byte) : Option (Option RailPos) :=
  if b = 0xFF#8 then some none
  else
    match finOf? 64 b.toNat with
    | some p => if (v.segment? p).isSome then some (some p) else none
    | none => none

/-- The BAD_VALUE cases of R144: what is declared, or none. -/
def declared? (v : Shuttle) (state position : Byte) (deck : PalletId) (lane : Option LaneIx) :
    Option Clearing :=
  match clearState? state.toNat, declaredPosition? v position with
  | some toIdle, some pos =>
    if toIdle = true ∧ pos = none then none
    else if deck = 0#32 ∧ lane.isSome = true then none
    else some { toIdle := toIdle, position := pos, deck := if deck = 0#32 then none else some deck, lane := lane }
  | _, _ => none

/-- The declared lane cannot take the pallet (R144). -/
def laneRefuses (s : State) (lane : Option LaneIx) : Bool :=
  match lane with
  | some l => !((s.lane l).loaded && (s.lane l).hasRoom)
  | none => false

/-- CLEAR_SHUTTLE once its shuttle and its lane are known (R144). -/
def clearKnown (u : ShuttleIx) (state position : Byte) (deck : PalletId) (lane : Option (Option LaneIx))
    (s : State) : Decision :=
  let v := s.shuttle u
  if v.loaded = false then .refused .notFound
  else if v.state ≠ .fault then .refused .busy
  else
    match lane with
    | none => .refused .badValue
    | some lane =>
      match declared? v state position deck lane with
      | none => .refused .badValue
      | some d =>
        if d.deck.isSome = true ∧ d.deck ≠ v.deck then .refused .notFound
        else if laneRefuses s d.lane then .refused .busy
        else .accepted [] (clearShuttle u d s)

/-- CLEAR_SHUTTLE, the request's own checks. A lane presence byte other than 0 and 1 is out of range (R144, log
entry 28). -/
def clearShuttleDecision (shuttle state position : Byte) (deck : PalletId) (lanePresent lane : Byte)
    (s : State) : Decision :=
  match finOf? 4 shuttle.toNat with
  | none => .refused .badIndex
  | some u =>
    match flag? lanePresent.toNat with
    | none => clearKnown u state position deck none s
    | some false => clearKnown u state position deck (some none) s
    | some true =>
      match finOf? 48 lane.toNat with
      | none => .refused .badIndex
      | some l => clearKnown u state position deck (some (some l)) s

/-! ## Defrost requests (R105, R106, R114, R116) -/

/-- DEFROST_NOW naming a coil (R105). -/
def defrostCoil (index : Nat) (s : State) : Decision :=
  match finOf? 16 index with
  | none => .refused .badIndex
  | some c =>
    let k := s.coil c
    if k.loaded = false then .refused .notFound
    else if k.outOfCool then .accepted [] s
    else .accepted [] (selectZone k.zone (s.modCoil c fun k => { k with pullIn := true }))

/-- The zone's coils in COOL with mask clear (R105). -/
def pullInCoils (s : State) (z : ZoneIx) : List CoilIx :=
  (zoneCoils s z).filter fun c => !(s.coil c).outOfCool && !(s.coil c).mask

/-- DEFROST_NOW naming a zone (R105). -/
def defrostZone (index : Nat) (s : State) : Decision :=
  match finOf? 8 index with
  | none => .refused .badIndex
  | some z =>
    if (s.zone z).inUse then
      .accepted []
        (selectZone z
          (forEach (pullInCoils s z) (fun c s => s.modCoil c fun k => { k with pullIn := true }) s))
    else .refused .notFound

/-- DEFROST_NOW, the request's own checks: kind 0 is a coil, 1 a zone, any other out of range (R105, R167).
Log entry 28. -/
def defrostDecision (kind index : Byte) (s : State) : Decision :=
  match kind.toNat with
  | 0 => defrostCoil index.toNat s
  | 1 => defrostZone index.toNat s
  | _ => .refused .badValue

/-- A coil's mask after a SET_COIL_MASK: the set-mask wins (R106). -/
def maskAfter (setMask clearMask : Half) (c : CoilIx) (k : Coil) : Bool :=
  if k.loaded then
    if setMask.getLsbD c.val then true else if clearMask.getLsbD c.val then false else k.mask
  else k.mask

/-- The zones in which a loaded coil's mask changes, ascending (R102, R106). -/
def maskedZones (setMask clearMask : Half) (s : State) : List ZoneIx :=
  (indices 8).filter fun z =>
    (zoneCoils s z).any fun c => maskAfter setMask clearMask c (s.coil c) != (s.coil c).mask

/-- SET_COIL_MASK: every mask changes, then each changed zone's selection (R106). Log entry 15. -/
def setCoilMask (setMask clearMask : Half) (s : State) : State :=
  forEach (maskedZones setMask clearMask s) selectZone
    (forEach (indices 16)
      (fun c s => s.modCoil c fun k => { k with mask := maskAfter setMask clearMask c k }) s)

/-- QUIET_ENTER, the request's own checks in order (R114). -/
def quietEnterDecision (zone : Byte) (s : State) : Decision :=
  match finOf? 8 zone.toNat with
  | none => .refused .badIndex
  | some z =>
    match zoneRoom? z with
    | none => .refused .badValue
    | some r =>
      if (s.zone z).inUse = false then .refused .badValue
      else if (s.zone z).quiet then .accepted [] s
      else if !(s.room r).isIdle || (zoneCoils s z).any fun c => (s.coil c).outOfCool then .refused .busy
      else
        .accepted []
          (withdrawCommands r .doorOpen .zoneQuiet (s.modZone z fun n => { n with quiet := true }))

/-- QUIET_EXIT, the request's own checks; the flag is cleared, owed raised, the selection evaluated (R116). -/
def quietExitDecision (zone : Byte) (s : State) : Decision :=
  match finOf? 8 zone.toNat with
  | none => .refused .badIndex
  | some z =>
    if z = 0 ∨ (s.zone z).inUse = false then .refused .badValue
    else if (s.zone z).quiet then
      .accepted [] (raiseZoneOwed 1 z (s.modZone z fun n => { n with quiet := false }))
    else .accepted [] s

/-! ## ACK_ALARM (R66, R83, R166) -/

def ackZone (index : Nat) (s : State) : Decision :=
  match finOf? 8 index with
  | none => .refused .badIndex
  | some z =>
    if (s.zone z).inUse = true ∧ (s.zone z).alarmState = .alarm then
      .accepted [] (s.modZone z fun n => { n with alarmState := .acknowledged })
    else .refused .notFound

def ackPortal (index : Nat) (s : State) : Decision :=
  match finOf? 23 index with
  | none => .refused .badIndex
  | some i =>
    match portalKind i with
    | .inl p =>
      if (s.dock p).latch.isEmpty then .refused .notFound
      else .accepted [] (s.modDock p fun d => { d with latch := Latch.empty })
    | .inr r =>
      if (s.room r).latch.isEmpty then .refused .notFound
      else .accepted [] (s.modRoom r fun p => { p with latch := Latch.empty })

/-- ACK_ALARM, the request's own checks by the object type (R166). Log entry 28. -/
def ackDecision (objType : Nat) (key : Quad) (s : State) : Decision :=
  match objType? objType with
  | some .zone => ackZone key.toNat s
  | some .portal => ackPortal key.toNat s
  | some .none | some .probe | some .coil | some .lane | some .pallet | some .shuttle | some .move
  | none => .refused .badValue

/-! ## Pallet corrections (R128 to R130) -/

/-- PALLET_PLACE, the request's own checks in order (R128). -/
def placeDecision (pallet : PalletId) (lane : Byte) (s : State) : Decision :=
  match finOf? 48 lane.toNat with
  | none => .refused .badIndex
  | some l =>
    match livePallet? s pallet with
    | none => .refused .notFound
    | some (_, p) =>
      if (s.lane l).loaded = false then .refused .notFound
      else if p.location ≠ .unplaced then .refused .badValue
      else if (s.lane l).hasRoom then .accepted [] (appendToLane l pallet s)
      else .refused .busy

/-- PALLET_REMOVE, the request's own checks (R129). -/
def removeDecision (pallet : PalletId) (s : State) : Decision :=
  match palletIx? s pallet with
  | none => .refused .notFound
  | some i =>
    match s.pallet i with
    | none => .refused .notFound
    | some p =>
      if p.status = .carried ∨ p.status = .held then .refused .busy
      else .accepted [] (removePallet i p s)

/-- RELEASE_QUARANTINE, the request's own checks (R130). -/
def releaseDecision (pallet : PalletId) (s : State) : Decision :=
  match livePallet? s pallet with
  | none => .refused .notFound
  | some (i, p) =>
    if p.quarantine then
      .accepted [] (s.modPallet i fun q => { q with quarantine := false, released := true })
    else .refused .notFound

end Sys2Proof.Machine
end

