-- ==== Sys2Proof/WellFormed.lean ====
section
/-! DEFINITION. Which terms of Instr spell something that can arrive: a frame row's payload fits the 64 bytes
of Table 1-8, a frame has at least one character (R1), a request's fields fit its payload, and an object that
is not a pallet is named by one byte (R167). -/

namespace Sys2Proof

/-- Payload bytes a frame may carry (Table 1-8). -/
def maxPayload : Nat := 64

/-- The object type code of PALLET (Table 1-10): its key is a four-byte identifier, any other type's is one
byte (R167). -/
def palletTypeCode : Byte := 6#8

/-- An object key fits its layout of R167. -/
def keyFits (objType : Byte) (key : Quad) : Bool :=
  objType == palletTypeCode || decide (key.toNat < 256)

/-- The checks on a command's operands; every other operand is held to its width by its type. -/
def Instr.wf : Instr → Bool
  | .frameCompletion _ bytes _ => !bytes.isEmpty
  | .sample _ _ _ _ extra => decide (4 + extra.length ≤ maxPayload)
  | .doorReport _ _ _ extra => decide (2 + extra.length ≤ maxPayload)
  | .pressure _ _ extra => decide (2 + extra.length ≤ maxPayload)
  | .tagRead _ _ _ _ extra => decide (6 + extra.length ≤ maxPayload)
  | .shuttleReport _ _ _ _ extra => decide (3 + extra.length ≤ maxPayload)
  | .coilReport _ _ _ extra => decide (3 + extra.length ≤ maxPayload)
  | .actCommand _ _ _ extra => decide (2 + extra.length ≤ maxPayload)
  | .loadEntry _ _ _ fields => decide (3 + fields.length ≤ maxPayload)
  | .readObject _ t key _ => keyFits t key
  | .ackAlarm _ t key => keyFits t key
  | .powerOn _ | .readEntry .. | .clearTable .. | .readCounters .. | .activate _ | .deactivate _
  | .restart _ | .setTime .. | .moveOrder .. | .cancelMove .. | .homeShuttle .. | .clearShuttle ..
  | .defrostNow .. | .setCoilMask .. | .quietEnter .. | .quietExit .. | .palletPlace ..
  | .palletRemove .. | .releaseQuarantine .. | .endOfTransmission _ | .timeBaseTick
  | .exposureIntervalExpiry | .stalenessTimerExpiry _ | .allowanceTimerExpiry _ | .sealTimerExpiry _
  | .doorTimerExpiry _ | .holdOpenTimerExpiry _ | .intervalTimerExpiry _ | .spacingTimerExpiry _
  | .phaseTimerExpiry _ | .followTimerExpiry _ | .reportTimerExpiry _ | .stepTimerExpiry _
  | .parkTimerExpiry _ | .holdGrant _ | .waitingClaimGrant _ | .armedTravelStart _
  | .homingOrderSent _ | .pickUpDecision _ | .assignment _ | .stepRetry _ | .lineIdle _ => true

end Sys2Proof
end

