-- ==== Sys2Proof/Machine/Management.lean ====
section
/-! DEFINITION. The management block (section 11): one operation per request of Table 11-1, each with its form,
access and mode tests, and the reading of a MGMT_REQUEST's payload. -/

namespace Sys2Proof.Machine

/-! ## The requests of Table 11-1 -/

def reqLoadEntry (q : Sender) (table index : Byte) (fields : List Byte) (s : State) : State :=
  takeRequest q (loadForm table.toNat index.toNat fields) .manager .both
    (loadDecision table.toNat index.toNat fields) s

def reqReadEntry (q : Sender) (table index part : Byte) (s : State) : State :=
  takeRequest q true .anySource .both (readEntryDecision table.toNat index.toNat part.toNat) s

def reqClearTable (q : Sender) (table : Byte) (s : State) : State :=
  takeRequest q true .manager .configOnly (clearDecision table.toNat) s

def reqReadObject (q : Sender) (objType : Byte) (key : Quad) (part : Byte) (s : State) : State :=
  takeRequest q true .anySource .both (readObjectDecision objType.toNat key part.toNat) s

/-- Any source without the clear flag, the manager alone with it (R7, Table 11-1). Log entry 28. -/
def countersAccess (clear : Byte) : Access := if clear = 1#8 then .manager else .anySource

def reqReadCounters (q : Sender) (clear : Byte) (s : State) : State :=
  takeRequest q true (countersAccess clear) .both (readCountersDecision clear.toNat) s

def reqActivate (q : Sender) (s : State) : State :=
  takeRequest q true .manager .configOnly activateDecision s

def reqDeactivate (q : Sender) (s : State) : State :=
  takeRequest q true .manager .activeOnly deactivateDecision s

def reqRestart (q : Sender) (s : State) : State :=
  takeRequest q true .manager .both (fun s => .accepted [] (restarted s)) s

def reqSetTime (q : Sender) (count : Quad) (s : State) : State :=
  takeRequest q true .manager .both (fun s => .accepted [] { s with count := count }) s

def reqMoveOrder (q : Sender) (reqTag : Half) (source dest : Byte) (pallet : PalletId)
    (repeats priority : Byte) (s : State) : State :=
  takeRequest q true .manager .activeOnly
    (moveOrderDecision reqTag source dest pallet repeats priority) s

def reqCancelMove (q : Sender) (move : Byte) (s : State) : State :=
  takeRequest q true .manager .activeOnly (cancelDecision move) s

def reqHomeShuttle (q : Sender) (shuttle : Byte) (s : State) : State :=
  takeRequest q true .manager .activeOnly (homeDecision shuttle) s

def reqClearShuttle (q : Sender) (shuttle state position : Byte) (deck : PalletId)
    (lanePresent lane : Byte) (s : State) : State :=
  takeRequest q true .manager .activeOnly
    (clearShuttleDecision shuttle state position deck lanePresent lane) s

def reqDefrostNow (q : Sender) (kind index : Byte) (s : State) : State :=
  takeRequest q true .manager .activeOnly (defrostDecision kind index) s

def reqSetCoilMask (q : Sender) (setMask clearMask : Half) (s : State) : State :=
  takeRequest q true .manager .both (fun s => .accepted [] (setCoilMask setMask clearMask s)) s

def reqQuietEnter (q : Sender) (zone : Byte) (s : State) : State :=
  takeRequest q true .manager .activeOnly (quietEnterDecision zone) s

def reqQuietExit (q : Sender) (zone : Byte) (s : State) : State :=
  takeRequest q true .manager .activeOnly (quietExitDecision zone) s

def reqAckAlarm (q : Sender) (objType : Byte) (key : Quad) (s : State) : State :=
  takeRequest q true .manager .both (ackDecision objType.toNat key) s

def reqPalletPlace (q : Sender) (pallet : PalletId) (lane : Byte) (s : State) : State :=
  takeRequest q true .manager .both (placeDecision pallet lane) s

def reqPalletRemove (q : Sender) (pallet : PalletId) (s : State) : State :=
  takeRequest q true .manager .both (removeDecision pallet) s

def reqReleaseQuarantine (q : Sender) (pallet : PalletId) (s : State) : State :=
  takeRequest q true .manager .both (releaseDecision pallet) s

/-- A request whose name is unknown or whose payload is too short: BAD_REQUEST, behind the reply queue test
(R168). -/
def reqBad (q : Sender) (s : State) : State :=
  takeRequest q false .anySource .both (fun _ => .refused .badRequest) s

/-! ## A MGMT_REQUEST's payload (R167) -/

/-- The requests of Table 11-1 with their fields. -/
inductive Request where
  | loadEntry (table index : Byte) (fields : List Byte)
  | readEntry (table index part : Byte)
  | clearTable (table : Byte)
  | readObject (objType : Byte) (key : Quad) (part : Byte)
  | readCounters (clear : Byte)
  | activate
  | deactivate
  | restart
  | setTime (count : Quad)
  | moveOrder (reqTag : Half) (source dest : Byte) (pallet : PalletId) (repeats priority : Byte)
  | cancelMove (move : Byte)
  | homeShuttle (shuttle : Byte)
  | clearShuttle (shuttle state position : Byte) (deck : PalletId) (lanePresent lane : Byte)
  | defrostNow (kind index : Byte)
  | setCoilMask (setMask clearMask : Half)
  | quietEnter (zone : Byte)
  | quietExit (zone : Byte)
  | ackAlarm (objType : Byte) (key : Quad)
  | palletPlace (pallet : PalletId) (lane : Byte)
  | palletRemove (pallet : PalletId)
  | releaseQuarantine (pallet : PalletId)
  deriving DecidableEq, Repr

/-- An object of READ_OBJECT and ACK_ALARM: the type byte, then a one-byte index, or a four-byte identifier for
PALLET; with what follows it (R167). -/
def objectKey? : List Byte → Option (Byte × Quad × List Byte)
  | t :: rest =>
    if t = palletTypeCode then
      match rest with
      | a :: b :: c :: d :: more => some (t, quad a b c d, more)
      | _ => none
    else
      match rest with
      | i :: more => some (t, quad 0#8 0#8 0#8 i, more)
      | _ => none
  | [] => none

/-- READ_OBJECT's fields: the object, then the part number. -/
def readObject? (fields : List Byte) : Option Request :=
  match objectKey? fields with
  | some (t, key, part :: _) => some (.readObject t key part)
  | _ => none

/-- ACK_ALARM's fields: the object. -/
def ackAlarm? (fields : List Byte) : Option Request :=
  (objectKey? fields).map fun (t, key, _) => .ackAlarm t key

/-- A request's name and fields; none when the name is absent from Table 11-1 or the payload is too short
(R168). Bytes beyond the last field are ignored. Log entry 31. -/
def request? : List Byte → Option Request
  | [] => none
  | name :: fields =>
    match name.toNat, fields with
    | 0x01, t :: i :: rest => some (.loadEntry t i rest)
    | 0x02, t :: i :: p :: _ => some (.readEntry t i p)
    | 0x03, t :: _ => some (.clearTable t)
    | 0x04, fields => readObject? fields
    | 0x05, c :: _ => some (.readCounters c)
    | 0x06, _ => some .activate
    | 0x07, _ => some .deactivate
    | 0x08, _ => some .restart
    | 0x09, a :: b :: c :: d :: _ => some (.setTime (quad a b c d))
    | 0x0A, t1 :: t0 :: src :: dst :: a :: b :: c :: d :: r :: p :: _ =>
      some (.moveOrder (half t1 t0) src dst (quad a b c d) r p)
    | 0x0B, m :: _ => some (.cancelMove m)
    | 0x0C, u :: _ => some (.homeShuttle u)
    | 0x0D, u :: st :: p :: a :: b :: c :: d :: lp :: l :: _ =>
      some (.clearShuttle u st p (quad a b c d) lp l)
    | 0x0E, k :: i :: _ => some (.defrostNow k i)
    | 0x0F, s1 :: s0 :: c1 :: c0 :: _ => some (.setCoilMask (half s1 s0) (half c1 c0))
    | 0x10, z :: _ => some (.quietEnter z)
    | 0x11, z :: _ => some (.quietExit z)
    | 0x12, fields => ackAlarm? fields
    | 0x13, a :: b :: c :: d :: l :: _ => some (.palletPlace (quad a b c d) l)
    | 0x14, a :: b :: c :: d :: _ => some (.palletRemove (quad a b c d))
    | 0x15, a :: b :: c :: d :: _ => some (.releaseQuarantine (quad a b c d))
    | _, _ => none

/-- Take a request by its name (R168). Log entry 8. -/
def Request.take (q : Sender) (r : Request) (s : State) : State :=
  match r with
  | .loadEntry t i f => reqLoadEntry q t i f s
  | .readEntry t i p => reqReadEntry q t i p s
  | .clearTable t => reqClearTable q t s
  | .readObject t k p => reqReadObject q t k p s
  | .readCounters c => reqReadCounters q c s
  | .activate => reqActivate q s
  | .deactivate => reqDeactivate q s
  | .restart => reqRestart q s
  | .setTime n => reqSetTime q n s
  | .moveOrder tag src dst p r pr => reqMoveOrder q tag src dst p r pr s
  | .cancelMove m => reqCancelMove q m s
  | .homeShuttle u => reqHomeShuttle q u s
  | .clearShuttle u st p d lp l => reqClearShuttle q u st p d lp l s
  | .defrostNow k i => reqDefrostNow q k i s
  | .setCoilMask a b => reqSetCoilMask q a b s
  | .quietEnter z => reqQuietEnter q z s
  | .quietExit z => reqQuietExit q z s
  | .ackAlarm t k => reqAckAlarm q t k s
  | .palletPlace p l => reqPalletPlace q p l s
  | .palletRemove p => reqPalletRemove q p s
  | .releaseQuarantine p => reqReleaseQuarantine q p s

/-- The management block takes a MGMT_REQUEST frame that R5 hands it (R168). Log entry 8. -/
def manage (f : Frame) (s : State) : State :=
  let q : Sender := { src := f.src, tag := f.tag }
  match request? f.payload with
  | some r => r.take q s
  | none => reqBad q s

end Sys2Proof.Machine
end

