-- ==== Sys2Proof/Machine/Commands.lean ====
section
/-! DEFINITION. The meanings of the request rows: the management block takes the request (R168). -/

namespace Sys2Proof.Machine

/-- LOAD_ENTRY (R170). -/
def execLoadEntry (q : Sender) (table index : Byte) (fields : List Byte) (s : State) :
    Host.Outcome State Fault Refusal :=
  .next (reqLoadEntry q table index fields s)

/-- READ_ENTRY (R171). -/
def execReadEntry (q : Sender) (table index part : Byte) (s : State) :
    Host.Outcome State Fault Refusal :=
  .next (reqReadEntry q table index part s)

/-- CLEAR_TABLE (R172). -/
def execClearTable (q : Sender) (table : Byte) (s : State) : Host.Outcome State Fault Refusal :=
  .next (reqClearTable q table s)

/-- READ_OBJECT (R171). -/
def execReadObject (q : Sender) (objType : Byte) (key : Quad) (part : Byte) (s : State) :
    Host.Outcome State Fault Refusal :=
  .next (reqReadObject q objType key part s)

/-- READ_COUNTERS (R7). -/
def execReadCounters (q : Sender) (clear : Byte) (s : State) : Host.Outcome State Fault Refusal :=
  .next (reqReadCounters q clear s)

/-- ACTIVATE (R173, R174). -/
def execActivate (q : Sender) (s : State) : Host.Outcome State Fault Refusal := .next (reqActivate q s)

/-- DEACTIVATE (R175). -/
def execDeactivate (q : Sender) (s : State) : Host.Outcome State Fault Refusal := .next (reqDeactivate q s)

/-- RESTART (R176). -/
def execRestart (q : Sender) (s : State) : Host.Outcome State Fault Refusal := .next (reqRestart q s)

/-- SET_TIME (R177). -/
def execSetTime (q : Sender) (count : Quad) (s : State) : Host.Outcome State Fault Refusal :=
  .next (reqSetTime q count s)

/-- MOVE_ORDER (R148, R149). -/
def execMoveOrder (q : Sender) (reqTag : Half) (source dest : Byte) (pallet : PalletId)
    (repeats priority : Byte) (s : State) : Host.Outcome State Fault Refusal :=
  .next (reqMoveOrder q reqTag source dest pallet repeats priority s)

/-- CANCEL_MOVE (R158). -/
def execCancelMove (q : Sender) (move : Byte) (s : State) : Host.Outcome State Fault Refusal :=
  .next (reqCancelMove q move s)

/-- HOME_SHUTTLE (R142). -/
def execHomeShuttle (q : Sender) (shuttle : Byte) (s : State) : Host.Outcome State Fault Refusal :=
  .next (reqHomeShuttle q shuttle s)

/-- CLEAR_SHUTTLE (R144). -/
def execClearShuttle (q : Sender) (shuttle state position : Byte) (deck : PalletId)
    (lanePresent lane : Byte) (s : State) : Host.Outcome State Fault Refusal :=
  .next (reqClearShuttle q shuttle state position deck lanePresent lane s)

/-- DEFROST_NOW (R105). -/
def execDefrostNow (q : Sender) (kind index : Byte) (s : State) : Host.Outcome State Fault Refusal :=
  .next (reqDefrostNow q kind index s)

/-- SET_COIL_MASK (R106). -/
def execSetCoilMask (q : Sender) (setMask clearMask : Half) (s : State) :
    Host.Outcome State Fault Refusal :=
  .next (reqSetCoilMask q setMask clearMask s)

/-- QUIET_ENTER (R114). -/
def execQuietEnter (q : Sender) (zone : Byte) (s : State) : Host.Outcome State Fault Refusal :=
  .next (reqQuietEnter q zone s)

/-- QUIET_EXIT (R116). -/
def execQuietExit (q : Sender) (zone : Byte) (s : State) : Host.Outcome State Fault Refusal :=
  .next (reqQuietExit q zone s)

/-- ACK_ALARM (R166). -/
def execAckAlarm (q : Sender) (objType : Byte) (key : Quad) (s : State) :
    Host.Outcome State Fault Refusal :=
  .next (reqAckAlarm q objType key s)

/-- PALLET_PLACE (R128). -/
def execPalletPlace (q : Sender) (pallet : PalletId) (lane : Byte) (s : State) :
    Host.Outcome State Fault Refusal :=
  .next (reqPalletPlace q pallet lane s)

/-- PALLET_REMOVE (R129). -/
def execPalletRemove (q : Sender) (pallet : PalletId) (s : State) : Host.Outcome State Fault Refusal :=
  .next (reqPalletRemove q pallet s)

/-- RELEASE_QUARANTINE (R130). -/
def execReleaseQuarantine (q : Sender) (pallet : PalletId) (s : State) :
    Host.Outcome State Fault Refusal :=
  .next (reqReleaseQuarantine q pallet s)

end Sys2Proof.Machine
end

