-- ==== Sys2Proof/Machine/Gate.lean ====
section
/-! DEFINITION. The command gate (section 3): the built-in checks, the interlock conditions, and the five steps
of Table 3-1 with the placement effects on portal records. -/

namespace Sys2Proof.Machine

/-! ## Targets and built-in checks (R33 to R36) -/

/-- The five kinds of target (3.2). A DOOR and a SEAL of the same index below 16 are the same dock portal. -/
inductive Target where
  | dock (p : DockIx)
  | room (r : RoomIx)
  | coil
  | shuttle
  | actuator
  deriving DecidableEq, Repr

/-- The target a bound object is; the classifier hands the gate no PROBE, READER or NONE (R20). -/
def Bound.target? : Bound → Option Target
  | .door i =>
    match portalKind i with
    | .inl p => some (.dock p)
    | .inr r => some (.room r)
  | .seal p => some (.dock p)
  | .coil _ => some .coil
  | .shuttle _ => some .shuttle
  | .actuator _ => some .actuator
  | .probe _ => Option.none
  | .reader _ => Option.none
  | .none => Option.none

/-- A coil bound to the zone is in PUMP_DOWN, HEAT or DRIP (R35). -/
def zoneHeating (s : State) (z : ZoneIx) : Bool := (zoneCoils s z).any fun c => (s.coil c).phase.underHold

/-- The built-in checks of a dock portal target (R34). -/
def dockRefusal? (d : Dock) : Action → Option GateReason
  | .doorOpen => if d.state = .sealed then none else some .sealNotReady
  | .sealDeflate =>
    if d.position = some .opened ∨ d.position = some .moving then some .doorNotClosed else none
  | .doorClose | .sealInflate | .coilPhase | .shuttleDirect => none

/-- The built-in checks of a room portal target (R35). -/
def roomRefusal? (s : State) (r : RoomIx) : Action → Option GateReason
  | .doorOpen =>
    if (s.room r).hold = .set ∨ zoneHeating s (roomZone r) = true then some .defrostHold
    else if (s.zone (roomZone r)).quiet then some .zoneQuiet
    else none
  | .doorClose => if (s.room r).claims.isEmpty then none else some .crossing
  | .sealInflate | .sealDeflate | .coilPhase | .shuttleDirect => none

/-- Step 2 of the gate: the reason of the built-in check that refuses the command, if one does (Table 3-2). -/
def builtInRefusal? (s : State) (t : Target) (a : Action) : Option GateReason :=
  match t with
  | .dock p => dockRefusal? (s.dock p) a
  | .room r => roomRefusal? s r a
  | .coil | .shuttle => some .ownedByPart
  | .actuator => none

/-! ## Interlock conditions (R44 to R46) -/

/-- The value of a zone's attribute while the zone is in use (Table 3-5); a temperature needs a VALID zone,
and zone 0 is never quiet (R45). -/
def zoneAttr? (z : ZoneIx) (n : Zone) : ZoneAttr → Option Int
  | .temperature => if n.status = .valid then some n.value else none
  | .exposure => some n.exposure
  | .alarmState => some n.alarmState.code
  | .quiet => some (if z ≠ 0 ∧ n.quiet = true then 1 else 0)
  | .frostLoad => some n.frost

/-- The value of a dock portal's attribute: a dock portal has no claims, and UNKNOWN is no value (Table
3-5). -/
def dockAttr? (d : Dock) : PortalAttr → Option Int
  | .state => if d.loaded = true ∧ d.state ≠ .unknown then some d.state.code else none
  | .claims => none

/-- The value of a room portal's attribute while its zone is in use (R21, Table 3-5). -/
def roomAttr? (inUse : Bool) (p : Room) : PortalAttr → Option Int
  | .state => if inUse = true ∧ p.state ≠ .unknown then some p.state.code else none
  | .claims => if inUse then some p.claims.length else none

/-- The value of a condition's subject, none when it is unavailable (R45, Table 3-5). -/
def subjectValue? (s : State) : Subject → Option Int
  | .zone z a => if (s.zone z).inUse then zoneAttr? z (s.zone z) a else none
  | .probeTemperature i =>
    let p := s.probe i
    if p.loaded = true ∧ p.state.usable = true then some (roundTemp p.filtered) else none
  | .portal i a =>
    match portalKind i with
    | .inl p => dockAttr? (s.dock p) a
    | .inr r => roomAttr? (s.zone (roomZone r)).inUse (s.room r) a
  | .coil c a =>
    let k := s.coil c
    if k.loaded then
      match a with
      | .phase => some k.phase.code
      | .owed => some k.owed
    else none
  | .shuttleState u => if (s.shuttle u).loaded then some (s.shuttle u).state.code else none
  | .laneOccupancy l => if (s.lane l).loaded then some (s.lane l).pallets.length else none

/-- A field that admits ANY agrees with a value. -/
def anyOr {α : Type} [DecidableEq α] (field : Option α) (x : α) : Bool :=
  match field with
  | none => true
  | some y => decide (y = x)

/-- The entry's target type and index cover the command's target; types are compared exactly (R44). -/
def CondTarget.covers : CondTarget → Bound → Bool
  | .door i, .door j => anyOr i j
  | .seal i, .seal j => anyOr i j
  | .coil i, .coil j => anyOr i j
  | .shuttle i, .shuttle j => anyOr i j
  | .actuator i, .actuator j => anyOr i j
  | _, _ => false

/-- An entry applies to a command (R44). -/
def Condition.applies (c : Condition) (b : Bound) (a : Action) : Bool :=
  c.enabled && anyOr c.action a && c.target.covers b

/-- An entry's condition is true: its subject is available and bears the comparison (R46). -/
def Condition.holds (s : State) (c : Condition) : Bool :=
  match subjectValue? s c.subject with
  | some v => c.cmp.holds v c.reference
  | none => false

/-- Step 3: the first applying entry whose condition is false (R44, R46). -/
def refusingEntry? (s : State) (b : Bound) (a : Action) : Option (Fin 64) :=
  tfind (fun c => c.applies b a && !c.holds s) s.conditions

/-- A condition refuses the command: its count rises, and the refusal carries its reason and its index
(R46). -/
def refuseByCondition (f : Frame) (i : Fin 64) (s : State) : State :=
  refuseCommand f (s.condition i).reason (byteOf i.val)
    (s.modCondition i fun c => { c with refusals := satAdd Config.countTop c.refusals 1 })

/-! ## Placement (R38 to R41) -/

/-- A frame was placed in a queue through an entry: the entry's stored payload, time and age are replaced
(R23). -/
def storePayload (e : Fin 128) (f : Frame) (s : State) : State :=
  let now := s.count
  s.modEntry e fun n => { n with stored := some { payload := f.payload, time := now, age := 0 } }

/-- The effects of a placed command on the record of the portal it addresses (R39 to R41). -/
def placementEffect (t : Target) (a : Action) (s : State) : State :=
  match t, a with
  | .dock p, .sealInflate =>
    if (s.dock p).state = .idle then
      s.modDock p fun d => { d with state := .inflating, sealTimer := some d.inflateTime }
    else s
  | .dock p, .sealDeflate =>
    if (s.dock p).state = .sealed then
      s.modDock p fun d => { d with state := .deflating, sealTimer := some d.deflateTime }
    else s
  | .room r, .doorOpen =>
    if (s.room r).claims.isEmpty then s.modRoom r fun p => { p with openedBy := .outside } else s
  | _, _ => s

/-- Steps 4 and 5: QUEUE_FULL at a full share, otherwise placement with its effects (R38). -/
def placeCommand (e : Fin 128) (f : Frame) (b : Bound) (t : Target) (a : Action) (s : State) : State :=
  if forwardedFull s then refuseBuiltIn f .queueFull (countEvent .trunk .overflow s)
  else placementEffect t a (storePayload e f (placeForwarded f (some b) s))

/-! ## The gate (R32, R33) -/

/-- Step 1 fails: no entry matched the command (R33). -/
def gateUnmatched (f : Frame) (s : State) : State :=
  refuseBuiltIn f .unknownTarget (countEvent .trunk .unclassified s)

/-- The gate decides a command with its target by steps 2 to 5 of Table 3-1 (R32). -/
def gateCommand (e : Fin 128) (f : Frame) (b : Bound) (t : Target) (a : Action) (s : State) : State :=
  match builtInRefusal? s t a with
  | some r => refuseBuiltIn f r s
  | none =>
    match refusingEntry? s b a with
    | some i => refuseByCondition f i s
    | none => placeCommand e f b t a s

end Sys2Proof.Machine
end

