-- ==== Sys2Proof/Machine/Classifier.lean ====
section
/-! DEFINITION. The classifier (section 2): matching, the checks on a matched frame, delivery to the units,
forwarding, unmatched frames, and the pass-through of CONFIG. -/

namespace Sys2Proof.Machine

/-! ## Matching (R18) -/

/-- The entry matches a frame of this direction, node address and kind (R18). -/
def ClassEntry.covers (e : ClassEntry) (d : Direction) (node kind : Byte) : Bool :=
  e.valid && e.direction == d && e.node == node && anyOr e.kind kind

/-- The lowest-numbered matching entry (R18). -/
def matching? (s : State) (d : Direction) (node kind : Byte) : Option (Fin 128) :=
  tfind (fun e => e.covers d node kind) s.classTable

/-- The matching entry's hit count rises by one, saturating (R18). -/
def countHit (e : Fin 128) (s : State) : State :=
  s.modEntry e fun n => { n with hits := satAdd Config.countTop n.hits 1 }

/-- The frame is longer than its entry admits; 0 admits every length (R19). -/
def ClassEntry.tooLong (e : ClassEntry) (f : Frame) : Bool :=
  decide (e.maxPayload ≠ 0) && decide (e.maxPayload < f.payload.length)

/-! ## Bindings (R20, Table 2-3) -/

/-- Where the content of an upward frame goes (Table 2-3). -/
inductive Delivery where
  | sampleProbe (i : ProbeIx)
  | sampleCoil (c : CoilIx)
  | coilReport (c : CoilIx)
  | doorReport (i : PortalIx)
  | pressure (p : DockIx)
  | tagRead (p : DockIx)
  | shuttleReport (u : ShuttleIx)
  deriving DecidableEq, Repr

/-- The verdict of Table 2-3 on an upward frame: delivered to a unit, carried without delivery, or a kind and
object mismatch. -/
inductive Binds where
  | delivered (d : Delivery)
  | carried
  | mismatch
  deriving DecidableEq, Repr

/-- The UP rows of Table 2-3. -/
def bindUp (kind : Byte) (b : Bound) : Binds :=
  match b with
  | .none => .carried
  | .probe i => if kind = kindSample then .delivered (.sampleProbe i) else .mismatch
  | .coil c =>
    if kind = kindSample then .delivered (.sampleCoil c)
    else if kind = kindCoilReport then .delivered (.coilReport c)
    else .mismatch
  | .door i => if kind = kindDoorReport then .delivered (.doorReport i) else .mismatch
  | .seal p => if kind = kindPressure then .delivered (.pressure p) else .mismatch
  | .reader p => if kind = kindTagRead then .delivered (.tagRead p) else .mismatch
  | .shuttle u => if kind = kindShuttleReport then .delivered (.shuttleReport u) else .mismatch
  | .actuator _ => .mismatch

/-- The kinds that are the part's own in ACTIVE: always a mismatch downward (R20, R26). -/
def ownKind (kind : Byte) : Bool := kind == kindShuttleOrder || kind == kindCoilCommand

/-! ## Form (R2, R20) -/

/-- The content a unit consumes: only the bytes the kind's layout defines (R2). -/
inductive Content where
  | sample (value : Int)
  | coil (temperature : Int) (echo : CmdPhase)
  | door (pos : DoorPos) (truck : Byte)
  | pressure (value : Nat)
  | tag (id : PalletId) (cls : ClassIx) (outbound : Bool)
  | shuttle (rep : Report) (pos : RailPos) (loaded : Byte)
  deriving DecidableEq, Repr

def readSample : List Byte → Option Content
  | _ :: v1 :: v0 :: _ :: _ => some (.sample (half v1 v0).toInt)
  | _ => none

def readCoil : List Byte → Option Content
  | t1 :: t0 :: e :: _ => (cmdPhase? e.toNat).map (.coil (half t1 t0).toInt)
  | _ => none

def readDoor : List Byte → Option Content
  | p :: t :: _ => (doorPos? p.toNat).map (.door · t)
  | _ => none

def readPressure : List Byte → Option Content
  | p1 :: p0 :: _ => some (.pressure (half p1 p0).toNat)
  | _ => none

/-- A TAG_READ is malformed with identifier 0, a class above 7 or an unknown direction (R2). -/
def readTag : List Byte → Option Content
  | a :: b :: c :: d :: cls :: dir :: _ =>
    if quad a b c d = 0#32 then none
    else
      match finOf? 8 cls.toNat, outbound? dir.toNat with
      | some k, some out => some (.tag (quad a b c d) k out)
      | _, _ => none
  | _ => none

/-- A SHUTTLE_REPORT is malformed with an unknown report or a position above 63 (R2). -/
def readShuttle : List Byte → Option Content
  | r :: p :: l :: _ =>
    match report? r.toNat, finOf? 64 p.toNat with
    | some rep, some pos => some (.shuttle rep pos l)
    | _, _ => none
  | _ => none

/-- The form test with its result: the content of a well-formed payload, none of a malformed one (R2, R20). -/
def Delivery.read? (payload : List Byte) : Delivery → Option Content
  | .sampleProbe _ | .sampleCoil _ => readSample payload
  | .coilReport _ => readCoil payload
  | .doorReport _ => readDoor payload
  | .pressure _ => readPressure payload
  | .tagRead _ => readTag payload
  | .shuttleReport _ => readShuttle payload

/-- The form test of an ACT_COMMAND bound for the gate: two bytes, and one of the six actions (R20). -/
def readAction : List Byte → Option Action
  | a :: _ :: _ => action? a.toNat
  | _ => none

/-! ## Service and delivery (R21) -/

/-- A portal is in service: a loaded dock portal, or a room portal whose zone is in use (R21). -/
def portalInService (s : State) (i : PortalIx) : Bool :=
  match portalKind i with
  | .inl p => (s.dock p).loaded
  | .inr r => (s.zone (roomZone r)).inUse

/-- The object a delivery names is in service (R21). -/
def Delivery.inService (s : State) : Delivery → Bool
  | .sampleProbe i => (s.probe i).loaded
  | .sampleCoil c | .coilReport c => (s.coil c).loaded
  | .doorReport i => portalInService s i
  | .pressure p | .tagRead p => (s.dock p).loaded
  | .shuttleReport u => (s.shuttle u).loaded

/-- The object of a command's target is in service (R21). -/
def Bound.inService (s : State) : Bound → Bool
  | .door i => portalInService s i
  | .seal p | .reader p => (s.dock p).loaded
  | .probe i => (s.probe i).loaded
  | .shuttle u => (s.shuttle u).loaded
  | .coil c => (s.coil c).loaded
  | .actuator _ | .none => true

/-- A coil report: the phase echo, then the coil temperature (R98, R113). Log entry 16. -/
def takeCoilReport (c : CoilIx) (temperature : Int) (echo : CmdPhase) (s : State) : State :=
  takeReported c temperature (takeEcho c echo s)

/-- The content passes to the unit Table 2-3 names (R21). -/
def Delivery.deliver (d : Delivery) (x : Content) (s : State) : State :=
  match d, x with
  | .sampleProbe i, .sample v => probeSample i v s
  | .sampleCoil c, .sample v => takeReported c v s
  | .coilReport c, .coil t e => takeCoilReport c t e s
  | .doorReport i, .door pos truck =>
    match portalKind i with
    | .inl p => dockReport p pos truck s
    | .inr r => roomReport r pos truck s
  | .pressure p, .pressure v => dockPressure p v s
  | .tagRead p, .tag id cls outbound => Sys2Proof.Machine.tagRead p id cls outbound s
  | .shuttleReport u, .shuttle rep pos loaded => Sys2Proof.Machine.shuttleReport u rep pos loaded s
  | _, _ => s

/-! ## Forwarding (R22 to R24) -/

/-- ON_CHANGE places: nothing stored, a different payload, or a refresh that is due (R22). -/
def ClassEntry.changed (e : ClassEntry) (f : Frame) : Bool :=
  match e.stored with
  | none => true
  | some p => p.payload != f.payload || (decide (e.refresh ≠ 0) && decide (e.refresh ≤ p.age))

/-- The entry's forward mode places the frame (R22). -/
def ClassEntry.places (e : ClassEntry) (f : Frame) : Bool :=
  match e.forward with
  | .forward => true
  | .suppress => false
  | .onChange => e.changed f

/-- Offer a matched upward frame for forwarding; only a frame that the queue takes is stored (R22, R23). -/
def forwardUp (e : Fin 128) (f : Frame) (s : State) : State :=
  if (s.entry e).places f then
    if uplinkFull s then joinUplink f s else storePayload e f (joinUplink f s)
  else s

/-- The same for a matched downward frame that is no ACT_COMMAND (R24). -/
def forwardDown (e : Fin 128) (f : Frame) (s : State) : State :=
  if (s.entry e).places f then
    if forwardedFull s then joinForwarded f s else storePayload e f (joinForwarded f s)
  else s

/-! ## Classification (R18 to R26) -/

/-- A matched upward frame: payload limit, binding, form, service, delivery, forwarding, in this order (R19 to
R22). -/
def matchedUp (e : Fin 128) (f : Frame) (s : State) : State :=
  let n := s.entry e
  if n.tooLong f then countEvent .field .length s
  else
    match bindUp f.kind n.object with
    | .mismatch => countEvent .field .format s
    | .carried => forwardUp e f s
    | .delivered d =>
      match d.read? f.payload with
      | none => countEvent .field .format s
      | some x =>
        if d.inService s then forwardUp e f (d.deliver x s) else countEvent .field .format s

/-- A matched ACT_COMMAND: its binding, form and service, then the gate (R20, R21, R24). -/
def matchedCommand (e : Fin 128) (f : Frame) (s : State) : State :=
  let b := (s.entry e).object
  match b.target? with
  | none => countEvent .trunk .format s
  | some t =>
    match readAction f.payload with
    | none => countEvent .trunk .format s
    | some a => if b.inService s then gateCommand e f b t a s else countEvent .trunk .format s

/-- A matched downward frame (R19, R20, R24). -/
def matchedDown (e : Fin 128) (f : Frame) (s : State) : State :=
  let n := s.entry e
  if n.tooLong f then countEvent .trunk .length s
  else if f.kind = kindActCommand then matchedCommand e f s
  else if ownKind f.kind then countEvent .trunk .format s
  else forwardDown e f s

/-- An unmatched upward frame goes by the unmatched-up policy (R25). -/
def unmatchedUp (f : Frame) (s : State) : State :=
  match s.policy with
  | .forward => joinUplink f s
  | .drop => countEvent .field .unclassified s

/-- An unmatched downward frame goes by its kind (R26). -/
def unmatchedDown (f : Frame) (s : State) : State :=
  if f.kind = kindActCommand then gateUnmatched f s
  else if ownKind f.kind then countEvent .trunk .format s
  else joinForwarded f s

/-- The classifier takes an upward frame: in CONFIG it passes through unexamined (R18, R27). -/
def classifyUp (f : Frame) (s : State) : State :=
  match s.mode with
  | .config => joinUplink f s
  | .active =>
    match matching? s .up f.src f.kind with
    | some e => matchedUp e f (countHit e s)
    | none => unmatchedUp f s

/-- The classifier takes a downward frame: in CONFIG it passes through unexamined (R18, R27). -/
def classifyDown (f : Frame) (s : State) : State :=
  match s.mode with
  | .config => joinForwarded f s
  | .active =>
    match matching? s .down f.dest f.kind with
    | some e => matchedDown e f (countHit e s)
    | none => unmatchedDown f s

end Sys2Proof.Machine
end

