-- ==== Sys2Proof/Machine/Frames.lean ====
section
/-! DEFINITION. Frame completion (R1, R4, R5): the receive checks, the routing, and the frames of the rows that name
a kind. -/

namespace Sys2Proof.Machine

/-- The receiver of a port has seen the idle line that power-on waits for (R1). Log entry 13. -/
def State.ready (s : State) : Port → Bool
  | .trunk => s.trunkReady
  | .field => s.fieldReady

/-- The routing of a checked frame by its port, its destination and its kind (R5). -/
def routeFrame (p : Port) (f : Frame) (s : State) : State :=
  match p with
  | .field => classifyUp f s
  | .trunk =>
    if f.dest = s.address then
      if f.kind = kindRequest then manage f s else countEvent .trunk .misdirected s
    else if f.kind = kindRequest ∧ f.dest = Config.broadcast then countEvent .trunk .misdirected s
    else classifyDown f s

/-- Checks 3 and 4, which run in ACTIVE only, then the routing (R4). -/
def acceptFrame (p : Port) (f : Frame) (s : State) : State :=
  match s.mode with
  | .config => routeFrame p f s
  | .active =>
    if f.dest = 0#8 then countEvent p .format s
    else if p = .field ∧ f.kind = kindRequest then countEvent .field .misdirected s
    else routeFrame p f s

/-- Check 1: damaged, too short, too long, or a remainder that differs (R4). -/
def crcFails (bytes : List Byte) (damaged : Bool) : Bool :=
  damaged || decide (bytes.length < 7) || decide (71 < bytes.length)
    || computedCrc bytes != receivedCrc bytes

/-- Check 2: LEN above 64, or different from n − 7 (R4). -/
def lengthFails (bytes : List Byte) : Bool :=
  decide (maxPayload < lenByte bytes) || decide (lenByte bytes ≠ bytes.length - 7)

/-- The handling of the bytes received at a frame completion (R4). -/
def completeFrame (p : Port) (bytes : List Byte) (damaged : Bool) (s : State) : State :=
  if crcFails bytes damaged then countEvent p .crc s
  else if lengthFails bytes then countEvent p .length s
  else
    match frameOf? bytes with
    | some f => acceptFrame p f s
    | none => countEvent p .crc s

/-- A frame whose row names its kind completes intact: a payload above 64 bytes makes n exceed 71, which check
1 discards; any other frame passes checks 1 and 2 (R4). Log entry 10. -/
def arriveFrame (p : Port) (f : Frame) (s : State) : State :=
  if maxPayload < f.payload.length then countEvent p .crc s else acceptFrame p f s

/-- The frame of a row that names its kind. -/
def headerFrame (h : Header) (kind : Byte) (payload : List Byte) : Frame :=
  { dest := h.dest, src := h.src, kind := kind, tag := h.tag, payload := payload }

end Sys2Proof.Machine
end

