-- ==== Sys2Proof/Machine/Events.lean ====
section
/-! DEFINITION. The meanings of the commands that are no management request: power-on, frame completions, the rows
that name a frame kind, the ends of transmissions, the time base, the timers and the internal steps. -/

namespace Sys2Proof.Machine

/-! ## Power-on, receivers and transmitters (R1, R8, R177) -/

/-- The power-on state with the strap value read from the pins; the model's queue of commands is no state of the
part and stays. Log entry 1. -/
def powerOn (strap : Fin 8) (s : State) : State :=
  { State.reset with strap := strap, pending := s.pending }

/-- POWER_ON (R177, 00_scope.md 1.7). -/
def execPowerOn (strap : Fin 8) (s : State) : Host.Outcome State Fault Refusal := .next (powerOn strap s)

/-- FRAME_COMPLETION: characters that arrive before the receiver is ready are ignored (R1, R4).
Log entry 13. -/
def execFrameCompletion (p : Port) (bytes : List Byte) (damaged : Bool) (s : State) :
    Host.Outcome State Fault Refusal :=
  .next (if s.ready p then completeFrame p bytes damaged s else s)

/-- The port's receiver is ready for a first frame. -/
def markReady (p : Port) (s : State) : State :=
  match p with
  | .trunk => { s with trunkReady := true }
  | .field => { s with fieldReady := true }

/-- LINE_IDLE: the receiver has seen two character times of continuous idle after power-on (R1).
Log entry 13. -/
def execLineIdle (p : Port) (s : State) : Host.Outcome State Fault Refusal := .next (markReady p s)

/-- The end of a transmission: the arbiter makes its next choice (R8). Log entry 14. -/
def endTransmission (p : Port) (s : State) : State :=
  match p with
  | .trunk => if s.trunkTx.isSome then trunkChoose { s with trunkTx := none } else s
  | .field => if s.fieldTx.isSome then fieldChoose { s with fieldTx := none } else s

/-- END_OF_TRANSMISSION (R8, R13, R14). -/
def execEndOfTransmission (p : Port) (s : State) : Host.Outcome State Fault Refusal :=
  .next (endTransmission p s)

/-! ## Frames of a named kind (R20, R21) -/

/-- SAMPLE (R53, R54). -/
def execSample (h : Header) (channel : Byte) (value : Half) (flags : Byte) (extra : List Byte)
    (s : State) : Host.Outcome State Fault Refusal :=
  .next (arriveFrame .field
    (headerFrame h kindSample ([channel] ++ halfBytes value ++ [flags] ++ extra)) s)

/-- DOOR_REPORT (R77). -/
def execDoorReport (h : Header) (position truck : Byte) (extra : List Byte) (s : State) :
    Host.Outcome State Fault Refusal :=
  .next (arriveFrame .field (headerFrame h kindDoorReport ([position, truck] ++ extra)) s)

/-- PRESSURE (R81). -/
def execPressure (h : Header) (pressure : Half) (extra : List Byte) (s : State) :
    Host.Outcome State Fault Refusal :=
  .next (arriveFrame .field (headerFrame h kindPressure (halfBytes pressure ++ extra)) s)

/-- TAG_READ (R84). -/
def execTagRead (h : Header) (pallet : PalletId) (cls direction : Byte) (extra : List Byte) (s : State) :
    Host.Outcome State Fault Refusal :=
  .next (arriveFrame .field
    (headerFrame h kindTagRead (quadBytes pallet ++ [cls, direction] ++ extra)) s)

/-- SHUTTLE_REPORT (R139). -/
def execShuttleReport (h : Header) (report position loaded : Byte) (extra : List Byte) (s : State) :
    Host.Outcome State Fault Refusal :=
  .next (arriveFrame .field
    (headerFrame h kindShuttleReport ([report, position, loaded] ++ extra)) s)

/-- COIL_REPORT (R113). -/
def execCoilReport (h : Header) (temperature : Half) (echo : Byte) (extra : List Byte) (s : State) :
    Host.Outcome State Fault Refusal :=
  .next (arriveFrame .field
    (headerFrame h kindCoilReport (halfBytes temperature ++ [echo] ++ extra)) s)

/-- ACT_COMMAND (R32). -/
def execActCommand (h : Header) (action argument : Byte) (extra : List Byte) (s : State) :
    Host.Outcome State Fault Refusal :=
  .next (arriveFrame .trunk (headerFrame h kindActCommand ([action, argument] ++ extra)) s)

/-! ## The time base (R177) -/

/-- A running timer loses units of its remaining time, down to 0; its expiry is a command of its own.
Log entry 4. -/
def Timer.down (n : Nat) (t : Timer) : Timer := t.map (· - n)

/-- A stored payload grows older by one second (2.1). -/
def ClassEntry.older (e : ClassEntry) : ClassEntry :=
  { e with stored := e.stored.map fun p => { p with age := p.age + 1 } }

def Probe.ticked (p : Probe) : Probe := { p with staleTimer := Timer.down 1 p.staleTimer }
def Zone.ticked (z : Zone) : Zone := { z with allowanceTimer := Timer.down 1 z.allowanceTimer }
def Dock.ticked (d : Dock) : Dock := { d with sealTimer := Timer.down 1 d.sealTimer }

def Room.ticked (p : Room) : Room :=
  { p with doorTimer := Timer.down 1 p.doorTimer, holdOpenTimer := Timer.down 1 p.holdOpenTimer }

def Coil.ticked (k : Coil) : Coil :=
  { k with
    intervalTimer := Timer.down 1 k.intervalTimer
    spacingTimer := Timer.down 1 k.spacingTimer
    phaseTimer := Timer.down 1 k.phaseTimer
    followTimer := Timer.down 1 k.followTimer
    reportTimer := Timer.down 1 k.reportTimer }

/-- The step timer counts tenths of a second (Table 8-1). -/
def Shuttle.ticked (u : Shuttle) : Shuttle :=
  { u with stepTimer := Timer.down 10 u.stepTimer, parkTimer := Timer.down 1 u.parkTimer }

/-- One running second: the count rises and wraps, ages rise, running timers fall (R177). Log entry 4. -/
def ticked (s : State) : State :=
  { s with
    count := s.count + 1#32
    exposureTimer := Timer.down 1 s.exposureTimer
    classTable := tmap ClassEntry.older s.classTable
    probes := tmap Probe.ticked s.probes
    zones := tmap Zone.ticked s.zones
    docks := tmap Dock.ticked s.docks
    rooms := tmap Room.ticked s.rooms
    coils := tmap Coil.ticked s.coils
    shuttles := tmap Shuttle.ticked s.shuttles }

/-- An expiry is taken: it acts when the timer has run out, and otherwise nothing is due. A timer that was stopped or
restarted first does not expire (R55). Log entry 4. -/
def whenDue (t : Timer) (act : State → State) (s : State) : State := if t = some 0 then act s else s

/-- The exposure interval's ten running seconds have passed: its expiry acts; otherwise nothing is due (R177). -/
def exposureDue (s : State) : State := whenDue s.exposureTimer exposureExpiry s

/-- TIME_BASE_TICK: the time base runs in ACTIVE only; an exposure interval that has run out expires before the
next running second is counted, so that it expires every 10 of them (R177). Log entry 4. -/
def execTimeBaseTick (s : State) : Host.Outcome State Fault Refusal :=
  .next (if s.mode = .active then ticked (exposureDue s) else s)

/-- EXPOSURE_INTERVAL_EXPIRY, once the interval has run out (R62, R177). Log entry 4. -/
def execExposureIntervalExpiry (s : State) : Host.Outcome State Fault Refusal := .next (exposureDue s)

/-! ## Timer expiries -/

/-- STALENESS_TIMER_EXPIRY (R55). -/
def execStalenessTimerExpiry (p : ProbeIx) (s : State) : Host.Outcome State Fault Refusal :=
  .next (whenDue (s.probe p).staleTimer (expireStaleness p) s)

/-- ALLOWANCE_TIMER_EXPIRY (R63). -/
def execAllowanceTimerExpiry (z : ZoneIx) (s : State) : Host.Outcome State Fault Refusal :=
  .next (whenDue (s.zone z).allowanceTimer (expireAllowance z) s)

/-- SEAL_TIMER_EXPIRY (R82). -/
def execSealTimerExpiry (p : DockIx) (s : State) : Host.Outcome State Fault Refusal :=
  .next (whenDue (s.dock p).sealTimer (expireSeal p) s)

/-- DOOR_TIMER_EXPIRY (R90). -/
def execDoorTimerExpiry (r : RoomIx) (s : State) : Host.Outcome State Fault Refusal :=
  .next (whenDue (s.room r).doorTimer (expireDoor r) s)

/-- HOLD_OPEN_TIMER_EXPIRY (R89). -/
def execHoldOpenTimerExpiry (r : RoomIx) (s : State) : Host.Outcome State Fault Refusal :=
  .next (whenDue (s.room r).holdOpenTimer (expireHoldOpen r) s)

/-- INTERVAL_TIMER_EXPIRY (R99). -/
def execIntervalTimerExpiry (c : CoilIx) (s : State) : Host.Outcome State Fault Refusal :=
  .next (whenDue (s.coil c).intervalTimer (expireInterval c) s)

/-- SPACING_TIMER_EXPIRY (R102). -/
def execSpacingTimerExpiry (c : CoilIx) (s : State) : Host.Outcome State Fault Refusal :=
  .next (whenDue (s.coil c).spacingTimer (expireSpacing c) s)

/-- PHASE_TIMER_EXPIRY (R108 to R111). -/
def execPhaseTimerExpiry (c : CoilIx) (s : State) : Host.Outcome State Fault Refusal :=
  .next (whenDue (s.coil c).phaseTimer (expirePhase c) s)

/-- FOLLOW_TIMER_EXPIRY (R113). -/
def execFollowTimerExpiry (c : CoilIx) (s : State) : Host.Outcome State Fault Refusal :=
  .next (whenDue (s.coil c).followTimer (expireFollow c) s)

/-- REPORT_TIMER_EXPIRY (R98). -/
def execReportTimerExpiry (c : CoilIx) (s : State) : Host.Outcome State Fault Refusal :=
  .next (whenDue (s.coil c).reportTimer (expireReport c) s)

/-- STEP_TIMER_EXPIRY (R141). -/
def execStepTimerExpiry (u : ShuttleIx) (s : State) : Host.Outcome State Fault Refusal :=
  .next (whenDue (s.shuttle u).stepTimer (expireStep u) s)

/-- PARK_TIMER_EXPIRY (R145). -/
def execParkTimerExpiry (u : ShuttleIx) (s : State) : Host.Outcome State Fault Refusal :=
  .next (whenDue (s.shuttle u).parkTimer (expirePark u) s)

/-! ## Internal steps: each acts when its condition holds, and changes nothing otherwise -/

/-- HOLD_GRANT: a WAITING hold is examined (R91). Log entry 7. -/
def execHoldGrant (r : RoomIx) (s : State) : Host.Outcome State Fault Refusal := .next (examineRoom r s)

/-- The waiting list may be granted: the hold is CLEAR, or waits without the forced mark (R92). -/
def Room.mayGrantWaiting (p : Room) : Bool := p.hold == .clear || (p.hold == .waiting && !p.holdForced)

/-- WAITING_CLAIM_GRANT (R92). Log entry 7. -/
def execWaitingClaimGrant (r : RoomIx) (s : State) : Host.Outcome State Fault Refusal :=
  .next (if (s.room r).mayGrantWaiting then grantWaiting r s else s)

/-- ARMED_TRAVEL_START (R137). Log entry 7. -/
def execArmedTravelStart (u : ShuttleIx) (s : State) : Host.Outcome State Fault Refusal :=
  .next (testArmed u s)

/-- HOMING_ORDER_SENT (R142). Log entry 7. -/
def execHomingOrderSent (u : ShuttleIx) (s : State) : Host.Outcome State Fault Refusal :=
  .next (testHoming u s)

/-- When an action of the active move ended it, the rail settles (R151, R157). Log entry 7. -/
def settleAfter (u : ShuttleIx) (before after : State) : State :=
  if (before.shuttle u).slotA.isSome && (after.shuttle u).slotA.isNone then settleRail u after else after

/-- PICK_UP_DECISION of the move waiting QUEUED in slot A (R152). Log entry 7. -/
def execPickUpDecision (u : ShuttleIx) (s : State) : Host.Outcome State Fault Refusal :=
  .next (settleAfter u s (beginQueued u s))

/-- ASSIGNMENT (R150). Log entry 7. -/
def execAssignment (u : ShuttleIx) (s : State) : Host.Outcome State Fault Refusal := .next (settleRail u s)

/-- STEP_RETRY (R156). Log entry 7. -/
def execStepRetry (u : ShuttleIx) (s : State) : Host.Outcome State Fault Refusal :=
  .next (settleAfter u s (retryStep u s))

end Sys2Proof.Machine
end

