-- ==== Sys2Proof/Machine/Dispatch.lean ====
section
/-! DEFINITION. One arm per command of spec/opcode_table.json, each a direct call of its meaning. -/

namespace Sys2Proof.Machine

def exec (i : Instr) (s : State) : Host.Outcome State Fault Refusal :=
  match i with
  | .powerOn strap => Sys2Proof.Machine.execPowerOn strap s
  | .frameCompletion port bytes damaged => Sys2Proof.Machine.execFrameCompletion port bytes damaged s
  | .sample h channel value flags extra => Sys2Proof.Machine.execSample h channel value flags extra s
  | .doorReport h position truck extra => Sys2Proof.Machine.execDoorReport h position truck extra s
  | .pressure h pressure extra => Sys2Proof.Machine.execPressure h pressure extra s
  | .tagRead h pallet cls direction extra => Sys2Proof.Machine.execTagRead h pallet cls direction extra s
  | .shuttleReport h report position loaded extra => Sys2Proof.Machine.execShuttleReport h report position loaded extra s
  | .coilReport h temperature echo extra => Sys2Proof.Machine.execCoilReport h temperature echo extra s
  | .actCommand h action argument extra => Sys2Proof.Machine.execActCommand h action argument extra s
  | .loadEntry q table index fields => Sys2Proof.Machine.execLoadEntry q table index fields s
  | .readEntry q table index part => Sys2Proof.Machine.execReadEntry q table index part s
  | .clearTable q table => Sys2Proof.Machine.execClearTable q table s
  | .readObject q objType key part => Sys2Proof.Machine.execReadObject q objType key part s
  | .readCounters q clear => Sys2Proof.Machine.execReadCounters q clear s
  | .activate q => Sys2Proof.Machine.execActivate q s
  | .deactivate q => Sys2Proof.Machine.execDeactivate q s
  | .restart q => Sys2Proof.Machine.execRestart q s
  | .setTime q count => Sys2Proof.Machine.execSetTime q count s
  | .moveOrder q reqTag source dest pallet repeats priority => Sys2Proof.Machine.execMoveOrder q reqTag source dest pallet repeats priority s
  | .cancelMove q move => Sys2Proof.Machine.execCancelMove q move s
  | .homeShuttle q shuttle => Sys2Proof.Machine.execHomeShuttle q shuttle s
  | .clearShuttle q shuttle state position deck lanePresent lane => Sys2Proof.Machine.execClearShuttle q shuttle state position deck lanePresent lane s
  | .defrostNow q kind index => Sys2Proof.Machine.execDefrostNow q kind index s
  | .setCoilMask q setMask clearMask => Sys2Proof.Machine.execSetCoilMask q setMask clearMask s
  | .quietEnter q zone => Sys2Proof.Machine.execQuietEnter q zone s
  | .quietExit q zone => Sys2Proof.Machine.execQuietExit q zone s
  | .ackAlarm q objType key => Sys2Proof.Machine.execAckAlarm q objType key s
  | .palletPlace q pallet lane => Sys2Proof.Machine.execPalletPlace q pallet lane s
  | .palletRemove q pallet => Sys2Proof.Machine.execPalletRemove q pallet s
  | .releaseQuarantine q pallet => Sys2Proof.Machine.execReleaseQuarantine q pallet s
  | .endOfTransmission port => Sys2Proof.Machine.execEndOfTransmission port s
  | .timeBaseTick => Sys2Proof.Machine.execTimeBaseTick s
  | .exposureIntervalExpiry => Sys2Proof.Machine.execExposureIntervalExpiry s
  | .stalenessTimerExpiry p => Sys2Proof.Machine.execStalenessTimerExpiry p s
  | .allowanceTimerExpiry z => Sys2Proof.Machine.execAllowanceTimerExpiry z s
  | .sealTimerExpiry p => Sys2Proof.Machine.execSealTimerExpiry p s
  | .doorTimerExpiry r => Sys2Proof.Machine.execDoorTimerExpiry r s
  | .holdOpenTimerExpiry r => Sys2Proof.Machine.execHoldOpenTimerExpiry r s
  | .intervalTimerExpiry c => Sys2Proof.Machine.execIntervalTimerExpiry c s
  | .spacingTimerExpiry c => Sys2Proof.Machine.execSpacingTimerExpiry c s
  | .phaseTimerExpiry c => Sys2Proof.Machine.execPhaseTimerExpiry c s
  | .followTimerExpiry c => Sys2Proof.Machine.execFollowTimerExpiry c s
  | .reportTimerExpiry c => Sys2Proof.Machine.execReportTimerExpiry c s
  | .stepTimerExpiry u => Sys2Proof.Machine.execStepTimerExpiry u s
  | .parkTimerExpiry u => Sys2Proof.Machine.execParkTimerExpiry u s
  | .holdGrant r => Sys2Proof.Machine.execHoldGrant r s
  | .waitingClaimGrant r => Sys2Proof.Machine.execWaitingClaimGrant r s
  | .armedTravelStart u => Sys2Proof.Machine.execArmedTravelStart u s
  | .homingOrderSent u => Sys2Proof.Machine.execHomingOrderSent u s
  | .pickUpDecision u => Sys2Proof.Machine.execPickUpDecision u s
  | .assignment u => Sys2Proof.Machine.execAssignment u s
  | .stepRetry u => Sys2Proof.Machine.execStepRetry u s
  | .lineIdle port => Sys2Proof.Machine.execLineIdle port s

end Sys2Proof.Machine
end

