-- ==== Sys2Proof/Machine/Wire.lean ====
section
/-! DEFINITION. The commands that reach the part as a frame, written out as that frame: the frame rows with the payload
of Table 1-9, the request rows as a MGMT_REQUEST to the part's own address with the fields of R167. -/

namespace Sys2Proof.Machine

/-- A request's sender and its payload: the name code of Table 11-1, then the fields (R167). Log entry 31. -/
def requestPayload? : Instr → Option (Sender × List Byte)
  | .loadEntry q t i fields => some (q, [0x01#8, t, i] ++ fields)
  | .readEntry q t i part => some (q, [0x02#8, t, i, part])
  | .clearTable q t => some (q, [0x03#8, t])
  | .readObject q t key part => some (q, [0x04#8, t] ++ keyBytes t key ++ [part])
  | .readCounters q c => some (q, [0x05#8, c])
  | .activate q => some (q, [0x06#8])
  | .deactivate q => some (q, [0x07#8])
  | .restart q => some (q, [0x08#8])
  | .setTime q n => some (q, 0x09#8 :: quadBytes n)
  | .moveOrder q tag src dst p r pr =>
    some (q, 0x0A#8 :: (halfBytes tag ++ [src, dst] ++ quadBytes p ++ [r, pr]))
  | .cancelMove q m => some (q, [0x0B#8, m])
  | .homeShuttle q u => some (q, [0x0C#8, u])
  | .clearShuttle q u st pos deck lp l => some (q, [0x0D#8, u, st, pos] ++ quadBytes deck ++ [lp, l])
  | .defrostNow q k i => some (q, [0x0E#8, k, i])
  | .setCoilMask q a b => some (q, 0x0F#8 :: (halfBytes a ++ halfBytes b))
  | .quietEnter q z => some (q, [0x10#8, z])
  | .quietExit q z => some (q, [0x11#8, z])
  | .ackAlarm q t key => some (q, [0x12#8, t] ++ keyBytes t key)
  | .palletPlace q p l => some (q, 0x13#8 :: (quadBytes p ++ [l]))
  | .palletRemove q p => some (q, 0x14#8 :: quadBytes p)
  | .releaseQuarantine q p => some (q, 0x15#8 :: quadBytes p)
  | _ => none
where
  /-- An object's key: a pallet identifier in four bytes, any other index in one (R167). -/
  keyBytes (t : Byte) (key : Quad) : List Byte :=
    if t = palletTypeCode then quadBytes key else [byteOf key.toNat]

/-- The port and the frame of a frame row (Table 1-9). Log entry 10. -/
def rowFrame? : Instr → Option (Port × Frame)
  | .sample h ch v fl extra =>
    some (.field, headerFrame h kindSample ([ch] ++ halfBytes v ++ [fl] ++ extra))
  | .doorReport h p t extra => some (.field, headerFrame h kindDoorReport ([p, t] ++ extra))
  | .pressure h v extra => some (.field, headerFrame h kindPressure (halfBytes v ++ extra))
  | .tagRead h id cls dir extra =>
    some (.field, headerFrame h kindTagRead (quadBytes id ++ [cls, dir] ++ extra))
  | .shuttleReport h r p l extra =>
    some (.field, headerFrame h kindShuttleReport ([r, p, l] ++ extra))
  | .coilReport h t e extra =>
    some (.field, headerFrame h kindCoilReport (halfBytes t ++ [e] ++ extra))
  | .actCommand h a x extra => some (.trunk, headerFrame h kindActCommand ([a, x] ++ extra))
  | _ => none

/-- The port and the frame that carry a command to a part of the given address; none for a command that is no
frame. -/
def wireForm? (address : Byte) (i : Instr) : Option (Port × Frame) :=
  match requestPayload? i with
  | some (q, payload) =>
    some (.trunk, { dest := address, src := q.src, kind := kindRequest, tag := q.tag, payload := payload })
  | none => rowFrame? i

end Sys2Proof.Machine
end

