-- ==== Sys2Proof/Safety.lean ====
section
/-! DEFINITION. What counts as a safe state and a safe run: the bounds the manual sets on every queue and count, and
the whole-machine rules it states in prose. Claims use these terms. -/

namespace Sys2Proof.Machine

/-! ## Ports and notices -/

/-- No queue holds more than its capacity (R9, R10, R12, R162, R169), no object has two positions of the
originated share (R11), and the forwarded run is 0 to 4 (R14). -/
structure QueuesBounded (s : State) : Prop where
  uplink : s.uplink.length ≤ 16
  forwarded : s.forwarded.length ≤ 16
  refusals : refusalCount s ≤ 8
  replies : replyCount s ≤ 4
  notices : s.notices.length ≤ 32
  originated : (s.originated.map Originated.obj).Nodup
  run : s.run ≤ 4

/-- A notice's key: its kind together with its object (R161). -/
def Notice.key (n : Notice) : NoticeKind × NoticeObj := (n.kind, n.obj)

/-- No two pending notices have the same kind and object (R162). -/
def NoticesDistinct (s : State) : Prop := (s.notices.map Notice.key).Nodup

/-- All six counts of a port lie in 0 to 65535 (R6). -/
def Counters.inRange (c : Counters) : Prop :=
  c.crc ≤ 65535 ∧ c.length ≤ 65535 ∧ c.format ≤ 65535 ∧ c.misdirected ≤ 65535 ∧ c.unclassified ≤ 65535
    ∧ c.overflow ≤ 65535

/-- An idle transmitter has nothing waiting for it (R8). -/
structure TransmittersServe (s : State) : Prop where
  trunk : s.trunkTx = none → s.answers = [] ∧ s.notices = [] ∧ s.uplink = []
  field : s.fieldTx = none → s.originated = [] ∧ s.forwarded = []

/-! ## Units -/

/-- No room portal has a set defrost hold and a claim at the same time (R86). -/
def HoldsExcludeClaims (s : State) : Prop := ∀ r : RoomIx, (s.room r).hold = .set → (s.room r).claims = []

/-- No pallet identifier stands in two records (R122). -/
def PalletsDistinct (s : State) : Prop :=
  ∀ (i j : PalletIx) (p q : Pallet), s.pallet i = some p → s.pallet j = some q → p.id = q.id → i = j

/-- Every filtered value lies within −14080 and 32000 (R56). -/
def FilteredInRange (s : State) : Prop :=
  ∀ i : ProbeIx, -14080 ≤ (s.probe i).filtered ∧ (s.probe i).filtered ≤ 32000

/-- Every zone and pallet exposure account lies within 0 and 16,777,215 (R64, R69); the lower bound is the
type's. -/
structure AccountsInRange (s : State) : Prop where
  zones : ∀ z : ZoneIx, (s.zone z).exposure ≤ 16777215
  pallets : ∀ (i : PalletIx) (p : Pallet), s.pallet i = some p → p.exposure ≤ 16777215

/-- Every owed limit is 1 to 8, no owed count lies below −8, and in ACTIVE no loaded coil owes more than its limit
(R97, R99, R101). In CONFIG a load may set a limit below the count held, which ACTIVATE returns to 0. -/
structure OwedInRange (s : State) : Prop where
  limits : ∀ c : CoilIx, 1 ≤ (s.coil c).limit ∧ (s.coil c).limit ≤ 8
  floor : ∀ c : CoilIx, -8 ≤ (s.coil c).owed
  top : s.mode = .active → ∀ c : CoilIx, (s.coil c).loaded = true → (s.coil c).owed ≤ (s.coil c).limit

/-- The move queue holds at most 24 records, no two with one identifier, and none in CONFIG (R147, R148). -/
structure MovesBounded (s : State) : Prop where
  depth : s.moves.length ≤ 24
  distinct : (s.moves.map Move.id).Nodup
  config : s.mode = .config → s.moves = []

/-- The move a step was asked for by; none for a homing and for a park travel (8.3). -/
def Step.mover? : Step → Option MoveId
  | .travel _ (.move m) | .pick _ m | .place _ m => some m
  | .travel _ .shuttle | .homing => none

/-- The step is one of the move's stage: a travel in TO_SOURCE or CARRYING, a pick in PICKING, a place into its
destination in PLACING (R153 to R155). -/
def Step.suits (m : Move) : Step → Prop
  | .travel _ _ => m.state = .toSource ∨ m.state = .carrying
  | .pick _ _ => m.state = .picking
  | .place l _ => m.state = .placing ∧ l = m.dest
  | .homing => False

/-- What a shuttle does and holds ready is asked for by the move of its slot A, or by itself. -/
structure ShuttleServes (s : State) (u : ShuttleIx) : Prop where
  /-- A shuttle not loaded is as after power-on (R134). -/
  unloaded : (s.shuttle u).loaded = false → s.shuttle u = Shuttle.reset
  /-- A step is under way in a step's state only, and no travel is armed meanwhile (R137, R138, R141). -/
  step : ∀ x, (s.shuttle u).step = some x → (s.shuttle u).state.inStep = true ∧ (s.shuttle u).armed = none
  /-- A step of a move is that of the move in slot A, at its stage (R153 to R155). -/
  mover : ∀ x m, (s.shuttle u).step = some x → x.mover? = some m → (s.shuttle u).slotA = some m
    ∧ ∃ r ∈ s.moves, r.id = m ∧ r.shuttle = some u ∧ x.suits r
  /-- A travel is armed for the move in slot A, in IDLE or NOT_READY, or for the shuttle in PARKING (R137, R140,
  R145). -/
  armed : ∀ p m, (s.shuttle u).armed = some { target := p, by_ := .move m } → (s.shuttle u).slotA = some m
    ∧ ((s.shuttle u).state = .idle ∨ (s.shuttle u).state = .notReady)
    ∧ ∃ r ∈ s.moves, r.id = m ∧ r.shuttle = some u ∧ (r.state = .toSource ∨ r.state = .carrying)
  parks : ∀ p, (s.shuttle u).armed = some { target := p, by_ := .shuttle } → (s.shuttle u).state = .parking
  /-- The park timer runs in IDLE with nothing to do (R145). -/
  timer : (s.shuttle u).parkTimer ≠ none → (s.shuttle u).state = .idle ∧ (s.shuttle u).slotA = none
    ∧ (s.shuttle u).armed = none
  /-- In ACTIVE slot A holds a move that is not STAGED, slot B a STAGED one (R150, R151). -/
  slotA : s.mode = .active → ∀ m, (s.shuttle u).slotA = some m →
    ∃ r ∈ s.moves, r.id = m ∧ r.shuttle = some u ∧ r.state ≠ .staged
  slotB : s.mode = .active → ∀ m, (s.shuttle u).slotB = some m →
    ∃ r ∈ s.moves, r.id = m ∧ r.shuttle = some u ∧ r.state = .staged

/-- A lane holds no more pallets and reservations than its depth, and one reservation for each move between its
pick-up decision and its placement there (R121, R126, R152, R155). -/
structure LanesHold (s : State) : Prop where
  depth : ∀ l : LaneIx, (s.lane l).pallets.length + (s.lane l).reserved ≤ (s.lane l).depth
  reserved : ∀ l : LaneIx,
    (s.lane l).reserved = (s.moves.filter fun m => decide (m.dest = l) && m.state.reserves).length

/-- Every rule above at once. -/
structure Safe (s : State) : Prop where
  queues : QueuesBounded s
  notices : NoticesDistinct s
  trunk : s.trunkCounters.inRange
  field : s.fieldCounters.inRange
  serve : TransmittersServe s
  holds : HoldsExcludeClaims s
  pallets : PalletsDistinct s
  filtered : FilteredInRange s
  accounts : AccountsInRange s
  owed : OwedInRange s
  moves : MovesBounded s
  shuttles : ∀ u, ShuttleServes s u
  lanes : LanesHold s

/-- A rule that every step keeps: from any state that meets it, a next state meets it. -/
def KeptByStep (P : State → Prop) : Prop := ∀ s t : State, P s → step s = .next t → P t

/-! ## Frames: what a command leaves alone -/

/-- A state with the link ports and the notice unit of another: their counters, queues, transmitters and flags. -/
def State.withPorts (s t : State) : State :=
  { s with
    trunkCounters := t.trunkCounters, fieldCounters := t.fieldCounters, sequence := t.sequence, run := t.run
    trunkTx := t.trunkTx, fieldTx := t.fieldTx, uplink := t.uplink, forwarded := t.forwarded
    originated := t.originated, answers := t.answers, notices := t.notices, lost := t.lost }

/-- Nothing but the link ports and the notice unit differs: every table, every record, the mode and the time
are the same. -/
def SameRecords (s t : State) : Prop := t = s.withPorts t

/-- Nothing but the trunk side of a reply differs: the answers waiting, the frame in transmission, the run, and
the trunk port's counters. -/
def SameButAnswer (s t : State) : Prop :=
  t = { s with answers := t.answers, trunkTx := t.trunkTx, run := t.run, trunkCounters := t.trunkCounters }

/-- Of the classification table only one entry differs, in its hit count, which rose by one up to 65535, and in
its stored payload (R18, R23). -/
def HitCounted (e : Fin 128) (s t : State) : Prop :=
  (∀ i, i ≠ e → t.entry i = s.entry i)
    ∧ t.entry e = { s.entry e with hits := min 65535 ((s.entry e).hits + 1), stored := (t.entry e).stored }

/-! ## The rail, as statements speak of it -/

/-- No room portal has a claim, granted or waiting. -/
def NoClaims (s : State) : Prop := ∀ r : RoomIx, (s.room r).claims = [] ∧ (s.room r).waiting = []

/-- No move of the rail is in the queue but, perhaps, the one with this identifier. -/
def OnlyMove (s : State) (u : ShuttleIx) (m : MoveId) : Prop :=
  ∀ r ∈ s.moves, r.id ≠ m → (s.lane r.source).rail ≠ some u

/-- The shuttle with a GO under way for a move: TRAVELLING, timed by the distance (R138, Table 8-2). -/
def Shuttle.going (v : Shuttle) (x p : RailPos) (m : MoveId) : Shuttle :=
  { v with
    state := .travelling, parkTimer := none, armed := none, step := some (.travel p (.move m))
    stepTimer := some ((x.val - p.val + (p.val - x.val)) * v.pitch + v.settle) }

/-- A SHUTTLE_ORDER GO to a position is originated (Tables 1-9 and 1-10). -/
def sendGo (u : ShuttleIx) (p : RailPos) (s : State) : State :=
  originate (.shuttle u) 0x21#8 [0#8, byteOf p.val] s

/-- The MOVE_RESULT of a move, by its result code, its reason code and its done count (R157, Table 9-3). -/
def tellResult (m : MoveId) (result reason done : Nat) (s : State) : State :=
  raiseNotice .moveResult (.move m) (BitVec.ofNat 32 (65536 * result + 256 * reason + done)) s

/-- The queue without one move. -/
def State.movesBut (s : State) (m : MoveId) : List Move := s.moves.filter fun r => r.id != m

/-- The queue with one move's record changed. -/
def State.movesWith (s : State) (m : MoveId) (f : Move → Move) : List Move :=
  s.moves.map fun r => if r.id = m then f r else r

/-- What the shuttle waits to start, an armed travel or a homing whose HOME is not sent, crosses this room door, and the
door is not ready for it (R137, R142). A shuttle that waits for nothing meets it too. -/
def Shuttle.waitsAt (v : Shuttle) (r : RoomIx) : Prop :=
  ∀ p, v.armed.map Armed.target = some p ∨ (v.state = .homing ∧ v.step = none ∧ v.homePos = p) →
    r ∈ v.crossed v.position p ∧ v.readyAt r = false

/-- The shuttle with a PICK or a PLACE under way at its place, timed by the handling time (R138, Table 8-2). -/
def Shuttle.atHand (v : Shuttle) (st : ShuttleState) (step : Step) : Shuttle :=
  { v with state := st, parkTimer := none, step := some step, stepTimer := some (v.handling * 10) }

/-- The pick-up decision of move `m`, which waits QUEUED in slot A of an IDLE shuttle at `x`, in state `t`: the source
head, or the pallet on the deck, is tested in the order of R152, and `answers` holds of the state that follows. A failed
test ends the move (R157). Otherwise the destination holds a reservation, the move keeps the destination's quarantine
lane field as the decision read it (R120, R131, log entry 45) and goes TO_SOURCE, or CARRYING with the
deck's pallet; the travel crosses no door, and one to the place where the shuttle stands is done at once, so that the
PICK or the PLACE goes out (R153 to R155). -/
def DecidesPickUp (answers : State → Prop) (t : State) (u : ShuttleIx) (m : Move) (x : RailPos) : Prop :=
  let v := t.shuttle u
  let source := t.lane m.source
  let dest := t.lane m.dest
  let held (id : PalletId) : Prop := ∃ i q, t.pallet i = some q ∧ q.id = id ∧ q.status ≠ .departed
    ∧ q.quarantine = true ∧ q.released = false
  let suits (id : PalletId) : Prop := m.named = none ∨ m.named = some id
  let stored (id : PalletId) : Prop := ¬held id ∨ dest.quarantine = true
  let room : Prop := dest.pallets.length + dest.reserved < dest.depth
  let begun (id : PalletId) (st : MoveState) (w : Shuttle) : State :=
    { t with
      lanes := tset t.lanes m.dest { dest with reserved := dest.reserved + 1 }
      moves := t.movesWith m.id fun r =>
        { r with state := st, iteration := some id, destQuarantine := dest.quarantine }
      shuttles := tset t.shuttles u w }
  let goes (p : RailPos) (id : PalletId) (st : MoveState) : Prop := p ≠ x → v.crossed (some x) p = [] →
    answers (sendGo u p (begun id st (v.going x p m.id)))
  let handles (order : Byte) (id : PalletId) (st : MoveState) (w : Shuttle) : Prop :=
    answers (originate (.shuttle u) 0x21#8 [order, byteOf x.val] (begun id st w))
  let stops (reason : Nat) : Prop := m.shuttle = some u → v.slotB = none → OnlyMove t u m.id →
    answers { tellResult m.id (if 0 < m.doneCount then 1 else 2) reason m.doneCount t with
      moves := t.movesBut m.id, shuttles := tset t.shuttles u { v with slotA := none } }
  (v.deck = none → source.pallets = [] → stops 1)
  ∧ ∀ id, v.deck = some id ∨ (v.deck = none ∧ source.pallets.head? = some id) →
    (¬suits id → stops 2) ∧ (suits id → ¬stored id → stops 3) ∧ (suits id → stored id → ¬room → stops 4)
    ∧ (suits id → stored id → room →
      (v.deck = none → goes source.position id .toSource
        ∧ (source.position = x → m.cancelling = false →
          handles 1#8 id .picking (v.atHand .lifting (.pick m.source m.id))))
      ∧ (v.deck = some id → goes dest.position id .carrying
        ∧ (dest.position = x → v.slotB = none →
          handles 2#8 id .placing (v.atHand .lowering (.place m.dest m.id)))))

/-- The queued moves that wait for a place on the rail of a shuttle (R150). -/
def Move.waitsFor (s : State) (u : ShuttleIx) (m : Move) : Prop :=
  m.state = .queued ∧ m.shuttle = none ∧ (s.lane m.source).rail = some u

/-- Of the records `l`, oldest first, `m` is the next eligible move of a rail: the oldest URGENT one that waits, or else
the oldest one that waits (R150). -/
def NextEligible (s : State) (u : ShuttleIx) (l : List Move) (m : Move) : Prop :=
  ∃ before after, l = before ++ m :: after ∧ m.waitsFor s u
    ∧ ((m.priority = .urgent ∧ ∀ x ∈ before, x.waitsFor s u → x.priority ≠ .urgent)
      ∨ (m.priority ≠ .urgent ∧ (∀ x ∈ l, x.waitsFor s u → x.priority ≠ .urgent)
        ∧ ∀ x ∈ before, ¬x.waitsFor s u))

/-- A move enters slot A as QUEUED; the park timer stops (R145, R150). -/
def inSlotA (u : ShuttleIx) (id : MoveId) (t : State) : State :=
  { t with
    moves := t.movesWith id fun r => { r with state := .queued, shuttle := some u }
    shuttles := tset t.shuttles u { t.shuttle u with slotA := some id, parkTimer := none } }

/-- A move enters slot B as STAGED; the park timer stops (R145, R150). -/
def inSlotB (u : ShuttleIx) (id : MoveId) (t : State) : State :=
  { t with
    moves := t.movesWith id fun r => { r with state := .staged, shuttle := some u }
    shuttles := tset t.shuttles u { t.shuttle u with slotB := some id, parkTimer := none } }

/-- The park timer of a shuttle that enters IDLE with nothing to do (R145). -/
def Shuttle.parkStart (v : Shuttle) : Timer :=
  if v.position ≠ some v.parkPos ∧ v.parkTime ≠ 0 then some v.parkTime else none

/-- A COIL_COMMAND was sent and the coil is in the phase it commands, its timer started (R113). -/
def Coil.commandedTo (k : Coil) (p : CmdPhase) (phase : CoilPhase) (timer : Timer) : Coil :=
  { k with
    phase := phase, phaseTimer := timer, commanded := p, notFollowing := false, followTimer := some k.follow }

/-! ## The phases of a defrost, as statements speak of them -/

/-- The coil enters a phase: its COIL_COMMAND is originated and the phase timer started (R108 to R111, R113). -/
def entersPhase (c : CoilIx) (p : CmdPhase) (phase : CoilPhase) (timer : Timer) (t : State) : State :=
  let command : Byte :=
    match p with
    | .cool => 0#8
    | .pumpDown => 1#8
    | .heat => 2#8
    | .drip => 3#8
    | .fanDelay => 4#8
  { originate (.coil c) 0x22#8 [command] t with
    coils := tset t.coils c ((t.coil c).commandedTo p phase timer) }

/-- The coil enters PUMP_DOWN: the allowance window opens, and DEFROST_START carries the owed count (R63, R108). -/
def entersPumpDown (c : CoilIx) (t : State) : State :=
  raiseNotice .defrostStart (.coil c) (BitVec.ofInt 32 (t.coil c).owed)
    { entersPhase c .pumpDown .pumpDown (some (t.coil c).pumpDown) t with
      zones := tset t.zones (t.coil c).zone
        { t.zone (t.coil c).zone with window := .openDefrost, allowanceTimer := none } }

/-- The room's hold with nothing of it left: CLEAR, both marks 0 (R92). -/
def Room.unheld (p : Room) : Room := { p with hold := .clear, holdForced := false, openDuringHold := false }

/-- The hold of a room is granted with its forced mark: the portal's own waiting DOOR_OPEN is gone, and the waiting
trunk DOOR_OPENs are withdrawn (R91). -/
def holdSet (r : RoomIx) (forced : Bool) (t : State) : State :=
  withdrawCommands r .doorOpen .defrostHold
    { t with
      rooms := tset t.rooms r { t.room r with hold := .set, holdForced := forced, openDuringHold := false }
      originated := t.originated.filter fun o =>
        !decide (o.obj = .door r ∧ o.frame.payload.head? = some 0#8) }

/-- The record of a coil whose defrost completes at a time: owed falls by one to no less than −8 unless the defrost
began while quiet, forced is cleared below L, the spacing starts, the group ends (R111, R112). Log entry 18. -/
def Coil.completedAt (k : Coil) (now : Quad) : Coil :=
  let owed : Int := if k.quietStart then k.owed else max (-8) (k.owed - 1)
  { k with
    group := false, owed := owed, quietStart := false, forced := k.forced && decide (k.limit ≤ owed)
    lastEnd := some now, spacingTimer := if k.minSpacing = 0 then none else some k.minSpacing }

/-- The allowance window of a zone whose last defrost ends: OPEN_RECOVERY for the recovery time, or CLOSED (R63). -/
def Zone.recovers (n : Zone) : Zone :=
  if n.recoveryTime = 0 then { n with window := .closed, allowanceTimer := none }
  else { n with window := .openRecovery, allowanceTimer := some n.recoveryTime }

/-- The coil belongs to no group, every other loaded coil of its zone is masked, in COOL and in no group, and once its
defrost is completed nothing starts the next one, for it is masked itself or has a spacing to wait. -/
def CoilAlone (s : State) (c : CoilIx) : Prop :=
  (s.coil c).group = false ∧ ((s.coil c).mask = true ∨ (s.coil c).minSpacing ≠ 0)
    ∧ ∀ d, d ≠ c → (s.coil d).loaded = true → (s.coil d).zone = (s.coil c).zone →
      (s.coil d).mask = true ∧ (s.coil d).phase = .cool ∧ (s.coil d).group = false

/-- `rooms` are the rooms as a release of the zone's hold leaves them when nobody waits at the door: a SET hold is
CLEAR, and without one nothing changes; the dock zone has no hold (R92, R110). -/
def HoldReleased (s : State) (z : ZoneIx) (rooms : Vector Room 7) : Prop :=
  (z = 0 ∧ rooms = s.rooms)
    ∨ ∃ r, z = roomZone r ∧ (s.room r).waiting = [] ∧ ((s.room r).hold ≠ .set → rooms = s.rooms)
      ∧ ((s.room r).hold = .set → rooms = tset s.rooms r (s.room r).unheld)

/-- FAN_DELAY of a coil that defrosts alone ends: COOL is commanded, the allowance recovery starts, and the completion
follows with DEFROST_END (R63, R111). -/
def completesAlone (c : CoilIx) (t : State) : State :=
  let u := entersPhase c .cool .cool none t
  let k := (u.coil c).completedAt t.count
  raiseNotice .defrostEnd (.coil c) (BitVec.ofInt 32 k.owed)
    { u with coils := tset u.coils c k, zones := tset t.zones k.zone (t.zone k.zone).recovers }

/-- The coil enters FAN_DELAY as its hold is released; a fan maximum of 0, or a usable temperature at or below the fan
temperature, ends the phase at its entry (R110, R111). -/
def fansAlone (c : CoilIx) (rooms : Vector Room 7) (t : State) : State :=
  let k := t.coil c
  let u := entersPhase c .fanDelay .fanDelay (some k.fanMax) { t with rooms := rooms }
  if k.fanMax = 0 || (coilTemp? t c).any fun x => decide (x ≤ k.fanTemp) then completesAlone c u else u

/-- The coil enters DRIP; a drip time of 0 ends the phase at its entry (R110). -/
def dripsAlone (c : CoilIx) (rooms : Vector Room 7) (t : State) : State :=
  let u := entersPhase c .drip .drip (some (t.coil c).drip) t
  if (t.coil c).drip = 0 then fansAlone c rooms u else u

/-- The coil enters HEAT; a usable temperature at or above the terminate temperature ends the phase at its entry
(R109). -/
def heatsAlone (c : CoilIx) (rooms : Vector Room 7) (t : State) : State :=
  let k := t.coil c
  let u := entersPhase c .heat .heat (some k.maxHeat) t
  if (coilTemp? t c).any fun x => decide (k.terminate ≤ x) then dripsAlone c rooms u else u

/-- The coil enters PUMP_DOWN; a pump-down time of 0 ends the phase at its entry (R108). -/
def pumpsAlone (c : CoilIx) (rooms : Vector Room 7) (t : State) : State :=
  if (t.coil c).pumpDown = 0 then heatsAlone c rooms (entersPumpDown c t) else entersPumpDown c t

/-! ## Conditions on a command -/

/-- An upward frame of a kind, with a payload of `len` bytes, is matched in ACTIVE by entry `e`, which binds it to
an object and admits its length (R4, R18, R19). -/
structure BoundUp (s : State) (h : Header) (kind : Byte) (len : Nat) (e : Fin 128) (b : Bound) : Prop where
  active : s.mode = .active
  dest : h.dest ≠ 0#8
  fits : len ≤ 64
  matched : matching? s .up h.src kind = some e
  object : (s.entry e).object = b
  admitted : (s.entry e).maxPayload = 0 ∨ len ≤ (s.entry e).maxPayload

/-- A trunk ACT_COMMAND is matched in ACTIVE by entry `e`, which binds it to an object and admits its length. -/
structure BoundDown (s : State) (h : Header) (len : Nat) (e : Fin 128) (b : Bound) : Prop where
  active : s.mode = .active
  dest : h.dest ≠ 0#8
  other : h.dest ≠ s.address
  fits : len ≤ 64
  matched : matching? s .down h.dest kindActCommand = some e
  object : (s.entry e).object = b
  admitted : (s.entry e).maxPayload = 0 ∨ len ≤ (s.entry e).maxPayload

/-- The reply that accepts a request, joining the reply queue after the request was acted on (R168, R169). -/
def accepted (q : Sender) (fields : List Byte) (t : State) : State := joinReply (replyFrame t q 0 0 fields) t

/-- A request from the manager that finds room in the reply queue (R168 steps 1 and 3). -/
def FromManager (q : Sender) (s : State) : Prop := q.src = 0xFE#8 ∧ replyCount s < 4

end Sys2Proof.Machine
end

