-- ==== Sys2Proof/Certificates/Slice0/Obligations.lean ====
section
/-! DEFINITION. The statements about the model, each a proposition with the rule it formalises in its docstring. -/

open Sys2Proof Sys2Proof.Machine

/-! ## The queue of commands, power-on, the receivers -/

/-- A step takes the command at the front of the queue and executes it with the queue's rest; with no command waiting
the part idles (the model's queue; log entry 2). -/
def Obligations.StepTakesTheFrontCommand : Prop :=
  (∀ (s : State) (c : Instr) (rest : List Instr), s.pending = c :: rest →
      step s = exec c { s with pending := rest })
    ∧ ∀ s : State, s.pending = [] → step s = .next s

/-- No command changes the queue of commands that wait behind it, and none stops the part: every command has an effect
(log entries 2 and 3). -/
def Obligations.ExecKeepsTheCommandQueue : Prop :=
  ∀ (c : Instr) (s : State), ∃ t : State, exec c s = .next t ∧ t.pending = s.pending

/-- POWER_ON leaves CONFIG, a zero time base, empty queues, cleared counters, every table unloaded, no move issued yet,
and the address 0xF0 plus the strap value (R6, R16, R43, R51, R58, R75, R96, R134, R147, R177; section 7 for its three
tables). That the commands waiting in the model's queue stay is log entry 2; the power-on values of the fields of an
entry never loaded are log entry 30. -/
def Obligations.PowerOnResets : Prop :=
  ∀ (k : Fin 8) (s : State), ∃ t : State, exec (.powerOn k) s = .next t
    ∧ t = { State.reset with strap := k, pending := s.pending }
    ∧ t.address.toNat = 0xF0 + k.val
    ∧ t.mode = .config ∧ t.count = 0#32 ∧ t.exposureTimer = none
    ∧ t.trunkCounters = ⟨0, 0, 0, 0, 0, 0⟩ ∧ t.fieldCounters = ⟨0, 0, 0, 0, 0, 0⟩
    ∧ t.sequence = 0#8 ∧ t.run = 0 ∧ t.trunkTx = none ∧ t.fieldTx = none ∧ t.uplink = []
    ∧ t.forwarded = [] ∧ t.originated = [] ∧ t.answers = [] ∧ t.notices = [] ∧ t.lost = false
    ∧ t.policy = .forward ∧ t.moves = [] ∧ t.lastMove = 23 ∧ t.departed = []
    ∧ (∀ i, (t.entry i).valid = false ∧ (t.entry i).hits = 0 ∧ (t.entry i).stored = none)
    ∧ (∀ i, (t.condition i).enabled = false ∧ (t.condition i).refusals = 0)
    ∧ (∀ i, (t.probe i).loaded = false ∧ (t.probe i).state = .none ∧ (t.probe i).filtered = 0)
    ∧ (∀ z, (t.zone z).inUse = false ∧ (t.zone z).value = 0 ∧ (t.zone z).status = .stale
        ∧ (t.zone z).exposure = 0 ∧ (t.zone z).frost = 0 ∧ (t.zone z).alarmState = .normal
        ∧ (t.zone z).window = .closed ∧ (t.zone z).quiet = false)
    ∧ (∀ p, (t.dock p).loaded = false ∧ (t.dock p).state = .unknown)
    ∧ (∀ r, (t.room r).loaded = false ∧ (t.room r).state = .unknown ∧ (t.room r).hold = .clear
        ∧ (t.room r).claims = [])
    ∧ (∀ c, (t.coil c).loaded = false ∧ (t.coil c).owed = 0 ∧ (t.coil c).phase = .cool
        ∧ (t.coil c).mask = false)
    ∧ (∀ k, (t.cls k).limit = 2000 ∧ (t.cls k).budget = 16777215 ∧ (t.cls k).zones = 0#8)
    ∧ (∀ l, (t.lane l).loaded = false ∧ (t.lane l).depth = 1 ∧ (t.lane l).pallets = []
        ∧ (t.lane l).reserved = 0)
    ∧ (∀ i, t.pallet i = none)
    ∧ ∀ u, (t.shuttle u).loaded = false ∧ (t.shuttle u).state = .unhomed ∧ (t.shuttle u).position = none

/-- Characters are ignored until the receiver has seen its idle line (R1). Each counted event raises one counter of its
port by one, up to 65535, and nothing else (R6). The four receive checks of R4 discard a frame in their order, each
with its counter: n is the number of bytes received, LEN byte 4, DEST byte 0, KIND byte 2; checks 3 and 4 run in ACTIVE
only. -/
def Obligations.ReceiveChecksDiscardInOrder : Prop :=
  ((∀ s : State, exec (.lineIdle .trunk) s = .next { s with trunkReady := true })
      ∧ (∀ s : State, exec (.lineIdle .field) s = .next { s with fieldReady := true })
      ∧ ∀ (s : State) (p : Port) (bytes : List Byte) (damaged : Bool), s.ready p = false →
        exec (.frameCompletion p bytes damaged) s = .next s)
    ∧ (∀ s : State,
      let one (n : Nat) : Nat := min 65535 (n + 1)
      let a := s.trunkCounters
      let b := s.fieldCounters
      countEvent .trunk .crc s = { s with trunkCounters := { a with crc := one a.crc } }
      ∧ countEvent .trunk .length s = { s with trunkCounters := { a with length := one a.length } }
      ∧ countEvent .trunk .format s = { s with trunkCounters := { a with format := one a.format } }
      ∧ countEvent .trunk .misdirected s = { s with trunkCounters := { a with misdirected := one a.misdirected } }
      ∧ countEvent .trunk .unclassified s = { s with trunkCounters := { a with unclassified := one a.unclassified } }
      ∧ countEvent .trunk .overflow s = { s with trunkCounters := { a with overflow := one a.overflow } }
      ∧ countEvent .field .crc s = { s with fieldCounters := { b with crc := one b.crc } }
      ∧ countEvent .field .length s = { s with fieldCounters := { b with length := one b.length } }
      ∧ countEvent .field .format s = { s with fieldCounters := { b with format := one b.format } }
      ∧ countEvent .field .misdirected s = { s with fieldCounters := { b with misdirected := one b.misdirected } }
      ∧ countEvent .field .unclassified s = { s with fieldCounters := { b with unclassified := one b.unclassified } }
      ∧ countEvent .field .overflow s = { s with fieldCounters := { b with overflow := one b.overflow } })
    ∧ (∀ (s : State) (p : Port) (bytes : List Byte) (damaged : Bool), s.ready p = true →
      let n := bytes.length
      let check1 := damaged = true ∨ n < 7 ∨ 71 < n ∨ computedCrc bytes ≠ receivedCrc bytes
      let check2 := 64 < lenByte bytes ∨ lenByte bytes ≠ n - 7
      (check1 → exec (.frameCompletion p bytes damaged) s = .next (countEvent p .crc s))
        ∧ (¬check1 → check2 → exec (.frameCompletion p bytes damaged) s = .next (countEvent p .length s))
        ∧ (¬check1 → ¬check2 → s.mode = .active → bytes.getD 0 0#8 = 0#8 →
            exec (.frameCompletion p bytes damaged) s = .next (countEvent p .format s))
        ∧ (¬check1 → ¬check2 → s.mode = .active → bytes.getD 0 0#8 ≠ 0#8 → p = .field →
            bytes.getD 2 0#8 = 0x30#8 →
            exec (.frameCompletion p bytes damaged) s = .next (countEvent .field .misdirected s)))

/-- Every command that arrives as a frame means what the completion of its frame means: the fields of every frame row
and of every request row are read from the bytes that Table 1-9 and R167 lay out for them (R2 to R5, R168). Where R167
leaves a layout open, the layout is the model's (log entry 31). -/
def Obligations.EveryFrameCommandIsItsBytes : Prop :=
  ∀ (i : Instr) (s : State) (p : Port) (f : Frame), i.wf = true → wireForm? s.address i = some (p, f) →
    s.ready p = true → exec (.frameCompletion p f.bytes false) s = exec i s

/-- In CONFIG an intact field frame passes unexamined to the uplink queue: it joins the tail, or goes out at once on an
idle trunk port with nothing waiting, or is dropped and counted at a full queue. An intact trunk frame for another
address passes to the forwarded share; one for the part's own address that is no MGMT_REQUEST, and a broadcast request,
are misdirected (R4, R5, R9, R10, R27). -/
def Obligations.ConfigFramesPassThrough : Prop :=
  (∀ (s : State) (f : Frame), s.mode = .config → s.fieldReady = true → f.payload.length ≤ 64 →
      (16 ≤ s.uplink.length →
        exec (.frameCompletion .field f.bytes false) s = .next (countEvent .field .overflow s))
      ∧ (s.uplink.length < 16 → s.trunkTx ≠ none →
        exec (.frameCompletion .field f.bytes false) s = .next { s with uplink := s.uplink ++ [f] })
      ∧ (s.trunkTx = none → s.answers = [] → s.notices = [] → s.uplink = [] →
        exec (.frameCompletion .field f.bytes false) s
          = .next { s with trunkTx := some f, run := min 4 (s.run + 1) }))
    ∧ (∀ (s : State) (f : Frame), s.mode = .config → s.trunkReady = true → f.payload.length ≤ 64 →
      (f.dest = s.address → f.kind ≠ 0x30#8 →
        exec (.frameCompletion .trunk f.bytes false) s = .next (countEvent .trunk .misdirected s))
      ∧ (f.dest = 0xFF#8 → f.kind = 0x30#8 →
        exec (.frameCompletion .trunk f.bytes false) s = .next (countEvent .trunk .misdirected s))
      ∧ (f.dest ≠ s.address → ¬(f.dest = 0xFF#8 ∧ f.kind = 0x30#8) → 16 ≤ s.forwarded.length →
        exec (.frameCompletion .trunk f.bytes false) s = .next (countEvent .trunk .overflow s))
      ∧ (f.dest ≠ s.address → ¬(f.dest = 0xFF#8 ∧ f.kind = 0x30#8) → s.forwarded.length < 16 →
        s.fieldTx ≠ none →
        exec (.frameCompletion .trunk f.bytes false) s
          = .next { s with forwarded := s.forwarded ++ [{ frame := f, target := none }] }))

/-! ## The arbiters and the queues (R8 to R14, R28, R161 to R163) -/

/-- At the end of a field transmission the arbiter takes the first originated frame when there is one, otherwise the
head of the forwarded share, otherwise the port idles (R13). With one position per object, at most 27 originated frames
can wait. -/
def Obligations.FieldArbiterTakesOriginatedFirst : Prop :=
  (∀ s : State, (s.originated.map Originated.obj).Nodup → s.originated.length ≤ 27)
    ∧ ∀ s : State, s.fieldTx ≠ none →
    (∀ (o : Originated) (rest : List Originated), s.originated = o :: rest →
      exec (.endOfTransmission .field) s = .next { s with fieldTx := some o.frame, originated := rest })
    ∧ (∀ (f : Forwarded) (rest : List Forwarded), s.originated = [] → s.forwarded = f :: rest →
      exec (.endOfTransmission .field) s = .next { s with fieldTx := some f.frame, forwarded := rest })
    ∧ (s.originated = [] → s.forwarded = [] →
      exec (.endOfTransmission .field) s = .next { s with fieldTx := none })

/-- At the end of a trunk transmission the arbiter takes the oldest answer, else the oldest ALARM notice, else, when
the forwarded run is 4, the oldest other notice, else the head of the uplink queue, else the oldest other notice; a
forwarded frame raises the run up to 4, any other returns it to 0 (R8, R14). The NOTICE frame of a notice that leaves
its queue carries DEST 0xFE, the part's own SRC, the notice sequence as TAG, and kind, severity, object, value, time
and lost flag (R2, R164). -/
def Obligations.TrunkArbiterChoosesByClass : Prop :=
  ∀ s : State, s.trunkTx ≠ none →
    let sent (n : Notice) (others : List Notice) : State :=
      { s with
        trunkTx := some
          { dest := 0xFE#8, src := s.address, kind := 0x32#8, tag := s.sequence
            payload := [byteOf n.kind.code, byteOf n.severity.code, byteOf n.obj.typeCode,
                byteOf n.obj.index] ++ quadBytes n.value ++ quadBytes n.time
              ++ [if s.lost then 1#8 else 0#8] }
        notices := others, sequence := s.sequence + 1#8, lost := false, run := 0 }
    (∀ (a : Answer) (rest : List Answer), s.answers = a :: rest →
      exec (.endOfTransmission .trunk) s = .next { s with trunkTx := some a.frame, answers := rest, run := 0 })
    ∧ (∀ (before after : List Notice) (n : Notice), s.answers = [] → NoticesDistinct s →
      s.notices = before ++ n :: after → n.severity = .alarm → (∀ m ∈ before, m.severity ≠ .alarm) →
      exec (.endOfTransmission .trunk) s = .next (sent n (before ++ after)))
    ∧ (∀ (n : Notice) (after : List Notice), s.answers = [] → NoticesDistinct s →
      s.notices = n :: after → (∀ m ∈ s.notices, m.severity ≠ .alarm) → (s.run = 4 ∨ s.uplink = []) →
      exec (.endOfTransmission .trunk) s = .next (sent n after))
    ∧ (∀ (f : Frame) (rest : List Frame), s.answers = [] → (∀ m ∈ s.notices, m.severity ≠ .alarm) →
      (s.run ≠ 4 ∨ s.notices = []) → s.uplink = f :: rest →
      exec (.endOfTransmission .trunk) s
        = .next { s with trunkTx := some f, uplink := rest, run := min 4 (s.run + 1) })
    ∧ (s.answers = [] → s.notices = [] → s.uplink = [] →
      exec (.endOfTransmission .trunk) s = .next { s with trunkTx := none })

/-- A refusal joins the refusal queue, or is dropped and counted on the trunk port when 8 wait; it is addressed to the
sender of the command, with its TAG, its action byte, the reason and the condition index (R12, R49). A reply joins
behind the answers that wait. Either goes out at once on an idle trunk port with no answer waiting (R8, R14, R169). A
request passes steps 1, 2 and 4 of R168: any request that meets four waiting replies is dropped and counted on the
trunk port; one whose name is unknown, or whose payload ends before its last field (R167), is refused with BAD_REQUEST;
one that its mode does not admit with WRONG_MODE: CLEAR_TABLE and ACTIVATE in ACTIVE, DEACTIVATE and the seven requests
that only ACTIVE admits in CONFIG. The length of an object's key and the layouts that R167 leaves open are the model's
(log entry 31), as is a LOAD_ENTRY of an unknown table or index being long enough (log entry 27). -/
def Obligations.AnswersJoinTheirQueue : Prop :=
  (∀ (s : State) (cmd : Frame) (reason index : Byte),
      let f : Frame :=
        { dest := cmd.src, src := s.address, kind := 0x33#8, tag := cmd.tag
          payload := [cmd.payload.headD 0xFF#8, reason, index] }
      (8 ≤ refusalCount s → refuseCommand cmd reason index s = countEvent .trunk .overflow s)
        ∧ (refusalCount s < 8 → s.trunkTx ≠ none →
            refuseCommand cmd reason index s = { s with answers := s.answers ++ [.refusal f] })
        ∧ (s.answers = [] → s.trunkTx = none →
            refuseCommand cmd reason index s = { s with trunkTx := some f, run := 0 }))
    ∧ (∀ (s : State) (q : Sender) (fields : List Byte),
      let f : Frame :=
        { dest := q.src, src := s.address, kind := 0x31#8, tag := q.tag, payload := 0#8 :: 0#8 :: fields }
      (s.trunkTx ≠ none → accepted q fields s = { s with answers := s.answers ++ [.reply f] })
        ∧ (s.trunkTx = none → s.answers = [] → accepted q fields s = { s with trunkTx := some f, run := 0 }))
    ∧ (∀ (s : State) (i : Instr) (q : Sender) (payload : List Byte), requestPayload? i = some (q, payload) →
      (4 ≤ replyCount s → exec i s = .next (countEvent .trunk .overflow s))
        ∧ (replyCount s < 4 → q.src = 0xFE#8 →
          ((s.mode = .active ∧ ((∃ a, i = .clearTable q a) ∨ i = .activate q))
            ∨ (s.mode = .config ∧ (i = .deactivate q ∨ (∃ a b c d x y, i = .moveOrder q a b c d x y)
              ∨ (∃ a, i = .cancelMove q a) ∨ (∃ a, i = .homeShuttle q a)
              ∨ (∃ a b c d x y, i = .clearShuttle q a b c d x y) ∨ (∃ a b, i = .defrostNow q a b)
              ∨ (∃ a, i = .quietEnter q a) ∨ (∃ a, i = .quietExit q a)))) →
          exec i s = .next (joinReply (replyFrame s q 1 6 []) s)))
    ∧ ∀ (s : State) (f : Frame), s.trunkReady = true → f.dest = s.address → f.kind = 0x30#8 →
      f.payload.length ≤ 64 →
      let lengths : List (Byte × Nat) :=
        [(0x01#8, 2), (0x02#8, 3), (0x03#8, 1), (0x04#8, 3), (0x05#8, 1), (0x09#8, 4), (0x0A#8, 10), (0x0B#8, 1),
          (0x0C#8, 1), (0x0D#8, 9), (0x0E#8, 2), (0x0F#8, 4), (0x10#8, 1), (0x11#8, 1), (0x12#8, 2), (0x13#8, 5),
          (0x14#8, 4), (0x15#8, 4)]
      let loads (index : Nat) (t : Table) : Nat :=
        match t with
        | .classification => 10
        | .condition => 15
        | .probe => 6
        | .zone => if index = 0 then 30 else 29
        | .portal => if index < 16 then 10 else 4
        | .coil => 20
        | .lane => 6
        | .productClass => 7
        | .shuttle => 13
      let ill : Prop :=
        f.payload = [] ∨ ∃ name fields, f.payload = name :: fields
          ∧ (name = 0#8 ∨ 0x15 < name.toNat ∨ (∃ n, (name, n) ∈ lengths ∧ fields.length < n)
            ∨ (name = 0x04#8 ∧ fields.head? = some 6#8 ∧ fields.length < 6)
            ∨ (name = 0x12#8 ∧ fields.head? = some 6#8 ∧ fields.length < 5)
            ∨ ∃ t i rest, name = 0x01#8 ∧ fields = byteOf (Table.code t) :: i :: rest ∧ i.toNat < t.entries
              ∧ rest.length < loads i.toNat t)
      (4 ≤ replyCount s → exec (.frameCompletion .trunk f.bytes false) s = .next (countEvent .trunk .overflow s))
        ∧ (replyCount s < 4 → ill →
          exec (.frameCompletion .trunk f.bytes false) s
            = .next (joinReply (replyFrame s { src := f.src, tag := f.tag } 1 1 []) s))

/-- An offered notice replaces a pending one of its kind and object in place, joins a queue of fewer than 32, and at a
full queue displaces the oldest INFO, or an ALARM the oldest WARNING when no INFO is pending, or else is dropped; a
displacement or a drop sets the lost flag and raises no counter (R163). A notice that joined is offered to an idle
transmitter at once. -/
def Obligations.NoticesCoalesceOrDisplace : Prop :=
  ∀ (s : State) (n : Notice),
    ((∃ m ∈ s.notices, m.kind = n.kind ∧ m.obj = n.obj) →
      offerNotice n s
        = { s with notices := s.notices.map fun m => if m.kind = n.kind ∧ m.obj = n.obj then n else m })
    ∧ ((∀ m ∈ s.notices, ¬(m.kind = n.kind ∧ m.obj = n.obj)) → s.notices.length < 32 →
      offerNotice n s = kickTrunk { s with notices := s.notices ++ [n] })
    ∧ ((∀ m ∈ s.notices, ¬(m.kind = n.kind ∧ m.obj = n.obj)) → 32 ≤ s.notices.length →
      (∀ before after m, s.notices = before ++ m :: after →
        ((n.severity ≠ .info ∧ m.severity = .info ∧ ∀ k ∈ before, k.severity ≠ .info)
          ∨ (n.severity = .alarm ∧ m.severity = .warning ∧ (∀ k ∈ s.notices, k.severity ≠ .info)
            ∧ ∀ k ∈ before, k.severity ≠ .warning)) →
        offerNotice n s = kickTrunk { s with notices := before ++ after ++ [n], lost := true })
      ∧ ((n.severity = .info ∨ (n.severity = .warning ∧ ∀ k ∈ s.notices, k.severity ≠ .info)
          ∨ ∀ k ∈ s.notices, k.severity = .alarm) →
        offerNotice n s = { s with lost := true }))

/-- A frame originated toward the field is addressed by the lowest-numbered valid DOWN entry that names its object and
its kind or ANY, a room door by DOOR 16 plus its index, and offered to its object's position; with no such entry
FRAME_UNADDRESSED is raised instead, carrying the kind code, and nothing else changes (R28). A frame that takes its
object's position replaces the one still waiting there, in its place; otherwise it is the last of the originated share
(R11; the field transmitter is busy). -/
def Obligations.OriginatedFramesAreAddressed : Prop :=
  (∀ r : RoomIx, (OrigObj.door r).bound = .door ⟨16 + r.val, by omega⟩)
    ∧ (∀ c, (OrigObj.coil c).bound = .coil c) ∧ (∀ u, (OrigObj.shuttle u).bound = .shuttle u)
    ∧ (∀ (s : State) (o : OrigObj) (kind : Byte) (payload : List Byte),
      let names (e : Fin 128) : Prop :=
        (s.entry e).valid = true ∧ (s.entry e).direction = .down
          ∧ ((s.entry e).kind = none ∨ (s.entry e).kind = some kind) ∧ (s.entry e).object = o.bound
      ((∀ e, ¬names e) →
        originate o kind payload s
          = raiseNotice .frameUnaddressed o.noticeObj (BitVec.ofNat 32 kind.toNat) s)
      ∧ ∀ e, names e → (∀ e' < e, ¬names e') →
        originate o kind payload s
          = fillPosition o
              { dest := (s.entry e).node, src := s.address, kind := kind, tag := 0#8, payload := payload } s)
    ∧ ∀ (s : State) (o : OrigObj) (f : Frame), s.fieldTx ≠ none →
      ((∀ p ∈ s.originated, p.obj ≠ o) →
        fillPosition o f s = { s with originated := s.originated ++ [{ obj := o, frame := f }] })
      ∧ ((∃ p ∈ s.originated, p.obj = o) →
        fillPosition o f s
          = { s with originated := s.originated.map fun p =>
                if p.obj = o then { obj := p.obj, frame := f } else p })

/-! ## Rules that every step keeps -/

/-- The state after power-on (R177) meets every rule of Safe: the capacities of the queues and the distinct notices (R9
to R12, R162), the ranges of filtered values and accounts (R56, R64, R69), holds without claims (R86), the lanes within
their depth (R121), distinct pallets (R122), and the others that the step lemmas below keep. -/
def Obligations.ResetIsSafe : Prop :=
  Safe State.reset

/-- Every step keeps the capacities of the queues, the single position of each originating object, the forwarded run
within 0 to 4, the six counters of each port within 0 to 65535, and an idle transmitter with nothing waiting: no frame
or notice waits for an event that never comes (R6, R8 to R12, R14, R162, R169). "The notice queue never holds more than
32 notices, nor two with the same kind and object" (R162): every step keeps both. -/
def Obligations.PortsStayWithinBounds : Prop :=
  KeptByStep (fun s =>
      QueuesBounded s ∧ s.trunkCounters.inRange ∧ s.fieldCounters.inRange ∧ TransmittersServe s)
    ∧ KeptByStep fun s => NoticesDistinct s ∧ s.notices.length ≤ 32

/-- "A room portal never has a defrost hold and a move claim at the same time" (R86): no step, of any command, brings a
room portal whose hold is SET to have a claim, neither by a new entry nor by a grant (R87, R91, R92). -/
def Obligations.HoldsAlwaysExcludeClaims : Prop :=
  KeptByStep HoldsExcludeClaims

/-- No step brings one pallet identifier into two records (R122), or one move identifier into two records of the move
queue, which never holds more than 24 records and none in CONFIG (R147 to R149). -/
def Obligations.IdentifiersStayUnique : Prop :=
  KeptByStep PalletsDistinct ∧ KeptByStep MovesBounded

/-- "Every probe filtered value lies within −14080 and 32000" (R56): every step keeps it. Every step keeps every zone
and pallet exposure account within 0 and 16,777,215 (R64, R69), and every owed count at −8 or above and, of a loaded
coil in ACTIVE, at its limit or below (R97, R99, R101). -/
def Obligations.ValuesStayInRange : Prop :=
  KeptByStep FilteredInRange ∧ KeptByStep AccountsInRange ∧ KeptByStep OwedInRange

/-- Every step keeps each lane's occupancy and reservations together within its depth (R121). The lane holds exactly
one reservation for each move from its pick-up decision to its placement there (R126, R152, R155), and what a shuttle
does or holds ready was asked for by the move of its slot A or by itself (R137, R150, R151): these two rule out the
states no run reaches, in which a placement would take a place it did not reserve. -/
def Obligations.LanesNeverOverfill : Prop :=
  KeptByStep fun s => LanesHold s ∧ (∀ u, ShuttleServes s u) ∧ MovesBounded s

/-! ## Classification (R18 to R26) -/

/-- A frame is classified by the lowest-numbered valid entry of its direction, its node address and its kind or ANY;
with no such entry it is unmatched (R18). A matched upward frame bound to NONE, of any kind, by the row of its kind or
by FRAME_COMPLETION, is forwarded by its entry's forward mode alone: FORWARD places it, SUPPRESS does not, ON_CHANGE
places a payload that is new or due. The hit count rises in every case; the stored payload, its time and its age are
replaced only when the queue takes the frame; an idle trunk port with nothing waiting sends it at once (R8, R18, R22,
R23). -/
def Obligations.MatchedFramesGoByForwardMode : Prop :=
  (∀ (s : State) (d : Direction) (node kind : Byte),
      let covers (e : Fin 128) : Prop :=
        (s.entry e).valid = true ∧ (s.entry e).direction = d ∧ (s.entry e).node = node
          ∧ ((s.entry e).kind = none ∨ (s.entry e).kind = some kind)
      (∀ e, matching? s d node kind = some e ↔ covers e ∧ ∀ e' < e, ¬covers e')
        ∧ (matching? s d node kind = none ↔ ∀ e, ¬covers e))
    ∧ (∀ (s : State) (i : Instr) (f : Frame) (e : Fin 128),
      (rowFrame? i = some (.field, f)
        ∨ (s.fieldReady = true ∧ f.kind ≠ 0x30#8 ∧ i = .frameCompletion .field f.bytes false)) →
      BoundUp s ⟨f.dest, f.src, f.tag⟩ f.kind f.payload.length e .none →
      let n := s.entry e
      let placed : Prop :=
        n.forward = .forward ∨ (n.forward = .onChange
          ∧ ∀ p, n.stored = some p → p.payload ≠ f.payload ∨ (n.refresh ≠ 0 ∧ n.refresh ≤ p.age))
      let counted : State :=
        { s with classTable := tset s.classTable e { n with hits := min 65535 (n.hits + 1) } }
      let kept : State :=
        { s with
          classTable := tset s.classTable e
            { n with
              hits := min 65535 (n.hits + 1)
              stored := some { payload := f.payload, time := s.count, age := 0 } } }
      (¬placed → exec i s = .next counted)
        ∧ (placed → 16 ≤ s.uplink.length → exec i s = .next (countEvent .field .overflow counted))
        ∧ (placed → s.uplink.length < 16 → s.trunkTx ≠ none →
            exec i s = .next { kept with uplink := s.uplink ++ [f] })
        ∧ (placed → s.trunkTx = none → s.answers = [] → s.notices = [] → s.uplink = [] →
            exec i s = .next { kept with trunkTx := some f, run := min 4 (s.run + 1) }))

/-- An upward frame of any kind, by the row of its kind or by FRAME_COMPLETION, that no entry matches goes by the
unmatched-up policy; one that is too long for its entry, or whose kind does not suit the entry's object, or whose
object is not in service, is discarded and counted; an ACT_COMMAND that no entry matches is counted and refused with
UNKNOWN_TARGET (R19, R20, R21, R25, R26, R33). A matched ACT_COMMAND that is too long, whose entry binds no target,
whose action is unknown or whose target is not in service is counted on the trunk port. A downward frame of another
kind in ACTIVE: a SHUTTLE_ORDER or a COIL_COMMAND is a mismatch, matched or not; any other joins the forwarded share,
matched by its entry's forward mode and stored in the entry, or is dropped and counted when the share is full (R10,
R22, R23, R24, R26). -/
def Obligations.FramesThatReachNoUnitAreCounted : Prop :=
  (∀ (s : State) (i : Instr) (f : Frame), s.mode = .active → f.dest ≠ 0#8 → f.payload.length ≤ 64 →
    let arrives : Prop := rowFrame? i = some (.field, f)
      ∨ (s.fieldReady = true ∧ f.kind ≠ 0x30#8 ∧ i = .frameCompletion .field f.bytes false)
    (arrives → matching? s .up f.src f.kind = none →
      (s.policy = .drop → exec i s = .next (countEvent .field .unclassified s))
        ∧ (s.policy = .forward → exec i s = .next (joinUplink f s)))
    ∧ (∀ e, arrives → matching? s .up f.src f.kind = some e →
        let n := s.entry e
        let suits : Prop :=
          n.object = .none ∨ (∃ p, n.object = .probe p ∧ f.kind = 0x10#8)
            ∨ (∃ c, n.object = .coil c ∧ (f.kind = 0x10#8 ∨ f.kind = 0x15#8))
            ∨ (∃ p, n.object = .door p ∧ f.kind = 0x11#8) ∨ (∃ p, n.object = .seal p ∧ f.kind = 0x12#8)
            ∨ (∃ p, n.object = .reader p ∧ f.kind = 0x13#8)
            ∨ (∃ u, n.object = .shuttle u ∧ f.kind = 0x14#8)
        (n.maxPayload ≠ 0 → n.maxPayload < f.payload.length →
            exec i s = .next (countEvent .field .length (countHit e s)))
          ∧ ((n.maxPayload = 0 ∨ f.payload.length ≤ n.maxPayload) → (¬suits ∨ n.object.inService s = false) →
            exec i s = .next (countEvent .field .format (countHit e s))))
    ∧ (rowFrame? i = some (.trunk, f) → f.dest ≠ s.address → matching? s .down f.dest 0x20#8 = none →
        exec i s = .next (refuseCommand f 8#8 0xFF#8 (countEvent .trunk .unclassified s)))
    ∧ ∀ e, rowFrame? i = some (.trunk, f) → f.dest ≠ s.address → matching? s .down f.dest 0x20#8 = some e →
        let n := s.entry e
        (n.maxPayload ≠ 0 → n.maxPayload < f.payload.length →
            exec i s = .next (countEvent .trunk .length (countHit e s)))
          ∧ ((n.maxPayload = 0 ∨ f.payload.length ≤ n.maxPayload) →
            (n.object = .none ∨ (∃ p, n.object = .probe p) ∨ (∃ p, n.object = .reader p)
              ∨ (∃ a, f.payload.head? = some a ∧ 5 < a.toNat) ∨ n.object.inService s = false) →
            exec i s = .next (countEvent .trunk .format (countHit e s))))
  ∧ ∀ (s : State) (f : Frame), s.mode = .active → s.trunkReady = true → f.dest ≠ 0#8 → f.dest ≠ s.address →
    f.payload.length ≤ 64 → f.kind ≠ 0x20#8 → ¬(f.kind = 0x30#8 ∧ f.dest = 0xFF#8) →
    let takes (t : State) : Prop := exec (.frameCompletion .trunk f.bytes false) s = .next t
    let own : Prop := f.kind = 0x21#8 ∨ f.kind = 0x22#8
    let joins (dropped kept : State) : Prop :=
      (16 ≤ s.forwarded.length → takes (countEvent .trunk .overflow dropped))
        ∧ (s.forwarded.length < 16 → s.fieldTx ≠ none →
          takes { kept with forwarded := s.forwarded ++ [{ frame := f, target := none }] })
        ∧ (s.fieldTx = none → s.originated = [] → s.forwarded = [] → takes { kept with fieldTx := some f })
    (matching? s .down f.dest f.kind = none →
      (own → takes (countEvent .trunk .format s)) ∧ (¬own → joins s s))
    ∧ ∀ e, matching? s .down f.dest f.kind = some e →
      let n := s.entry e
      let counted : State :=
        { s with classTable := tset s.classTable e { n with hits := min 65535 (n.hits + 1) } }
      let placed : Prop :=
        n.forward = .forward ∨ (n.forward = .onChange
          ∧ ∀ p, n.stored = some p → p.payload ≠ f.payload ∨ (n.refresh ≠ 0 ∧ n.refresh ≤ p.age))
      (n.maxPayload ≠ 0 → n.maxPayload < f.payload.length → takes (countEvent .trunk .length counted))
      ∧ ((n.maxPayload = 0 ∨ f.payload.length ≤ n.maxPayload) →
        (own → takes (countEvent .trunk .format counted))
        ∧ (¬own → ¬placed → takes counted)
        ∧ (¬own → placed → joins counted
          { s with
            classTable := tset s.classTable e
              { n with
                hits := min 65535 (n.hits + 1)
                stored := some { payload := f.payload, time := s.count, age := 0 } } }))

/-! ## The command gate (R32 to R49) -/

/-- The built-in checks of a dock portal, a room portal, a coil, a shuttle and an actuator, every row of Table 3-2
(R34, R35, R36): a DOOR_OPEN needs the seal, the defrost hold and the coils clear, and the zone not quiet; a
SEAL_DEFLATE needs the door not OPEN or MOVING; a DOOR_CLOSE of a room door needs the claims list empty; any action
addressed to a coil or a shuttle is refused, whatever their state. Each refusal names its reason and 0xFF. Every other
command passes them: with no interlock condition enabled and room in the share it joins the share, and no answer is
produced. The field transmitter is busy. -/
def Obligations.BuiltInChecksRefuseCommands : Prop :=
  ∀ (s : State) (h : Header) (action argument : Byte) (extra : List Byte) (e : Fin 128) (b : Bound),
    BoundDown s h (2 + extra.length) e b →
    let f := headerFrame h 0x20#8 ([action, argument] ++ extra)
    let refused (reason : Byte) : Prop :=
      exec (.actCommand h action argument extra) s = .next (refuseCommand f reason 0xFF#8 (countHit e s))
    let passes : Prop :=
      (∀ i, (s.condition i).enabled = false) → s.forwarded.length < 16 → s.fieldTx ≠ none →
        ∃ t : State, exec (.actCommand h action argument extra) s = .next t
          ∧ t.forwarded = s.forwarded ++ [{ frame := f, target := some b }]
          ∧ t.answers = s.answers ∧ t.trunkTx = s.trunkTx ∧ t.trunkCounters = s.trunkCounters
    (∀ p : DockIx, b = .door (dockPortal p) ∨ b = .seal p → (s.dock p).loaded = true →
      (action = 0#8 → (s.dock p).state ≠ .sealed → refused 1#8)
        ∧ (action = 0#8 → (s.dock p).state = .sealed → passes)
        ∧ (action = 3#8 → (s.dock p).position = some .opened ∨ (s.dock p).position = some .moving →
            refused 5#8)
        ∧ (action = 3#8 → (s.dock p).position ≠ some .opened → (s.dock p).position ≠ some .moving → passes)
        ∧ (action = 1#8 ∨ action = 2#8 ∨ action = 4#8 ∨ action = 5#8 → passes))
    ∧ (∀ r : RoomIx, b = .door (roomPortal r) → (s.zone (roomZone r)).inUse = true →
      let heating : Prop :=
        ∃ c, (s.coil c).loaded = true ∧ (s.coil c).zone = roomZone r
          ∧ ((s.coil c).phase = .pumpDown ∨ (s.coil c).phase = .heat ∨ (s.coil c).phase = .drip)
      (action = 0#8 → ((s.room r).hold = .set ∨ heating) → refused 2#8)
        ∧ (action = 0#8 → (s.room r).hold ≠ .set → ¬heating → (s.zone (roomZone r)).quiet = true →
            refused 3#8)
        ∧ (action = 0#8 → (s.room r).hold ≠ .set → ¬heating → (s.zone (roomZone r)).quiet = false → passes)
        ∧ (action = 1#8 → (s.room r).claims ≠ [] → refused 4#8)
        ∧ (action = 1#8 → (s.room r).claims = [] → passes)
        ∧ (action = 2#8 ∨ action = 3#8 ∨ action = 4#8 ∨ action = 5#8 → passes))
    ∧ (∀ c, b = .coil c → (s.coil c).loaded = true → action.toNat ≤ 5 → refused 6#8)
    ∧ (∀ u, b = .shuttle u → (s.shuttle u).loaded = true → action.toNat ≤ 5 → refused 6#8)
    ∧ ∀ k, b = .actuator k → action.toNat ≤ 5 → passes

/-- A command that passed the built-in checks is refused by the lowest interlock entry that is enabled, names its
action or ANY and its target or ANY, and whose subject is unavailable or does not bear the comparison: the refusal
carries that entry's reason and index, and its refusal count rises (R44, R45, R46). The value of each subject and
attribute is that of its row of Table 3-5, with the codes of Table 3-6 (R45). A command that passed every check joins
the forwarded share with its target, its entry stores the payload, and the portal it names is marked: SEAL_INFLATE
takes IDLE to INFLATING and SEAL_DEFLATE takes SEALED to DEFLATING with their timers, DOOR_OPEN marks an unclaimed room
door OUTSIDE; any other command marks nothing. At a full share it is refused with QUEUE_FULL and counted (R38 to R41).
The field transmitter is busy. -/
def Obligations.ConditionsAdmitCommandsToTheShare : Prop :=
  (∀ (s : State) (h : Header) (action argument : Byte) (extra : List Byte) (e : Fin 128) (b : Bound)
      (t : Target) (a : Action),
      BoundDown s h (2 + extra.length) e b → b.target? = some t → action? action.toNat = some a →
      b.inService s = true → builtInRefusal? s t a = none →
      let applies (c : Condition) : Prop :=
        c.enabled = true ∧ (c.action = none ∨ c.action = some a)
          ∧ ((∃ i, b = .door i ∧ (c.target = .door none ∨ c.target = .door (some i)))
            ∨ (∃ i, b = .seal i ∧ (c.target = .seal none ∨ c.target = .seal (some i)))
            ∨ (∃ k, b = .actuator k ∧ (c.target = .actuator none ∨ c.target = .actuator (some k))))
      let holds (c : Condition) : Prop := ∃ v, subjectValue? s c.subject = some v ∧
        match c.cmp with
        | .eq => v = c.reference
        | .ne => v ≠ c.reference
        | .gt => c.reference < v
        | .ge => c.reference ≤ v
        | .lt => v < c.reference
        | .le => v ≤ c.reference
      let f := headerFrame h 0x20#8 ([action, argument] ++ extra)
      (∀ i, applies (s.condition i) → ¬holds (s.condition i) →
        (∀ j < i, applies (s.condition j) → holds (s.condition j)) →
        exec (.actCommand h action argument extra) s
          = .next (refuseCommand f (s.condition i).reason (byteOf i.val)
              { countHit e s with
                conditions := tset s.conditions i
                  { s.condition i with refusals := min 65535 ((s.condition i).refusals + 1) } }))
      ∧ ((∀ i, applies (s.condition i) → holds (s.condition i)) →
        exec (.actCommand h action argument extra) s = .next (placeCommand e f b t a (countHit e s))))
    ∧ (∀ (s : State) (h : Header) (action argument : Byte) (extra : List Byte) (e : Fin 128) (b : Bound)
      (t : Target) (a : Action),
      BoundDown s h (2 + extra.length) e b → b.target? = some t → action? action.toNat = some a →
      b.inService s = true → builtInRefusal? s t a = none → (∀ i, (s.condition i).enabled = false) →
      s.fieldTx ≠ none →
      let f := headerFrame h 0x20#8 ([action, argument] ++ extra)
      let placed : State :=
        { s with
          forwarded := s.forwarded ++ [{ frame := f, target := some b }]
          classTable := tset s.classTable e
            { s.entry e with
              hits := min 65535 ((s.entry e).hits + 1)
              stored := some { payload := f.payload, time := s.count, age := 0 } } }
      (16 ≤ s.forwarded.length →
        exec (.actCommand h action argument extra) s
          = .next (refuseCommand f 7#8 0xFF#8 (countEvent .trunk .overflow (countHit e s))))
      ∧ (s.forwarded.length < 16 →
        exec (.actCommand h action argument extra) s
          = .next
            (match t, a with
            | .dock p, .sealInflate =>
              if (s.dock p).state = .idle then
                { placed with
                  docks := tset s.docks p
                    { s.dock p with state := .inflating, sealTimer := some (s.dock p).inflateTime } }
              else placed
            | .dock p, .sealDeflate =>
              if (s.dock p).state = .sealed then
                { placed with
                  docks := tset s.docks p
                    { s.dock p with state := .deflating, sealTimer := some (s.dock p).deflateTime } }
              else placed
            | .room r, .doorOpen =>
              if (s.room r).claims = [] then
                { placed with rooms := tset s.rooms r { s.room r with openedBy := .outside } }
              else placed
            | _, _ => placed)))
    ∧ ∀ s : State,
      let none? (x : Subject) : Prop := subjectValue? s x = none
      let is (x : Subject) (v : Int) : Prop := subjectValue? s x = some v
      (∀ z a, (s.zone z).inUse = false → none? (.zone z a))
      ∧ (∀ z, (s.zone z).inUse = true →
        ((s.zone z).status = .valid → is (.zone z .temperature) (s.zone z).value)
          ∧ ((s.zone z).status = .stale → none? (.zone z .temperature))
          ∧ is (.zone z .exposure) (s.zone z).exposure ∧ is (.zone z .frostLoad) (s.zone z).frost
          ∧ is (.zone z .quiet) (if z ≠ 0 ∧ (s.zone z).quiet = true then 1 else 0)
          ∧ is (.zone z .alarmState)
            (match (s.zone z).alarmState with
            | .normal => 0
            | .warning => 1
            | .alarm => 2
            | .acknowledged => 3))
      ∧ (∀ p, let usable : Prop := (s.probe p).loaded = true
            ∧ ((s.probe p).state = .valid ∨ (s.probe p).state = .overRange)
          (usable → is (.probeTemperature p) (((s.probe p).filtered + 8) / 16))
            ∧ (¬usable → none? (.probeTemperature p)))
      ∧ (∀ p, none? (.portal (dockPortal p) .claims)
          ∧ ((s.dock p).loaded = false ∨ (s.dock p).state = .unknown → none? (.portal (dockPortal p) .state))
          ∧ ((s.dock p).loaded = true → (s.dock p).state ≠ .unknown → is (.portal (dockPortal p) .state)
            (match (s.dock p).state with
            | .unknown => 0
            | .idle => 1
            | .inflating => 2
            | .sealed => 3
            | .openSealed => 4
            | .breach => 5
            | .openUnsealed => 6
            | .deflating => 7
            | .fault => 8)))
      ∧ (∀ r, ((s.zone (roomZone r)).inUse = false → none? (.portal (roomPortal r) .claims))
          ∧ ((s.zone (roomZone r)).inUse = true →
            is (.portal (roomPortal r) .claims) (s.room r).claims.length)
          ∧ ((s.zone (roomZone r)).inUse = false ∨ (s.room r).state = .unknown →
            none? (.portal (roomPortal r) .state))
          ∧ ((s.zone (roomZone r)).inUse = true → (s.room r).state ≠ .unknown → is (.portal (roomPortal r) .state)
            (match (s.room r).state with
            | .unknown => 0
            | .fault => 8
            | .closed => 9
            | .opening => 10
            | .opened => 11
            | .closing => 12)))
      ∧ (∀ c a, (s.coil c).loaded = false → none? (.coil c a))
      ∧ (∀ c, (s.coil c).loaded = true → is (.coil c .owed) (s.coil c).owed ∧ is (.coil c .phase)
          (match (s.coil c).phase with
          | .cool => 0
          | .pumpDown => 1
          | .heat => 2
          | .drip => 3
          | .fanDelay => 4
          | .portalWait => 5))
      ∧ (∀ u, ((s.shuttle u).loaded = false → none? (.shuttleState u))
          ∧ ((s.shuttle u).loaded = true → is (.shuttleState u)
            (match (s.shuttle u).state with
            | .unhomed => 0
            | .homing => 1
            | .idle => 2
            | .travelling => 3
            | .lifting => 4
            | .lowering => 5
            | .parking => 6
            | .notReady => 7
            | .fault => 8)))
      ∧ ∀ l, ((s.lane l).loaded = false → none? (.laneOccupancy l))
        ∧ ((s.lane l).loaded = true → is (.laneOccupancy l) (s.lane l).pallets.length)

/-! ## Reports from the field nodes (sections 4 to 8) -/

/-- A sample bound to a loaded probe is taken into that probe: the fault code keeps the filtered value and enters
FAULT; any other value is calibrated without wrap, clamped to −880 and 2000, and filtered with a quotient rounded
toward zero, a restart taking the value whole. Entry into FAULT or OVER_RANGE raises PROBE_FAULT with the value (R53,
R54, R56). The zone of a zone probe then takes the largest usable filtered value, rounded, with ZONE_RESTORED when it
was STALE, or goes STALE, with ZONE_STALE when it was VALID (R60, R61). A probe bound to a coil hands over its state
and its rounded value; a usable value that is new or changed ends HEAT at or above the terminate temperature and
FAN_DELAY at or below the fan temperature, and otherwise the coil changes in nothing else (R57, R109, R111): stated for
HEAT with a drip time, and for any coil that defrosts alone in its zone, with a drip time of 0, the phases that end in
the same handling (log entry 16) and the completion. No other probe, zone or coil changes. -/
def Obligations.SamplesUpdateTheirProbe : Prop :=
  ∀ (s : State) (h : Header) (channel : Byte) (value : Half) (flags : Byte) (extra : List Byte)
    (e : Fin 128) (p : ProbeIx), BoundUp s h 0x10#8 (4 + extra.length) e (.probe p) → (s.probe p).loaded = true →
    let f := headerFrame h 0x10#8 ([channel] ++ halfBytes value ++ [flags] ++ extra)
    let answers (t : State) : Prop := exec (.sample h channel value flags extra) s = .next (forwardUp e f t)
    let old := s.probe p
    let x := value.toInt
    let c := x + old.offset
    let inRange : Prop := -880 ≤ c ∧ c ≤ 2000
    let target := 16 * max (-880) (min 2000 c)
    let new : Probe :=
      if x = -32768 then
        { old with state := .fault, lastSample := some s.count, staleTimer := some old.timeout }
      else
        { old with
          state := if inRange then .valid else .overRange
          filtered :=
            if old.state = .valid ∨ old.state = .overRange then
              old.filtered + (target - old.filtered).tdiv (2 ^ old.shift)
            else target
          lastSample := some s.count
          staleTimer := some old.timeout }
    let enters : Prop :=
      (x = -32768 ∧ old.state ≠ .fault) ∨ (x ≠ -32768 ∧ ¬inRange ∧ old.state ≠ .overRange)
    let taken : State := { countHit e s with probes := tset s.probes p new }
    let told : State :=
      if enters then raiseNotice .probeFault (.probe p) (BitVec.ofInt 32 x) taken else taken
    (∀ z, old.binding = .zone z →
      let n := s.zone z
      let serves (q : ProbeIx) : Prop :=
        (taken.probe q).loaded = true ∧ (taken.probe q).binding = .zone z
          ∧ ((taken.probe q).state = .valid ∨ (taken.probe q).state = .overRange)
      let stale : State := { told with zones := tset s.zones z { n with status := .stale } }
      ((∀ q, ¬serves q) → n.status = .stale → answers stale)
      ∧ ((∀ q, ¬serves q) → n.status = .valid →
        answers (raiseNotice .zoneStale (.zone z) (BitVec.ofInt 32 n.value) stale))
      ∧ ∀ q, serves q → (∀ r, serves r → (taken.probe r).filtered ≤ (taken.probe q).filtered) →
        let v : Int := ((taken.probe q).filtered + 8) / 16
        let valid : State := { told with zones := tset s.zones z { n with value := v, status := .valid } }
        (n.status = .valid → answers valid)
          ∧ (n.status = .stale → answers (raiseNotice .zoneRestored (.zone z) (BitVec.ofInt 32 v) valid)))
    ∧ ∀ k, old.binding = .coil k →
      let v : Int := (new.filtered + 8) / 16
      let usable (st : ProbeState) : Prop := st = .valid ∨ st = .overRange
      let read : State :=
        { told with
          coils := tset s.coils k
            { s.coil k with
              probeState := new.state
              probeValue := if new.state = .valid ∨ new.state = .overRange then some v else none } }
      let changed : Prop :=
        usable new.state ∧ (¬usable (s.coil k).probeState ∨ (s.coil k).probeValue ≠ some v)
      let heated : Prop := changed ∧ (s.coil k).phase = .heat ∧ (s.coil k).terminate ≤ v
      let cooled : Prop := changed ∧ (s.coil k).phase = .fanDelay ∧ v ≤ (s.coil k).fanTemp
      (¬heated → ¬cooled → answers read)
      ∧ (heated → (s.coil k).drip ≠ 0 → answers (entersPhase k .drip .drip (some (s.coil k).drip) read))
      ∧ (CoilAlone s k → (cooled → answers (completesAlone k read))
        ∧ ∀ rooms, HoldReleased s (s.coil k).zone rooms → heated → answers (dripsAlone k rooms read))

/-- A COIL_REPORT, or a SAMPLE bound to a coil, sets the coil's reported reading, limited to −880 and 2000, and
restarts its report timer with 60 s; the echo of a COIL_REPORT is compared with the commanded phase. With no probe
bound, a reading that is new or changed ends HEAT at or above the terminate temperature and FAN_DELAY at or below the
fan temperature; otherwise nothing else changes: stated for HEAT with a drip time, and for any coil that defrosts alone
in its zone, with the completion and with a drip time of 0 (R98, R109, R110, R111). An unknown phase echo is discarded
and counted (R113). That a COIL_REPORT takes its echo before its temperature, and that a phase of time 0 ends in the
handling that enters it, are the model's choices (log entry 16). -/
def Obligations.CoilReportsAreKept : Prop :=
  ∀ (s : State) (h : Header) (value : Half) (e : Fin 128) (c : CoilIx), (s.coil c).loaded = true →
    let k := s.coil c
    let read (k : Coil) : Coil :=
      { k with
        reported := if value.toInt = -32768 then .fault else .valid
        reportedValue := if value.toInt = -32768 then none else some (max (-880) (min 2000 value.toInt))
        reportTimer := some 60 }
    let echoed (p : CmdPhase) (k : Coil) : Coil :=
      { k with
        lastEcho := some p
        followTimer := if p = k.commanded then none else some (k.followTimer.getD k.follow) }
    let x := max (-880) (min 2000 value.toInt)
    let changed : Prop :=
      hasProbe s c = false ∧ value.toInt ≠ -32768 ∧ (k.reported ≠ .valid ∨ k.reportedValue ≠ some x)
    let heated : Prop := changed ∧ k.phase = .heat ∧ k.terminate ≤ x
    let cooled : Prop := changed ∧ k.phase = .fanDelay ∧ x ≤ k.fanTemp
    let tested (answers : State → Prop) (t : State) : Prop :=
      (¬heated → ¬cooled → answers t)
        ∧ (heated → k.drip ≠ 0 → answers (entersPhase c .drip .drip (some k.drip) t))
        ∧ (CoilAlone s c → (cooled → answers (completesAlone c t))
          ∧ ∀ rooms, HoldReleased s k.zone rooms → heated → answers (dripsAlone c rooms t))
    (∀ (echo : Byte) (extra : List Byte), BoundUp s h 0x15#8 (3 + extra.length) e (.coil c) →
      let f := headerFrame h 0x15#8 (halfBytes value ++ [echo] ++ extra)
      (4 < echo.toNat →
        exec (.coilReport h value echo extra) s = .next (countEvent .field .format (countHit e s)))
      ∧ ∀ p : CmdPhase, echo.toNat = p.code →
        tested (fun t => exec (.coilReport h value echo extra) s = .next (forwardUp e f t))
          { countHit e s with coils := tset s.coils c (read (echoed p k)) })
    ∧ ∀ (channel flags : Byte) (extra : List Byte), BoundUp s h 0x10#8 (4 + extra.length) e (.coil c) →
      tested
        (fun t => exec (.sample h channel value flags extra) s
          = .next (forwardUp e (headerFrame h 0x10#8 ([channel] ++ halfBytes value ++ [flags] ++ extra)) t))
        { countHit e s with coils := tset s.coils c (read k) }

/-- A door report at a loaded dock portal records position and truck byte and moves the portal: out of UNKNOWN and
FAULT by the derivation, otherwise by Table 5-2; FAULT enters FAULT. The seal timer stops when the state changes;
PORTAL_UNSEALED_OPEN and PORTAL_FAULT are raised once until acknowledged. An unknown position is discarded and counted
(R77 to R80, R82, R83). A pressure report at a loaded dock portal is recorded; in UNKNOWN and FAULT it changes no
state, otherwise the portal moves by Table 5-3, with SEAL_LOST from SEALED and PORTAL_BREACH, once until acknowledged,
from OPEN_SEALED (R77, R78, R81, R83). That a truck present byte of any value is recorded as it was received is the
model's choice (log entry 5). -/
def Obligations.DockPortalsFollowTheirReports : Prop :=
  (∀ (s : State) (h : Header) (position truck : Byte) (extra : List Byte) (e : Fin 128) (p : DockIx),
      BoundUp s h 0x11#8 (2 + extra.length) e (.door (dockPortal p)) → (s.dock p).loaded = true →
      let f := headerFrame h 0x11#8 ([position, truck] ++ extra)
      let d := s.dock p
      let hasSeal : Bool := decide (d.sealOk ≤ d.pressure.getD 0)
      let open_ : DockState := if hasSeal then .openSealed else .openUnsealed
      let moved (pos : DoorPos) (st : DockState) (latch : Latch) : State :=
        { countHit e s with
          docks := tset s.docks p
            { d with
              position := some pos, truck := some truck, state := st, latch := latch
              sealTimer := if st = d.state then d.sealTimer else none } }
      let answers (t : State) : Prop := exec (.doorReport h position truck extra) s = .next (forwardUp e f t)
      let opened (st : DockState) : State :=
        if st = .openUnsealed ∧ d.state ≠ .openUnsealed ∧ d.latch.unsealedOpen = false then
          raiseNotice .portalUnsealedOpen (.portal (dockPortal p)) (BitVec.ofNat 32 (d.pressure.getD 0))
            (moved .opened st { d.latch with unsealedOpen := true })
        else moved .opened st d.latch
      (3 < position.toNat →
        exec (.doorReport h position truck extra) s = .next (countEvent .field .format (countHit e s)))
      ∧ (position = 0#8 → answers (moved .closed
          (match d.state with
          | .unknown | .fault => if hasSeal then .sealed else .idle
          | .openSealed => .sealed
          | .breach | .openUnsealed => .idle
          | st => st) d.latch))
      ∧ (position = 1#8 → answers (moved .moving
          (match d.state with
          | .fault => .unknown
          | st => st) d.latch))
      ∧ (position = 2#8 → answers (opened
          (match d.state with
          | .unknown | .fault => open_
          | .idle | .inflating | .deflating => .openUnsealed
          | .sealed => .openSealed
          | st => st)))
      ∧ (position = 3#8 → answers
          (if d.state ≠ .fault ∧ d.latch.fault = false then
            raiseNotice .portalFault (.portal (dockPortal p)) (BitVec.ofNat 32 d.state.code)
              (moved .fault .fault { d.latch with fault := true })
          else moved .fault .fault d.latch)))
    ∧ (∀ (s : State) (h : Header) (pressure : Half) (extra : List Byte) (e : Fin 128) (p : DockIx),
      BoundUp s h 0x12#8 (2 + extra.length) e (.seal p) → (s.dock p).loaded = true →
      let f := headerFrame h 0x12#8 (halfBytes pressure ++ extra)
      let d := s.dock p
      let x := pressure.toNat
      let moved (st : DockState) (latch : Latch) : State :=
        { countHit e s with
          docks := tset s.docks p
            { d with
              pressure := some x, state := st, latch := latch
              sealTimer := if st = d.state then d.sealTimer else none } }
      let answers (t : State) : Prop := exec (.pressure h pressure extra) s = .next (forwardUp e f t)
      (d.state = .unknown ∨ d.state = .fault → answers (moved d.state d.latch))
      ∧ (d.state ≠ .unknown → d.state ≠ .fault → d.sealOk ≤ x → answers (moved
          (match d.state with
          | .idle => if d.position = some .closed then .sealed else .idle
          | .inflating => .sealed
          | .breach | .openUnsealed => .openSealed
          | st => st) d.latch))
      ∧ (d.state ≠ .unknown → d.state ≠ .fault → x < d.sealOk → x < d.sealLow → answers
          (match d.state with
          | .sealed =>
            raiseNotice .sealLost (.portal (dockPortal p)) (BitVec.ofNat 32 x) (moved .idle d.latch)
          | .openSealed =>
            if d.latch.breach then moved .breach d.latch
            else
              raiseNotice .portalBreach (.portal (dockPortal p)) (BitVec.ofNat 32 x)
                (moved .breach { d.latch with breach := true })
          | .deflating => moved .idle d.latch
          | st => moved st d.latch))
      ∧ (d.state ≠ .unknown → d.state ≠ .fault → x < d.sealOk → d.sealLow ≤ x →
          answers (moved d.state d.latch)))

/-- A door report moves a room portal by Table 5-4 (R85). Unclaimed: entry into OPEN ends the request and its timer and
marks the door OUTSIDE unless the part opened it, entry into CLOSED ends both timers, the request and the mark, and
examines a waiting hold (R77, R85); a door that leaves CLOSED while the hold is SET or WAITING raises
DOOR_OPEN_IN_DEFROST once in the hold (R93). Claimed: a CLOSED or MOVING report in OPEN tells the holders that the door
is no longer ready, asks the door to open and raises PORTAL_CLOSED_ON_CLAIM with the number of claimants; in FAULT it
asks the door to open; entry into OPEN tells the holder that the door is ready, and its armed travel begins (R85, R87,
R137). FAULT is raised once until acknowledged (R83). That a truck present byte of any value is recorded as it was
received, and the argument byte of the DOOR_OPEN, are the model's (log entries 5 and 9); that a FAULT report taken in
OPEN tells the holders that the door is no longer ready is the model's choice, deduced from R85 and R137 (log entry
26), as is the place of PORTAL_CLOSED_ON_CLAIM after the DOOR_OPEN (log entry 41). -/
def Obligations.DoorReportsMoveRoomPortals : Prop :=
  ∀ (s : State) (h : Header) (position truck : Byte) (extra : List Byte) (e : Fin 128) (r : RoomIx),
    BoundUp s h 0x11#8 (2 + extra.length) e (.door (roomPortal r)) → (s.zone (roomZone r)).inUse = true →
    let f := headerFrame h 0x11#8 ([position, truck] ++ extra)
    let p := s.room r
    let seen (pos : DoorPos) : Room := { p with position := some pos, truck := some truck }
    let closed : Room :=
      { seen .closed with
        state := .closed, doorTimer := none, holdOpenTimer := none, request := .none, openedBy := .none }
    let open_ (by_ : OpenedBy) : Room :=
      { seen .opened with state := .opened, doorTimer := none, request := .none, openedBy := by_ }
    let opener : OpenedBy := if p.openedBy = .none then .outside else p.openedBy
    let goes (t : State) : Prop := exec (.doorReport h position truck extra) s = .next (forwardUp e f t)
    let with_ (q : Room) : State := { countHit e s with rooms := tset s.rooms r q }
    let answers (q : Room) : Prop := goes (with_ q)
    let entersClosed : Prop :=
      (p.hold ≠ .waiting → answers closed)
        ∧ (p.hold = .waiting → ∀ t, exec (.holdGrant r) (with_ closed) = .next t → goes t)
    let leavesClosed (code : Nat) (q : Room) : Prop :=
      if p.hold ≠ .clear ∧ p.openDuringHold = false then
        goes (raiseNotice .doorOpenInDefrost (.portal (roomPortal r)) (BitVec.ofNat 32 code)
          (with_ { q with openDuringHold := true }))
      else answers q
    let flagged (b : Bool) : Vector Shuttle 4 := Vector.ofFn fun u : Fin 4 =>
      if p.claims.any fun c => c.shuttle == u then
        { s.shuttle u with
          readyA := if (s.shuttle u).roomA = some r then b else (s.shuttle u).readyA
          readyB := if (s.shuttle u).roomB = some r then b else (s.shuttle u).readyB }
      else s.shuttle u
    let asked (q : Room) (t : State) : State :=
      { originate (.door r) 0x20#8 [0#8, Config.doorArgument] t with
        rooms := tset s.rooms r
          { q with
            state := .opening, request := .opening, doorTimer := some p.openTime
            openedBy := if p.openedBy = .none then .part else p.openedBy } }
    let closedOnClaim (pos : DoorPos) : Prop :=
      goes (raiseNotice .portalClosedOnClaim (.portal (roomPortal r)) (BitVec.ofNat 32 p.claims.length)
        (asked (seen pos) { countHit e s with shuttles := flagged false }))
    (p.claims = [] →
      (position = 0#8 →
        (p.state = .closed ∨ (p.state = .opening ∧ p.request = .opening) → answers (seen .closed))
        ∧ (p.state ≠ .closed → ¬(p.state = .opening ∧ p.request = .opening) → entersClosed))
      ∧ (position = 1#8 →
        (p.state = .closed → leavesClosed 1 { seen .moving with state := .opening, openedBy := .outside })
        ∧ (p.state = .opened → answers { seen .moving with state := .closing })
        ∧ (p.state = .fault → answers { seen .moving with state := .unknown })
        ∧ (p.state = .unknown ∨ p.state = .opening ∨ p.state = .closing → answers (seen .moving)))
      ∧ (position = 2#8 →
        (p.state = .closed → leavesClosed 2 (open_ .outside))
        ∧ (p.state = .opened ∨ (p.state = .closing ∧ p.request = .closing) → answers (seen .opened))
        ∧ (p.state = .unknown ∨ p.state = .opening ∨ p.state = .fault
            ∨ (p.state = .closing ∧ p.request ≠ .closing) → answers (open_ opener))))
    ∧ (p.claims ≠ [] →
      (position = 0#8 → p.state = .opened → closedOnClaim .closed)
      ∧ (position = 1#8 → p.state = .opened → closedOnClaim .moving)
      ∧ (position = 0#8 → p.state = .fault → goes (asked (seen .closed) (countHit e s)))
      ∧ (position = 1#8 → p.state = .fault → goes (asked (seen .moving) (countHit e s)))
      ∧ (position = 0#8 → p.state = .opening → answers (seen .closed))
      ∧ (position = 1#8 → p.state = .opening → answers (seen .moving))
      ∧ (position = 2#8 → p.state = .opened → answers (seen .opened)))
    ∧ (∀ u hs, p.claims = [{ shuttle := u, holders := hs }] → position = 2#8 →
      (p.state = .unknown ∨ p.state = .opening ∨ p.state = .fault
        ∨ (p.state = .closing ∧ p.request ≠ .closing)) →
      let v := tget (flagged true) u
      let ready : State := { with_ (open_ opener) with shuttles := flagged true }
      (v.armed = none → v.state ≠ .homing → goes ready)
      ∧ ∀ target m x, v.armed = some { target := target, by_ := .move m } → v.state = .idle →
        v.position = some x → v.crossed v.position target = [r] →
        goes (originate (.shuttle u) 0x21#8 [0#8, byteOf target.val]
          { ready with
            shuttles := tset (flagged true) u
              { v with
                state := .travelling, parkTimer := none, armed := none
                step := some (.travel target (.move m))
                stepTimer := some ((x.val - target.val + (target.val - x.val)) * v.pitch + v.settle) } }))
    ∧ (3 < position.toNat →
      exec (.doorReport h position truck extra) s = .next (countEvent .field .format (countHit e s)))
    ∧ (position = 3#8 →
      let faulted : Room := { seen .fault with state := .fault, doorTimer := none, request := .none }
      let left : State :=
        { countHit e s with shuttles := if p.state = .opened then flagged false else s.shuttles }
      (p.state = .fault → answers (seen .fault))
      ∧ (p.state ≠ .fault → p.latch.fault = true → goes { left with rooms := tset s.rooms r faulted })
      ∧ (p.state ≠ .fault → p.latch.fault = false →
        goes (raiseNotice .portalFault (.portal (roomPortal r)) (BitVec.ofNat 32 p.state.code)
          { left with rooms := tset s.rooms r { faulted with latch := { p.latch with fault := true } } })))

/-- A TAG_READ at a door that does not stand open changes no record and raises TAG_REJECTED; an identifier of 0, a
class above 7 or an unknown direction is discarded and counted (R2, R84). An admitted IN read of an unknown identifier
takes the lowest record not in use, or else the oldest departed record, which leaves the departed list, or else raises
PALLET_TABLE_FULL; one of a departed pallet sets up its record anew. The fresh record joins the tail of the receive
lane when it has room, otherwise it is UNPLACED with LANE_FULL. An IN read of a pallet already in that lane, or
UNPLACED by this door, changes nothing; of any other live pallet it raises DUPLICATE_TAG (R123, R124). An admitted OUT
read of a pallet in a lane or UNPLACED takes it off its lane and makes it DEPARTED, in order only from the head of the
dispatch lane; of an unknown identifier or a pallet on a deck it raises TAG_REJECTED, of a departed pallet it changes
nothing (R125). -/
def Obligations.TagReadsArriveAndDepart : Prop :=
  ∀ (s : State) (h : Header) (id : PalletId) (cls direction : Byte) (extra : List Byte) (e : Fin 128)
    (p : DockIx), BoundUp s h 0x13#8 (6 + extra.length) e (.reader p) → (s.dock p).loaded = true →
    let f := headerFrame h 0x13#8 (quadBytes id ++ [cls, direction] ++ extra)
    let answers (t : State) : Prop := exec (.tagRead h id cls direction extra) s = .next (forwardUp e f t)
    let counted := countHit e s
    let wellFormed : Prop := id ≠ 0#32 ∧ cls.toNat ≤ 7 ∧ direction.toNat ≤ 1
    let standsOpen : Prop :=
      (s.dock p).state = .openSealed ∨ (s.dock p).state = .breach ∨ (s.dock p).state = .openUnsealed
    let rejected : State := raiseNotice .tagRejected (.portal (dockPortal p)) id counted
    (¬wellFormed →
      exec (.tagRead h id cls direction extra) s = .next (countEvent .field .format counted))
    ∧ (wellFormed → ¬standsOpen → answers rejected)
    ∧ (∀ k : ClassIx, cls.toNat = k.val → id ≠ 0#32 → standsOpen → direction = 0#8 →
      let l := (s.dock p).receiveLane
      let fresh : Pallet :=
        { id := id, cls := k, location := .unplaced, status := .dock, quarantine := false,
          released := false, exposure := 0, arrival := s.count, portal := p, departure := none }
      let arrives (i : PalletIx) (rest : List PalletIx) : Prop :=
        ((s.lane l).pallets.length + (s.lane l).reserved < (s.lane l).depth →
          answers
            { counted with
              lanes := tset s.lanes l { s.lane l with pallets := (s.lane l).pallets ++ [id] }
              pallets := tset s.pallets i
                (some { fresh with
                  location := .lane l, status := if (s.lane l).zone = 0 then .dock else .stored })
              departed := rest })
        ∧ ((s.lane l).depth ≤ (s.lane l).pallets.length + (s.lane l).reserved →
          answers (raiseNotice .laneFull (.lane l) id
            { counted with pallets := tset s.pallets i (some fresh), departed := rest }))
      ((∀ j q, s.pallet j = some q → q.id ≠ id) →
        (∀ i, s.pallet i = none → (∀ j < i, s.pallet j ≠ none) → arrives i s.departed)
        ∧ ((∀ j, s.pallet j ≠ none) →
          (∀ i rest, s.departed = i :: rest → arrives i rest)
          ∧ (s.departed = [] →
            answers (raiseNotice .palletTableFull (.portal (dockPortal p)) id counted))))
      ∧ ∀ i q, PalletsDistinct s → s.pallet i = some q → q.id = id →
        (q.status = .departed → arrives i (s.departed.filter fun j => j != i))
        ∧ (q.status ≠ .departed → q.location = .lane l ∨ (q.location = .unplaced ∧ q.portal = p) →
          answers counted)
        ∧ (q.status ≠ .departed → q.location ≠ .lane l → ¬(q.location = .unplaced ∧ q.portal = p) →
          answers (raiseNotice .duplicateTag (.pallet i) id counted)))
    ∧ (wellFormed → standsOpen → direction = 1#8 → (∀ i q, s.pallet i = some q → q.id ≠ id) →
      answers rejected)
    ∧ ∀ i q, wellFormed → standsOpen → direction = 1#8 → PalletsDistinct s → s.pallet i = some q →
      q.id = id →
      let left (lanes : Vector Lane 48) : State :=
        { counted with
          lanes := lanes
          pallets := tset s.pallets i
            (some { q with location := .none, status := .departed, departure := some s.count })
          departed := s.departed ++ [i] }
      let outOfOrder (t : State) : State := raiseNotice .departureOutOfOrder (.pallet i) id t
      (q.status = .departed → answers counted)
      ∧ (q.status ≠ .departed →
        (∀ u, q.location = .deck u → answers rejected)
        ∧ (q.location = .unplaced → answers (outOfOrder (left s.lanes)))
        ∧ ∀ l, q.location = .lane l →
          let rest := tset s.lanes l
            { s.lane l with pallets := (s.lane l).pallets.filter fun x => x != id }
          (l = (s.dock p).dispatchLane → (s.lane l).pallets.head? = some id → answers (left rest))
          ∧ (l ≠ (s.dock p).dispatchLane ∨ (s.lane l).pallets.head? ≠ some id →
            answers (outOfOrder (left rest))))

/-- A report that matches no step under way changes no record, NOT_READY in IDLE and READY in NOT_READY excepted; an
unknown report or a position above 63 is discarded and counted (R139, R140). NOT_READY in IDLE and READY in NOT_READY
change the state and raise SHUTTLE_READY_CHANGE with 0 and 1; READY begins an armed travel that is clear to start, or
starts the park timer (R140, R145); that the notice is raised before the GO goes out is the model's order (log entry
44). FAULT, and NOT_READY, during a step put the shuttle in FAULT with REPORTED: its step and armed travel end, its
position is UNKNOWN after a travel or a homing whose order was sent, its pallet is HELD, SHUTTLE_FAULT carries the
reason (R127, R141). HOMED at the home position enters IDLE, clears the fault reason, carries the deck's pallet and
raises HOMED, but a deck that differs from the record is DECK_MISMATCH (R143): a deck byte other than 0 and 1 is a free
value (log entry 5). ARRIVED ends a park travel at its position (R145), and a travel to the source, where in the same
handling the move enters PICKING and the PICK goes out with the handling time (R138, R139, R154); a move that is
cancelling asks for no PICK but ends there with CANCELLED and its done count, its reservation released and slot A given
up (R157, R158). No claim is held or waits; what a fault does to the moves of the slots is another statement. -/
def Obligations.ShuttleReportsEndTheirStep : Prop :=
  ∀ (s : State) (h : Header) (report position loaded : Byte) (extra : List Byte) (e : Fin 128)
    (u : ShuttleIx), BoundUp s h 0x14#8 (3 + extra.length) e (.shuttle u) → (s.shuttle u).loaded = true →
    let f := headerFrame h 0x14#8 ([report, position, loaded] ++ extra)
    let counted := countHit e s
    let answers (t : State) : Prop :=
      exec (.shuttleReport h report position loaded extra) s = .next (forwardUp e f t)
    let v := s.shuttle u
    let with_ (w : Shuttle) (t : State) : State := { t with shuttles := tset s.shuttles u w }
    let matchesStep : Prop :=
      match v.step with
      | some (.travel p _) => report = 0#8 ∧ position.toNat = p.val
      | some (.pick _ _) => report = 1#8
      | some (.place _ _) => report = 2#8
      | some .homing => report = 3#8 ∧ position.toNat = v.homePos.val
      | none => False
    let inStep : Prop :=
      v.state = .homing ∨ v.state = .travelling ∨ v.state = .parking ∨ v.state = .lifting
        ∨ v.state = .lowering
    let unassigned : Prop :=
      v.slotA = none ∧ v.slotB = none ∧ v.armed = none ∧ ∀ m ∈ s.moves, (s.lane m.source).rail ≠ some u
    let faulted (reason : FaultReason) (position : Option RailPos) : Shuttle :=
      { v with
        position := position, state := .fault, faultReason := some reason, step := none, armed := none
        stepTimer := none, parkTimer := none }
    let idle (p : RailPos) : Shuttle :=
      { v with
        position := some p, state := .idle, step := none, stepTimer := none
        parkTimer := { v with position := some p }.parkStart }
    let holds (i : PalletIx) (q : Pallet) (st : PalletStatus) : Vector (Option Pallet) 256 :=
      tset s.pallets i (some { q with location := .deck u, status := st })
    (6 < report.toNat ∨ 63 < position.toNat →
      exec (.shuttleReport h report position loaded extra) s = .next (countEvent .field .format counted))
    ∧ (report.toNat ≤ 6 → position.toNat ≤ 63 → ¬matchesStep → (report = 4#8 ∨ report = 6#8 → ¬inStep) →
      ¬(report = 6#8 ∧ v.state = .idle) → ¬(report = 5#8 ∧ v.state = .notReady) → answers counted)
    ∧ (position.toNat ≤ 63 → report = 6#8 → v.state = .idle →
      answers (raiseNotice .shuttleReadyChange (.shuttle u) 0#32
        (with_ { v with state := .notReady, parkTimer := none } counted)))
    ∧ (position.toNat ≤ 63 → report = 5#8 → v.state = .notReady → v.step = none →
      let ready := raiseNotice .shuttleReadyChange (.shuttle u) 1#32 counted
      (unassigned → answers (with_ { v with state := .idle, parkTimer := v.parkStart } ready))
      ∧ ∀ p m x, v.armed = some { target := p, by_ := .move m } → v.position = some x →
        v.crossed (some x) p = [] → v.slotA ≠ none → v.slotB ≠ none →
        answers (sendGo u p (with_ (v.going x p m) ready)))
    ∧ (position.toNat ≤ 63 → report = 4#8 ∨ report = 6#8 → inStep → v.slotA = none → v.slotB = none →
      let fault : Shuttle :=
        faulted .reported
          (match v.step with
          | some (.travel _ _) | some .homing => none
          | some (.pick _ _) | some (.place _ _) | none => v.position)
      (v.deck = none → answers (raiseNotice .shuttleFault (.shuttle u) 1#32 (with_ fault counted)))
      ∧ ∀ i q, PalletsDistinct s → s.pallet i = some q → v.deck = some q.id →
        answers (raiseNotice .shuttleFault (.shuttle u) 1#32
          { with_ fault counted with pallets := holds i q .held }))
    ∧ (report = 3#8 → v.step = some .homing → position.toNat = v.homePos.val → unassigned → NoClaims s →
      let homed (t : State) : State :=
        with_ { idle v.homePos with faultReason := none }
          (raiseNotice .homed (.shuttle u) (BitVec.ofNat 32 v.homePos.val) t)
      let mismatch (t : State) : State :=
        with_ (faulted .deckMismatch (some v.homePos)) (raiseNotice .shuttleFault (.shuttle u) 2#32 t)
      (loaded = 0#8 → v.deck = none → answers (homed counted))
      ∧ (loaded = 1#8 → v.deck = none → answers (mismatch counted))
      ∧ ∀ i q, PalletsDistinct s → s.pallet i = some q → v.deck = some q.id →
        (loaded = 1#8 → answers (homed { counted with pallets := holds i q .carried }))
        ∧ (loaded = 0#8 → answers (mismatch { counted with pallets := holds i q .held })))
    ∧ (∀ p, report = 0#8 → v.step = some (.travel p .shuttle) → position.toNat = p.val → unassigned →
      NoClaims s → answers (with_ (idle p) counted))
    ∧ (∀ (p : RailPos) (m : Move), report = 0#8 → v.step = some (.travel p (.move m.id)) →
      position.toNat = p.val → s.move? m.id = some m → m.state = .toSource → m.cancelling = true →
      m.shuttle = some u → v.slotA = some m.id → v.slotB = none → v.armed = none → OnlyMove s u m.id → NoClaims s →
      answers (with_ { idle p with slotA := none }
        { tellResult m.id 3 0 m.doneCount counted with
          lanes := tset s.lanes m.dest { s.lane m.dest with reserved := (s.lane m.dest).reserved - 1 }
          moves := s.movesBut m.id }))
    ∧ ∀ (p : RailPos) (m : Move) (b : MoveId), report = 0#8 → v.step = some (.travel p (.move m.id)) →
      position.toNat = p.val → s.move? m.id = some m → m.state = .toSource → m.cancelling = false →
      v.slotA = some m.id → v.slotB = some b →
      answers (originate (.shuttle u) 0x21#8 [1#8, byteOf p.val]
        (with_
          { v with
            position := some p, state := .lifting, parkTimer := none
            step := some (.pick m.source m.id), stepTimer := some (v.handling * 10) }
          { counted with moves := s.movesWith m.id fun r => { r with state := .picking } }))

/-- At PICKED the head of the source lane comes onto an empty deck, CARRIED (R126, R139). When it is the iteration
pallet and not held back, or bound for a quarantine lane, the move enters CARRYING and travels to its destination; an
empty lane, or a deck already loaded, ends it with SOURCE_EMPTY, another head with NOT_AT_HEAD, a pallet held back with
QUARANTINE, the reservation released, PARTIAL after a placement and STOPPED before (R154). At PLACED the deck's pallet
joins the tail of the destination lane in place of the reservation, with the status of its zone, and the counts move
(R126, R155): a last placement ends the move DONE, or CANCELLED when it is cancelling; otherwise a new pick-up decision
takes the next head with a new reservation, or ends the move with SOURCE_EMPTY or DEST_FULL. A move that ends leaves
its slot and raises MOVE_RESULT with its codes and its done count (R157), and the shuttle's park timer may start
(R145): that it starts at the end of the handling, although the slot was still filled when the shuttle entered IDLE, is
the model's choice, deduced from R145 (log entry 26). The test at PICKED takes the destination's quarantine lane field
as the move last read it, whatever a load has made of the lane since, and a new decision reads the field anew: that is
deduced from R120 and R131 (log entry 45). No claim is held or waits, the travels cross no door, and no other
move of the rail is queued. -/
def Obligations.PicksAndPlacementsMovePallets : Prop :=
  ∀ (s : State) (h : Header) (report position loaded : Byte) (extra : List Byte) (e : Fin 128)
    (u : ShuttleIx) (m : Move) (x : RailPos), BoundUp s h 0x14#8 (3 + extra.length) e (.shuttle u) →
    (s.shuttle u).loaded = true → position.toNat ≤ 63 → PalletsDistinct s → NoClaims s →
    s.move? m.id = some m → m.shuttle = some u → m.source ≠ m.dest → OnlyMove s u m.id →
    (s.shuttle u).slotA = some m.id → (s.shuttle u).slotB = none → (s.shuttle u).armed = none →
    (s.shuttle u).position = some x →
    let f := headerFrame h 0x14#8 ([report, position, loaded] ++ extra)
    let answers (t : State) : Prop :=
      exec (.shuttleReport h report position loaded extra) s = .next (forwardUp e f t)
    let v := s.shuttle u
    let source := s.lane m.source
    let dest := s.lane m.dest
    let lanes (a b : Lane) : Vector Lane 48 := tset (tset s.lanes m.source a) m.dest b
    let short (n : Nat) : Nat := if 0 < n then 1 else 2
    let ended (deck : Option PalletId) (result reason done : Nat) (t : State) : State :=
      { tellResult m.id result reason done t with
        moves := s.movesBut m.id
        shuttles := tset s.shuttles u
          { v with
            deck := deck, state := .idle, step := none, stepTimer := none, slotA := none
            parkTimer := v.parkStart } }
    let goes (deck : Option PalletId) (p : RailPos) (change : Move → Move) (t : State) : State :=
      sendGo u p
        { t with
          moves := s.movesWith m.id change
          shuttles := tset s.shuttles u { v.going x p m.id with deck := deck } }
    let at_ (i : PalletIx) (q : Pallet) (l : Location) (st : PalletStatus) : Vector (Option Pallet) 256 :=
      tset s.pallets i (some { q with location := l, status := st })
    let held (q : Pallet) (bound : Bool) : Prop := q.quarantine = true ∧ q.released = false ∧ bound = false
    (report = 1#8 → v.step = some (.pick m.source m.id) → m.state = .picking →
      let freed := { dest with reserved := dest.reserved - 1 }
      (source.pallets = [] ∨ v.deck ≠ none →
        answers (ended v.deck (short m.doneCount) 1 m.doneCount
          { countHit e s with lanes := lanes source freed }))
      ∧ ∀ i q rest, v.deck = none → source.pallets = q.id :: rest → s.pallet i = some q →
        q.status ≠ .departed →
        let picked : State := { countHit e s with pallets := at_ i q (.deck u) .carried }
        let stays (reason : Nat) : Prop :=
          answers (ended (some q.id) (short m.doneCount) reason m.doneCount
            { picked with lanes := lanes { source with pallets := rest } freed })
        (m.iteration ≠ some q.id → stays 2)
        ∧ (m.iteration = some q.id → held q m.destQuarantine → stays 3)
        ∧ (m.iteration = some q.id → ¬held q m.destQuarantine → dest.position ≠ x →
          v.crossed (some x) dest.position = [] →
          answers (goes (some q.id) dest.position
            (fun r => { r with state := .carrying, iteration := some q.id })
            { picked with lanes := lanes { source with pallets := rest } dest })))
    ∧ ∀ i q, report = 2#8 → v.step = some (.place m.dest m.id) → m.state = .placing → v.deck = some q.id →
      s.pallet i = some q → 0 < dest.reserved →
      let full := { dest with pallets := dest.pallets ++ [q.id], reserved := dest.reserved - 1 }
      let placed : State :=
        { countHit e s with
          pallets := at_ i q (.lane m.dest) (if dest.zone = 0 then .dock else .stored) }
      let counts (r : Move) : Move :=
        { r with doneCount := r.doneCount + 1, remaining := r.remaining - 1, iteration := none }
      (m.remaining = 1 ∨ m.cancelling = true →
        answers (ended none (if m.cancelling then 3 else 0) 0 (m.doneCount + 1)
          { placed with lanes := lanes source full }))
      ∧ (1 < m.remaining → m.cancelling = false →
        (source.pallets = [] →
          answers (ended none 1 1 (m.doneCount + 1) { placed with lanes := lanes source full }))
        ∧ ∀ j y rest, source.pallets = y.id :: rest → s.pallet j = some y → y.status ≠ .departed →
          y.id ≠ q.id → ¬held y dest.quarantine → (m.named = none ∨ m.named = some y.id) →
          (dest.depth ≤ dest.pallets.length + dest.reserved →
            answers (ended none 1 4 (m.doneCount + 1) { placed with lanes := lanes source full }))
          ∧ (dest.pallets.length + dest.reserved < dest.depth → source.position ≠ x →
            v.crossed (some x) source.position = [] →
            answers (goes none source.position
              (fun r =>
                { counts r with
                  state := .toSource, iteration := some y.id, destQuarantine := dest.quarantine })
              { placed with
                lanes := lanes source { full with reserved := dest.reserved } })))

/-! ## Management requests (sections 1 to 11, as R167 and R168 take them) -/

/-- SET_TIME replaces the time base count and nothing else; a running second in ACTIVE adds one to the count, which
wraps, and one to the age of each stored payload (R22, R23), and takes one second from every running timer; in CONFIG
the time base stands still. The exposure interval expires when its ten running seconds have passed and not before, it
restarts with ten, and no further second passes while an expiry is due: the tick takes it first (R177). That the
remaining times fall together at this one event and stop at 0, and the place of the expiry between two ticks, are the
model's (log entry 4). -/
def Obligations.TimeBaseCountsRunningSeconds : Prop :=
  (∀ (s : State) (q : Sender) (n : Quad), FromManager q s →
      exec (.setTime q n) s = .next (accepted q [] { s with count := n }))
    ∧ (∀ s : State, s.mode = .config → exec .timeBaseTick s = .next s)
    ∧ (∀ s : State, s.exposureTimer ≠ some 0 → exec .exposureIntervalExpiry s = .next s)
    ∧ (∀ s t : State, s.mode = .active → s.exposureTimer = some 0 → exec .exposureIntervalExpiry s = .next t →
      t.mode = .active ∧ t.exposureTimer = some 10 ∧ exec .timeBaseTick s = exec .timeBaseTick t)
    ∧ ∀ s : State, s.mode = .active → s.exposureTimer ≠ some 0 →
      let down (n : Nat) (t : Timer) : Timer := t.map fun x => x - n
      ∃ t : State, exec .timeBaseTick s = .next t
        ∧ t = { s with
                count := s.count + 1#32, exposureTimer := down 1 s.exposureTimer
                classTable := t.classTable, probes := t.probes, zones := t.zones, docks := t.docks
                rooms := t.rooms, coils := t.coils, shuttles := t.shuttles }
        ∧ (∀ i, t.entry i
            = { s.entry i with stored := (s.entry i).stored.map fun p => { p with age := p.age + 1 } })
        ∧ (∀ i, t.probe i = { s.probe i with staleTimer := down 1 (s.probe i).staleTimer })
        ∧ (∀ i, t.zone i = { s.zone i with allowanceTimer := down 1 (s.zone i).allowanceTimer })
        ∧ (∀ i, t.dock i = { s.dock i with sealTimer := down 1 (s.dock i).sealTimer })
        ∧ (∀ i, t.room i
            = { s.room i with
                doorTimer := down 1 (s.room i).doorTimer
                holdOpenTimer := down 1 (s.room i).holdOpenTimer })
        ∧ (∀ i, t.coil i
            = { s.coil i with
                intervalTimer := down 1 (s.coil i).intervalTimer
                spacingTimer := down 1 (s.coil i).spacingTimer
                phaseTimer := down 1 (s.coil i).phaseTimer
                followTimer := down 1 (s.coil i).followTimer
                reportTimer := down 1 (s.coil i).reportTimer })
        ∧ ∀ i, t.shuttle i
            = { s.shuttle i with
                stepTimer := down 10 (s.shuttle i).stepTimer
                parkTimer := down 1 (s.shuttle i).parkTimer }

/-- LOAD_ENTRY from the manager: the entry of a table whose fields are all live is replaced in both modes; the entry of
another table is replaced in CONFIG; an unknown table, an index beyond the table and a field out of range are refused
with BAD_TABLE, BAD_INDEX and BAD_VALUE, in this order (R29, R47, R52, R59, R76, R97, R119, R120, R135, R170). What is
out of range in each table is FieldRangesAreChecked. A load gives an entry its configuration fields alone: a
classification entry starts with a hit count of 0 and no stored payload, a condition entry with a refusal count of 0,
and every other record is loaded with its runtime fields as they stand (R29, R47, R52, R59, R76, R97, R120, R135). That
a request which names an unknown table or index is refused so whatever the length of its fields is the model's choice
(log entry 27); that a coil to which no loaded probe is bound any more loses its probe reading is deduced from R57 (log
entry 25). -/
def Obligations.LoadsStoreTheirFields : Prop :=
  (∀ (s : State) (q : Sender) (table index : Byte) (fields : List Byte), FromManager q s →
    let loads (n : Nat) (t : State) : Prop :=
      n ≤ fields.length → exec (.loadEntry q table index fields) s = .next (accepted q [] t)
    let refused (reason : Nat) : Prop :=
      exec (.loadEntry q table index fields) s
        = .next (joinReply (replyFrame s q 1 reason []) s)
    (∀ i e, table = 1#8 → index.toNat = i.val → readClassEntry fields = some e →
      loads 10 { s with classTable := tset s.classTable i e })
    ∧ (∀ i c, table = 2#8 → index.toNat = i.val → readCondition fields = some c →
      loads 15 { s with conditions := tset s.conditions i c })
    ∧ (∀ i c, table = 8#8 → index.toNat = i.val → readProductClass fields = some c →
      loads 7 { s with classes := tset s.classes i c })
    ∧ (∀ (r : RoomIx) p, table = 5#8 → index.toNat = 16 + r.val → readRoom r (s.room r) fields = some p →
      loads 4 { s with rooms := tset s.rooms r p })
    ∧ (∀ i p, s.mode = .config → table = 3#8 → index.toNat = i.val → readProbe (s.probe i) fields = some p →
      6 ≤ fields.length → ∃ t : State,
        exec (.loadEntry q table index fields) s = .next (accepted q [] t)
          ∧ t = { s with probes := tset s.probes i p, coils := t.coils }
          ∧ ∀ c, ((∃ j, (t.probe j).loaded = true ∧ (t.probe j).binding = .coil c) → t.coil c = s.coil c)
            ∧ ((∀ j, (t.probe j).loaded = true → (t.probe j).binding ≠ .coil c) →
              t.coil c = { s.coil c with probeState := .none, probeValue := none }))
    ∧ (∀ i n, s.mode = .config → table = 4#8 → index.toNat = i.val → i ≠ 0 →
      readZone i (s.zone i) fields = some n → loads 29 { s with zones := tset s.zones i n })
    ∧ (∀ n policy, s.mode = .config → table = 4#8 → index = 0#8 → readZone 0 (s.zone 0) fields = some n →
      readPolicy fields = some policy → loads 30 { s with zones := tset s.zones 0 n, policy := policy })
    ∧ (∀ (p : DockIx) d, s.mode = .config → table = 5#8 → index.toNat = p.val →
      readDock (s.dock p) fields = some d → loads 10 { s with docks := tset s.docks p d })
    ∧ (∀ c k, s.mode = .config → table = 6#8 → index.toNat = c.val →
      readCoilEntry (s.coil c) fields = some k → loads 20 { s with coils := tset s.coils c k })
    ∧ (∀ l n, s.mode = .config → table = 7#8 → index.toNat = l.val → readLane (s.lane l) fields = some n →
      ((s.lane l).pallets = [] → loads 6 { s with lanes := tset s.lanes l n })
        ∧ ((s.lane l).pallets ≠ [] →
          (n.zone ≠ (s.lane l).zone ∨ n.depth < (s.lane l).pallets.length) →
          6 ≤ fields.length → refused 8))
    ∧ (∀ u v, s.mode = .config → table = 9#8 → index.toNat = u.val →
      readShuttleEntry (s.shuttle u) fields = some v →
      loads 13 { s with shuttles := tset s.shuttles u v })
    ∧ ((table = 0#8 ∨ 9 < table.toNat) → refused 2)
    ∧ (∀ t : Table, table.toNat = t.code → t.entries ≤ index.toNat → refused 3)
    ∧ (table = 1#8 → index.toNat < 128 → 10 ≤ fields.length → readClassEntry fields = none → refused 4))
  ∧ (∀ l e, readClassEntry l = some e → e.loaded = true ∧ e.hits = 0 ∧ e.stored = none)
  ∧ (∀ l c, readCondition l = some c → c.loaded = true ∧ c.refusals = 0)
  ∧ (∀ l c, readProductClass l = some c → c.loaded = true)
  ∧ (∀ old l p, readProbe old l = some p → p
      = { old with loaded := true, binding := p.binding, offset := p.offset, shift := p.shift, timeout := p.timeout })
  ∧ (∀ i old l n, readZone i old l = some n → n
      = { old with
          loaded := true, inUse := n.inUse, limit := n.limit, warn := n.warn, alarm := n.alarm
          hysteresis := n.hysteresis, eWarn := n.eWarn, eAlarm := n.eAlarm, recovery := n.recovery
          allowance := n.allowance, recoveryTime := n.recoveryTime, frostThreshold := n.frostThreshold
          wSealed := n.wSealed, wBreach := n.wBreach, wUnsealed := n.wUnsealed, wOpen := n.wOpen
          defrostMode := n.defrostMode })
  ∧ (∀ old l d, readDock old l = some d → d
      = { old with
          loaded := true, receiveLane := d.receiveLane, dispatchLane := d.dispatchLane, sealOk := d.sealOk
          sealLow := d.sealLow, inflateTime := d.inflateTime, deflateTime := d.deflateTime })
  ∧ (∀ r old l p, readRoom r old l = some p → p
      = { old with loaded := true, openTime := p.openTime, holdOpenTime := p.holdOpenTime })
  ∧ (∀ old l k, readCoilEntry old l = some k → k
      = { old with
          loaded := true, zone := k.zone, interval := k.interval, limit := k.limit, start := k.start
          pumpDown := k.pumpDown, maxHeat := k.maxHeat, terminate := k.terminate, drip := k.drip
          fanTemp := k.fanTemp, fanMax := k.fanMax, minSpacing := k.minSpacing, follow := k.follow })
  ∧ (∀ old l n, readLane old l = some n → n
      = { old with
          loaded := true, zone := n.zone, rail := n.rail, position := n.position, depth := n.depth
          quarantine := n.quarantine })
  ∧ ∀ old l v, readShuttleEntry old l = some v → v
      = { old with
          loaded := true, dockLow := v.dockLow, dockHigh := v.dockHigh, roomA := v.roomA, roomB := v.roomB
          homePos := v.homePos, parkPos := v.parkPos, pitch := v.pitch, settle := v.settle
          handling := v.handling, parkTime := v.parkTime }

/-- A LOAD_ENTRY whose fields are there in full is refused with BAD_VALUE, in both modes, when one of them lies outside
its range, and what lies outside is said field by field for all nine tables (R29, R47, R52, R59, R76, R97, R119, R120,
R135, R170; Tables 2-1, 2-2, 3-4, 3-5, 4-1, 4-2, 5-1, 6-1, 7-1, 7-2 and 8-1). Where R167 leaves the place of a field in
the payload open, it is the model's (log entry 31); the kind and the zone that a zone or a portal has by its index are
fields of the load (log entry 21). -/
def Obligations.FieldRangesAreChecked : Prop :=
  (∀ (s : State) (q : Sender) (table index : Byte) (l : List Byte), FromManager q s →
    let refused (n : Nat) : Prop := n ≤ l.length →
      exec (.loadEntry q table index l) s = .next (joinReply (replyFrame s q 1 4 []) s)
    (table = 1#8 → index.toNat < 128 → readClassEntry l = none → refused 10)
    ∧ (table = 2#8 → index.toNat < 64 → readCondition l = none → refused 15)
    ∧ (∀ i, table = 3#8 → index.toNat = i.val → readProbe (s.probe i) l = none → refused 6)
    ∧ (∀ i, table = 4#8 → index.toNat = i.val → readZone i (s.zone i) l = none →
      refused (if i = 0 then 30 else 29))
    ∧ (table = 4#8 → index = 0#8 → readPolicy l = none → refused 30)
    ∧ (∀ p, table = 5#8 → index.toNat = p.val → readDock (s.dock p) l = none → refused 10)
    ∧ (∀ r, table = 5#8 → index.toNat = 16 + r.val → readRoom r (s.room r) l = none → refused 4)
    ∧ (∀ c, table = 6#8 → index.toNat = c.val → readCoilEntry (s.coil c) l = none → refused 20)
    ∧ (∀ i, table = 7#8 → index.toNat = i.val → readLane (s.lane i) l = none → refused 6)
    ∧ (table = 8#8 → index.toNat < 8 → readProductClass l = none → refused 7)
    ∧ ∀ u, table = 9#8 → index.toNat = u.val → readShuttleEntry (s.shuttle u) l = none → refused 13)
  ∧ (let hot (a b : Byte) : Prop := (half a b).toInt < -880 ∨ 2000 < (half a b).toInt
    let past (n : Nat) (a b : Byte) : Prop := n < (half a b).toNat
    (∀ v d node k1 k0 t i m r p l, readClassEntry (v :: d :: node :: k1 :: k0 :: t :: i :: m :: r :: p :: l) = none
      ↔ 1 < v.toNat ∨ 1 < d.toNat ∨ node.toNat = 0 ∨ 0xEF < node.toNat ∨ (k1 ≠ 0#8 ∧ ¬(k1 = 0xFF#8 ∧ k0 = 0xFF#8))
        ∨ (t = 0#8 ∧ 31 < i.toNat) ∨ (t = 1#8 ∧ 22 < i.toNat) ∨ ((t = 2#8 ∨ t = 3#8 ∨ t = 5#8) ∧ 15 < i.toNat)
        ∨ (t = 4#8 ∧ 3 < i.toNat) ∨ (t = 7#8 ∧ i ≠ 0#8) ∨ 7 < t.toNat ∨ 2 < m.toNat ∨ 64 < p.toNat)
    ∧ (∀ e a1 a0 t x1 x0 st si a c r3 r2 r1 r0 why l,
      readCondition (e :: a1 :: a0 :: t :: x1 :: x0 :: st :: si :: a :: c :: r3 :: r2 :: r1 :: r0 :: why :: l) = none
      ↔ 1 < e.toNat ∨ (5 < (half a1 a0).toNat ∧ half a1 a0 ≠ 0xFFFF#16)
        ∨ (half x1 x0 ≠ 0xFFFF#16 ∧ ((t = 0#8 ∧ 22 < (half x1 x0).toNat)
          ∨ ((t = 1#8 ∨ t = 2#8) ∧ 15 < (half x1 x0).toNat) ∨ (t = 3#8 ∧ 3 < (half x1 x0).toNat)
          ∨ (t = 4#8 ∧ 255 < (half x1 x0).toNat))) ∨ 4 < t.toNat
        ∨ (st = 0#8 ∧ (7 < si.toNat ∨ 4 < a.toNat)) ∨ (st = 1#8 ∧ (31 < si.toNat ∨ a ≠ 0#8))
        ∨ (st = 2#8 ∧ (22 < si.toNat ∨ 1 < a.toNat)) ∨ (st = 3#8 ∧ (15 < si.toNat ∨ 1 < a.toNat))
        ∨ (st = 4#8 ∧ (3 < si.toNat ∨ a ≠ 0#8)) ∨ (st = 5#8 ∧ (47 < si.toNat ∨ a ≠ 0#8)) ∨ 5 < st.toNat
        ∨ 5 < c.toNat ∨ why = 0#8)
    ∧ (∀ old t i o k t1 t0 l, readProbe old (t :: i :: o :: k :: t1 :: t0 :: l) = none
      ↔ (t = 0#8 ∧ 7 < i.toNat) ∨ (t = 1#8 ∧ 15 < i.toNat) ∨ 1 < t.toNat ∨ 7 < k.toNat
        ∨ (half t1 t0).toNat < 10 ∨ past 600 t1 t0)
    ∧ (∀ (z : ZoneIx) old kind u l1 l0 w1 w0 a1 a0 h ew3 ew2 ew1 ew0 ea3 ea2 ea1 ea0 rcv d1 d0 r1 r0 f1 f0 ws wb wu
        wo m l,
      readZone z old (kind :: u :: l1 :: l0 :: w1 :: w0 :: a1 :: a0 :: h :: ew3 :: ew2 :: ew1 :: ew0 :: ea3 :: ea2
        :: ea1 :: ea0 :: rcv :: d1 :: d0 :: r1 :: r0 :: f1 :: f0 :: ws :: wb :: wu :: wo :: m :: l) = none
      ↔ kind ≠ (if z = 0 then 0#8 else 1#8) ∨ 1 < u.toNat ∨ hot l1 l0 ∨ hot w1 w0 ∨ hot a1 a0 ∨ 160 < h.toNat
        ∨ ew3 ≠ 0#8 ∨ ea3 ≠ 0#8 ∨ past 320 d1 d0 ∨ past 3600 r1 r0 ∨ 1 < m.toNat)
    ∧ (∀ l, readPolicy l = none ↔ 1 < (l.getD 29 0#8).toNat)
    ∧ (∀ old kind zone r d o1 o0 l1 l0 inf defl l,
      readDock old (kind :: zone :: r :: d :: o1 :: o0 :: l1 :: l0 :: inf :: defl :: l) = none
      ↔ kind ≠ 0#8 ∨ zone ≠ 0#8 ∨ 47 < r.toNat ∨ 47 < d.toNat ∨ inf = 0#8 ∨ 120 < inf.toNat ∨ defl = 0#8
        ∨ 120 < defl.toNat)
    ∧ (∀ (r : RoomIx) old kind zone o h l, readRoom r old (kind :: zone :: o :: h :: l) = none
      ↔ kind ≠ 1#8 ∨ zone.toNat ≠ r.val + 1 ∨ o = 0#8 ∨ 60 < o.toNat ∨ 60 < h.toNat)
    ∧ (∀ old z i1 i0 n st p1 p0 h1 h0 t1 t0 d1 d0 f1 f0 m1 m0 s1 s0 fo l,
      readCoilEntry old (z :: i1 :: i0 :: n :: st :: p1 :: p0 :: h1 :: h0 :: t1 :: t0 :: d1 :: d0 :: f1 :: f0 :: m1
        :: m0 :: s1 :: s0 :: fo :: l) = none
      ↔ 7 < z.toNat ∨ (half i1 i0).toNat < 30 ∨ past 1440 i1 i0 ∨ n = 0#8 ∨ 8 < n.toNat ∨ st = 0#8 ∨ 8 < st.toNat
        ∨ past 600 p1 p0 ∨ (half h1 h0).toNat < 60 ∨ past 3600 h1 h0 ∨ hot t1 t0 ∨ past 900 d1 d0 ∨ hot f1 f0
        ∨ past 900 m1 m0 ∨ past 7200 s1 s0 ∨ fo = 0#8 ∨ 60 < fo.toNat)
    ∧ (∀ old z rt ri p d q l, readLane old (z :: rt :: ri :: p :: d :: q :: l) = none
      ↔ 7 < z.toNat ∨ (rt = 0#8 ∧ 3 < ri.toNat) ∨ (rt = 1#8 ∧ ri ≠ 0#8) ∨ 1 < rt.toNat ∨ 63 < p.toNat ∨ d = 0#8
        ∨ 16 < d.toNat ∨ 1 < q.toNat)
    ∧ (∀ l1 l0 b3 b2 b1 b0 mask l, readProductClass (l1 :: l0 :: b3 :: b2 :: b1 :: b0 :: mask :: l) = none
      ↔ hot l1 l0 ∨ b3 ≠ 0#8 ∨ (b2 = 0#8 ∧ b1 = 0#8 ∧ b0 = 0#8) ∨ mask.getLsbD 0 = true)
    ∧ ∀ old lo hi at_ ai bt bi home park pitch settle hand p1 p0 l,
      readShuttleEntry old (lo :: hi :: at_ :: ai :: bt :: bi :: home :: park :: pitch :: settle :: hand :: p1 :: p0
        :: l) = none
      ↔ 63 < lo.toNat ∨ 63 < hi.toNat ∨ 1 < at_.toNat ∨ (at_ = 0#8 ∧ ai ≠ 0#8)
        ∨ (at_ = 1#8 ∧ (ai = 0#8 ∨ 7 < ai.toNat)) ∨ 1 < bt.toNat ∨ (bt = 0#8 ∧ bi ≠ 0#8)
        ∨ (bt = 1#8 ∧ (bi = 0#8 ∨ 7 < bi.toNat)) ∨ 63 < home.toNat ∨ 63 < park.toNat ∨ pitch = 0#8 ∨ hand = 0#8
        ∨ 60 < hand.toNat ∨ past 3600 p1 p0 ∨ hi.toNat < lo.toNat ∨ (at_ = 1#8 ∧ lo = 0#8)
        ∨ (bt = 1#8 ∧ hi.toNat = 63) ∨ (at_ = 1#8 ∧ bt = 1#8 ∧ ai = bi))

/-- In ACTIVE a load that would change a structural field, or that names a record not loaded, is refused with
LIVE_FIELD_ONLY; one that would turn round an ordering pair (warn above alarm, E_warn above E_alarm, seal_ok at or
below seal_low, S above L) with BAD_VALUE; one that changes live fields alone is taken, the policy with zone 0 (R17,
R52, R59, R76, R97, R120, R135, R170). A coil's new L lowers owed to it and sets forced, sets forced when it equals
owed, clears forced when above, without a notice, and the forced mark of the zone's SET or WAITING hold is stored (R92,
R100, R101; that an unchanged L does nothing to either is the model's, log entry 19). That the mark is 1 while any coil
that shares the hold's request is forced, in its group or as a masked single coil, is the model's choice (log entry
38). When the mark of a WAITING hold changes the hold is examined, and the waiting list granted when it fell (R92). A
park time of 0 stops the park timer (R145). The zones and coils that are loaded here start no defrost: an unmasked coil
of the zone is out of COOL, or the zone has no unmasked coil. -/
def Obligations.StructuralFieldsAreFixedWhileActive : Prop :=
  ∀ (s : State) (q : Sender) (index : Byte) (fields : List Byte), FromManager q s → s.mode = .active →
    let refused (table : Byte) (reason : Nat) : Prop :=
      exec (.loadEntry q table index fields) s = .next (joinReply (replyFrame s q 1 reason []) s)
    let fixed (table : Byte) : Prop := refused table 7
    let taken (table : Byte) (t : State) : Prop :=
      exec (.loadEntry q table index fields) s = .next (accepted q [] t)
    let mine (z : ZoneIx) (d : CoilIx) : Prop := (s.coil d).loaded = true ∧ (s.coil d).zone = z
    let still (z : ZoneIx) : Prop := (∃ d, mine z d ∧ (s.coil d).mask = false ∧ (s.coil d).phase ≠ .cool)
      ∨ ∀ d, mine z d → (s.coil d).mask = true
    (∀ i p, 6 ≤ fields.length → index.toNat = i.val → readProbe (s.probe i) fields = some p →
      ((s.probe i).loaded = false ∨ p.binding ≠ (s.probe i).binding → fixed 3#8)
        ∧ ((s.probe i).loaded = true → p.binding = (s.probe i).binding →
          taken 3#8 { s with probes := tset s.probes i p }))
    ∧ (∀ i n, (if i = 0 then 30 else 29) ≤ fields.length → index.toNat = i.val →
      readZone i (s.zone i) fields = some n → ∀ policy,
      (if i = 0 then readPolicy fields = some policy else policy = s.policy) →
      (n.inUse ≠ (s.zone i).inUse → fixed 4#8)
        ∧ (n.inUse = (s.zone i).inUse → (n.alarm < n.warn ∨ n.eAlarm < n.eWarn) → refused 4#8 4)
        ∧ (n.inUse = (s.zone i).inUse → n.warn ≤ n.alarm → n.eWarn ≤ n.eAlarm → still i →
          taken 4#8 { s with zones := tset s.zones i n, policy := policy }))
    ∧ (∀ (i : DockIx) d, 10 ≤ fields.length → index.toNat = i.val → readDock (s.dock i) fields = some d →
      ((s.dock i).loaded = false ∨ d.receiveLane ≠ (s.dock i).receiveLane
          ∨ d.dispatchLane ≠ (s.dock i).dispatchLane → fixed 5#8)
        ∧ ((s.dock i).loaded = true → d.receiveLane = (s.dock i).receiveLane →
          d.dispatchLane = (s.dock i).dispatchLane →
          (d.sealLow < d.sealOk → taken 5#8 { s with docks := tset s.docks i d })
          ∧ (d.sealOk ≤ d.sealLow → refused 5#8 4)))
    ∧ (∀ i k, 20 ≤ fields.length → index.toNat = i.val → readCoilEntry (s.coil i) fields = some k →
      let old := s.coil i
      let owes : Coil :=
        if k.limit = old.limit then k
        else if k.limit < old.owed then { k with owed := k.limit, forced := true }
        else if k.limit = old.owed then { k with forced := true }
        else { k with forced := false }
      (old.loaded = false ∨ k.zone ≠ old.zone → fixed 6#8)
        ∧ (old.loaded = true → k.zone = old.zone →
          (k.limit < k.start → refused 6#8 4)
          ∧ (k.start ≤ k.limit → still k.zone →
            ((k.zone = 0 ∨ ∃ r, k.zone = roomZone r ∧ (s.room r).hold = .clear) →
              taken 6#8 { s with coils := tset s.coils i owes })
            ∧ ∀ r b, k.zone = roomZone r → (s.room r).hold ≠ .clear →
              let p := s.room r
              let t : State :=
                { s with coils := tset s.coils i owes, rooms := tset s.rooms r { p with holdForced := b } }
              let grantable : Prop := p.claims = [] ∧ p.state = .closed
              (b = true ↔ ∃ d, (t.coil d).loaded = true ∧ (t.coil d).zone = k.zone ∧ (t.coil d).forced = true
                ∧ ((t.coil d).group = true ∨ (t.coil d).phase = .portalWait ∨ (t.coil d).phase = .pumpDown
                  ∨ (t.coil d).phase = .heat ∨ (t.coil d).phase = .drip)) →
              (p.hold = .set ∨ b = p.holdForced → taken 6#8 t)
              ∧ (p.hold = .waiting → b ≠ p.holdForced →
                (¬grantable → b = true → taken 6#8 t)
                ∧ (¬grantable → b = false → ∀ t', exec (.waitingClaimGrant r) t = .next t' → taken 6#8 t')
                ∧ (grantable → (∀ d, mine k.zone d → (t.coil d).phase = .portalWait → (t.coil d).pumpDown ≠ 0) →
                  ∀ t', exec (.holdGrant r) t = .next t' → taken 6#8 t')))))
    ∧ (∀ i n, 6 ≤ fields.length → index.toNat = i.val → readLane (s.lane i) fields = some n →
      ((s.lane i).loaded = false ∨ n.zone ≠ (s.lane i).zone ∨ n.rail ≠ (s.lane i).rail
          ∨ n.position ≠ (s.lane i).position ∨ n.depth ≠ (s.lane i).depth → fixed 7#8)
        ∧ ((s.lane i).loaded = true → n = { s.lane i with quarantine := n.quarantine } →
          taken 7#8 { s with lanes := tset s.lanes i n }))
    ∧ (∀ i v, 13 ≤ fields.length → index.toNat = i.val → readShuttleEntry (s.shuttle i) fields = some v →
      let old := s.shuttle i
      let moved : Prop := v.dockLow ≠ old.dockLow ∨ v.dockHigh ≠ old.dockHigh ∨ v.roomA ≠ old.roomA
        ∨ v.roomB ≠ old.roomB ∨ v.homePos ≠ old.homePos ∨ v.parkPos ≠ old.parkPos
      (old.loaded = false ∨ moved → fixed 9#8)
        ∧ (old.loaded = true → ¬moved →
          taken 9#8
            { s with
              shuttles := tset s.shuttles i
                { old with
                  pitch := v.pitch, settle := v.settle, handling := v.handling, parkTime := v.parkTime
                  parkTimer := if v.parkTime = 0 then none else old.parkTimer } }))

/-- The fields that a load reads into an entry are the bytes that a READ_ENTRY of it begins with, for all nine tables:
no bit of a field is dropped and no two fields change places (R167, R170, R171). Where R167 leaves a layout open, it is
the model's (log entry 31). -/
def Obligations.LoadedFieldsReadBack : Prop :=
  (∀ l e, readClassEntry l = some e → e.config = l.take 10)
    ∧ (∀ l c, readCondition l = some c → c.config = l.take 15)
    ∧ (∀ old l p, readProbe old l = some p → p.config = l.take 6)
    ∧ (∀ (z : ZoneIx) old l n policy, z ≠ 0 → readZone z old l = some n → n.config z policy = l.take 29)
    ∧ (∀ old l n policy, 30 ≤ l.length → readZone 0 old l = some n → readPolicy l = some policy →
        n.config 0 policy = l.take 30)
    ∧ (∀ old l d, readDock old l = some d → d.config = l.take 10)
    ∧ (∀ (r : RoomIx) old l p, readRoom r old l = some p → p.config r = l.take 4)
    ∧ (∀ old l k, readCoilEntry old l = some k → k.config = l.take 20)
    ∧ (∀ old l n, readLane old l = some n → n.config = l.take 6)
    ∧ (∀ l c, readProductClass l = some c → c.config = l.take 7)
    ∧ ∀ old l v, readShuttleEntry old l = some v → v.config = l.take 13

/-- READ_COUNTERS answers with the twelve counters, the trunk port's six and then the field port's six in the order of
Table 1-12; with its clear flag from the manager it then sets them to 0, from any other source it is refused with
NOT_PERMITTED and they keep their values (R7). -/
def Obligations.CountersAreReadAndCleared : Prop :=
  ∀ (s : State) (q : Sender), replyCount s < 4 →
    let counters (c : Counters) : List Byte :=
      be2 c.crc ++ be2 c.length ++ be2 c.format ++ be2 c.misdirected ++ be2 c.unclassified ++ be2 c.overflow
    let all := counters s.trunkCounters ++ counters s.fieldCounters
    exec (.readCounters q 0#8) s = .next (accepted q all s)
    ∧ (q.src = 0xFE#8 → exec (.readCounters q 1#8) s
        = .next (accepted q all
            { s with trunkCounters := ⟨0, 0, 0, 0, 0, 0⟩, fieldCounters := ⟨0, 0, 0, 0, 0, 0⟩ }))
    ∧ (q.src ≠ 0xFE#8 → exec (.readCounters q 1#8) s = .next (joinReply (replyFrame s q 1 5 []) s))

/-- READ_ENTRY, READ_OBJECT and READ_COUNTERS without its clear flag are answered for any sender in both modes and
change nothing but the answer (R7, R171). READ_ENTRY returns an entry's configuration fields (their bytes are those of
LoadedFieldsReadBack), the loaded byte and the runtime rows of its table; READ_OBJECT the runtime state of a zone, a
probe, a portal, a coil, a lane, a pallet, a shuttle or a move (R31, R48, R73, R95, R118, R133, R146, R160). A content
above 62 bytes is given in parts of 60, and a part that does not exist is BAD_VALUE (R169). Unknown tables, object
types, indices and identifiers are refused with BAD_TABLE, BAD_VALUE, BAD_INDEX and NOT_FOUND. Where R167 and the
owning rules leave a place or a content open, such as the target that the step of a HOME is given with, it is the
model's (log entries 31 and 32); a move's claims and its wait sub-state are computed from the portals (log entries 21
and 40), and listing the claims by ascending portal index is the model's choice (log entry 43), as is the order of the
entries and holders of a claims list (log entry 46). A shuttle's step has its requester in READ_ENTRY (Table 8-1) and
none in READ_OBJECT (R146). -/
def Obligations.ReadsReturnTheRecords : Prop :=
  (∀ (s : State) (q : Sender) (a b c : Byte) (key : Quad), ∃ t u v : State,
      exec (.readEntry q a b c) s = .next t ∧ SameButAnswer s t
        ∧ exec (.readObject q a key b) s = .next u ∧ SameButAnswer s u
        ∧ exec (.readCounters q 0#8) s = .next v ∧ SameButAnswer s v)
    ∧ ∀ (s : State) (q : Sender), replyCount s < 4 →
      let refused (reason : Nat) (i : Instr) : Prop := exec i s = .next (joinReply (replyFrame s q 1 reason []) s)
      let gives (read : Byte → Instr) (content : List Byte) : Prop := ∀ part : Byte,
        let parts := (content.length + 59) / 60
        (content.length ≤ 62 → (part = 0#8 → exec (read part) s = .next (accepted q content s))
          ∧ (part ≠ 0#8 → refused 4 (read part)))
        ∧ (62 < content.length →
          (part.toNat < parts → exec (read part) s
            = .next (accepted q (part :: byteOf parts :: (content.drop (60 * part.toNat)).take 60) s))
          ∧ (parts ≤ part.toNat → refused 4 (read part)))
      let entry (table : Byte) (n : Nat) : List Byte → Prop := gives (.readEntry q table (byteOf n))
      let object (type_ : Byte) (n : Nat) : List Byte → Prop := gives (.readObject q type_ (BitVec.ofNat 32 n))
      let num (n : Nat) : List Byte := [byteOf n]
      let flag (b : Bool) : List Byte := [if b then 1#8 else 0#8]
      let temp (x : Int) : List Byte := halfBytes (BitVec.ofInt 16 x)
      let small (x : Int) : List Byte := [BitVec.ofInt 8 x]
      let opt (w : Nat) (o : Option (List Byte)) : List Byte :=
        match o with
        | some l => 1#8 :: l
        | none => 0#8 :: List.replicate w 0#8
      let timer (t : Timer) : List Byte := opt 4 (t.map be4)
      let list (l : List (List Byte)) : List Byte := byteOf l.length :: l.flatten
      let latch (l : Latch) : List Byte :=
        num ((if l.breach then 1 else 0) + (if l.unsealedOpen then 2 else 0) + (if l.fault then 4 else 0))
      let holder (h : Holder) : List Byte :=
        match h with
        | .move m => [0#8, byteOf m.val]
        | .shuttle => [1#8, 0#8]
      let asker (b : Requester) : List Byte :=
        match b with
        | .move m => [0#8, byteOf m.val]
        | .shuttle => [1#8, 0#8]
      let place (p : Option RailPos) : List Byte := num ((p.map Fin.val).getD 0xFF)
      let door (pos : Option DoorPos) (truck : Option Byte) : List Byte :=
        opt 1 (pos.map fun p => num p.code) ++ opt 1 (truck.map fun b => [b])
      let claims (p : Room) : List Byte :=
        list (p.claims.map fun c => num c.shuttle.val ++ list (c.holders.map holder))
          ++ list (p.waiting.map fun w => num w.shuttle.val ++ holder w.holder)
          ++ num p.hold.code ++ flag p.holdForced ++ num p.openedBy.code ++ num p.request.code
          ++ timer p.doorTimer ++ timer p.holdOpenTimer
      let readings (k : Coil) : List Byte :=
        num k.probeState.code ++ opt 2 (k.probeValue.map temp) ++ num k.reported.code
          ++ opt 2 (k.reportedValue.map temp) ++ opt 4 (k.lastEnd.map quadBytes) ++ timer k.intervalTimer
          ++ timer k.spacingTimer ++ timer k.phaseTimer ++ timer k.followTimer ++ timer k.reportTimer
      let rail (v : Shuttle) (w : Nat) (by_ : Requester → List Byte) : List Byte :=
        num v.state.code ++ place v.position ++ quadBytes (v.deck.getD 0#32)
          ++ opt 1 (v.slotA.map fun m => num m.val) ++ opt 1 (v.slotB.map fun m => num m.val)
          ++ opt 1 (v.faultReason.map fun r => num r.code)
          ++ opt w (v.step.map fun
            | .travel t b => num 0 ++ num t.val ++ by_ b
            | .pick l m => num 1 ++ num l.val ++ by_ (.move m)
            | .place l m => num 2 ++ num l.val ++ by_ (.move m)
            | .homing => num 3 ++ num v.homePos.val ++ by_ .shuttle)
          ++ opt 3 (v.armed.map fun a => num a.target.val ++ asker a.by_) ++ flag v.readyA ++ flag v.readyB
          ++ timer v.stepTimer ++ timer v.parkTimer
      (∀ i, let e := s.entry i
        entry 1#8 i.val (e.config ++ flag e.loaded
          ++ opt 1 (e.stored.map fun p => byteOf p.payload.length :: p.payload)
          ++ opt 4 (e.stored.map fun p => quadBytes p.time) ++ be2 e.hits))
      ∧ (∀ i, let c := s.condition i
        entry 2#8 i.val (c.config ++ flag c.loaded ++ be2 c.refusals))
      ∧ (∀ i, let p := s.probe i
        entry 3#8 i.val (p.config ++ flag p.loaded ++ num p.state.code ++ temp p.filtered
            ++ opt 4 (p.lastSample.map quadBytes) ++ be4 (p.staleTimer.getD 0))
          ∧ object 2#8 i.val (num p.state.code ++ temp p.filtered ++ opt 4 (p.lastSample.map quadBytes)
            ++ be4 (p.staleTimer.getD 0)))
      ∧ (∀ i, let n := s.zone i
        entry 4#8 i.val (n.config i s.policy ++ flag n.loaded ++ num n.pointer.val ++ flag n.quiet ++ temp n.value
            ++ num n.status.code ++ be4 n.exposure ++ be2 n.frost ++ num n.alarmState.code ++ num n.window.code
            ++ be4 (n.allowanceTimer.getD 0))
          ∧ object 1#8 i.val (temp n.value ++ num n.status.code ++ be4 n.exposure ++ be2 n.frost
            ++ num n.alarmState.code ++ num n.window.code ++ be4 (n.allowanceTimer.getD 0) ++ flag n.quiet
            ++ num n.pointer.val))
      ∧ (∀ p, let d := s.dock p
        let state := num d.state.code ++ door d.position d.truck ++ opt 2 (d.pressure.map be2)
          ++ timer d.sealTimer ++ latch d.latch
        entry 5#8 p.val (d.config ++ flag d.loaded ++ state) ∧ object 3#8 p.val state)
      ∧ (∀ r, let p := s.room r
        entry 5#8 (16 + r.val) (p.config r ++ flag p.loaded ++ num p.state.code ++ door p.position p.truck
            ++ latch p.latch ++ claims p ++ flag p.openDuringHold)
          ∧ object 3#8 (16 + r.val) (num p.state.code ++ door p.position p.truck ++ opt 2 none ++ timer none
            ++ latch p.latch ++ claims p))
      ∧ (∀ c, let k := s.coil c
        entry 6#8 c.val (k.config ++ flag k.loaded ++ flag k.mask ++ small k.owed ++ flag k.forced ++ flag k.pullIn
            ++ num k.phase.code ++ flag k.group ++ flag k.quietStart ++ num k.commanded.code
            ++ opt 1 (k.lastEcho.map fun p => num p.code) ++ flag k.notFollowing ++ readings k)
          ∧ object 4#8 c.val (num k.phase.code ++ num k.commanded.code ++ opt 1 (k.lastEcho.map fun p => num p.code)
            ++ small k.owed ++ small k.limit ++ flag k.forced ++ flag k.pullIn ++ flag k.mask ++ flag k.group
            ++ flag k.quietStart ++ readings k))
      ∧ (∀ i, let l := s.lane i
        entry 7#8 i.val (l.config ++ flag l.loaded ++ list (l.pallets.map quadBytes) ++ num l.reserved)
          ∧ object 5#8 i.val (l.config ++ flag l.loaded ++ num l.pallets.length ++ num l.reserved
            ++ list (l.pallets.map quadBytes)))
      ∧ (∀ i, let c := s.cls i
        entry 8#8 i.val (temp c.limit ++ be4 c.budget ++ [c.zones] ++ flag c.loaded))
      ∧ (∀ u, let v := s.shuttle u
        entry 9#8 u.val (v.config ++ flag v.loaded ++ rail v 4 asker) ∧ object 7#8 u.val (rail v 2 fun _ => []))
      ∧ (∀ (i : PalletIx) (p : Pallet), PalletsDistinct s → s.pallet i = some p →
        gives (.readObject q 6#8 p.id)
          (num i.val ++ [1#8] ++ quadBytes p.id ++ num p.cls.val
            ++ (match p.location with
              | .lane l => [0#8, byteOf l.val]
              | .deck u => [1#8, byteOf u.val]
              | .unplaced => [2#8, 0#8]
              | .none => [3#8, 0#8])
            ++ num p.status.code ++ flag p.quarantine ++ flag p.released ++ be4 p.exposure ++ quadBytes p.arrival
            ++ num p.portal.val ++ opt 4 (p.departure.map quadBytes)))
      ∧ (∀ m r, s.move? m = some r →
        object 8#8 m.val (num r.id.val ++ num r.source.val ++ num r.dest.val ++ quadBytes (r.named.getD 0#32)
          ++ halfBytes r.reqTag ++ num r.priority.code ++ num r.remaining ++ num r.doneCount ++ flag r.cancelling
          ++ num r.state.code ++ num (waitState s r).code ++ opt 1 (r.shuttle.map fun u => num u.val)
          ++ list ((moveClaims s m).map fun c => num (16 + c.1.val) ++ num (if c.2 then 0 else 1))
          ++ quadBytes (r.iteration.getD 0#32)))
      ∧ (∀ table index part, ((table = 0#8 ∨ 9 < table.toNat) → refused 2 (.readEntry q table index part))
        ∧ ∀ t : Table, table.toNat = t.code → t.entries ≤ index.toNat → refused 3 (.readEntry q table index part))
      ∧ ∀ type_ key part, ((type_ = 0#8 ∨ 8 < type_.toNat) → refused 4 (.readObject q type_ key part))
        ∧ (∀ t : Table, ((type_ = 1#8 ∧ t = .zone) ∨ (type_ = 2#8 ∧ t = .probe) ∨ (type_ = 3#8 ∧ t = .portal)
            ∨ (type_ = 4#8 ∧ t = .coil) ∨ (type_ = 5#8 ∧ t = .lane) ∨ (type_ = 7#8 ∧ t = .shuttle)) →
          t.entries ≤ key.toNat → refused 3 (.readObject q type_ key part))
        ∧ (type_ = 8#8 → 23 < key.toNat → refused 3 (.readObject q type_ key part))
        ∧ (∀ m : MoveId, type_ = 8#8 → key.toNat = m.val → s.move? m = none →
          refused 10 (.readObject q type_ key part))
        ∧ (type_ = 6#8 → (∀ i p, s.pallet i = some p → p.id ≠ key) → refused 10 (.readObject q type_ key part))

/-- CLEAR_TABLE in CONFIG returns every entry of the named table to power-on, with the effects on other tables: the
policy with the zones, UNPLACED pallets with the lanes, emptied lanes and decks with the pallets, the pallet of each
loaded deck UNPLACED with the shuttles. In ACTIVE it is refused, as is an unknown table code (R132, R134, R172). That
the coils lose their probe readings with the probe table is deduced from R57 (log entry 25). -/
def Obligations.ClearedTablesReturnToPowerOn : Prop :=
  ∀ (s : State) (q : Sender) (table : Byte), FromManager q s →
    let cleared (t : State) : Prop := exec (.clearTable q table) s = .next (accepted q [] t)
    let refused (reason : Nat) : Prop :=
      exec (.clearTable q table) s = .next (joinReply (replyFrame s q 1 reason []) s)
    (s.mode = .active → refused 6)
    ∧ (s.mode = .config →
      ((table = 0#8 ∨ 10 < table.toNat) → refused 2)
      ∧ (table = 1#8 → cleared { s with classTable := State.reset.classTable })
      ∧ (table = 2#8 → cleared { s with conditions := State.reset.conditions })
      ∧ (table = 3#8 → ∃ t : State, cleared t
          ∧ t = { s with probes := State.reset.probes, coils := t.coils }
          ∧ ∀ c, t.coil c = { s.coil c with probeState := .none, probeValue := none })
      ∧ (table = 4#8 → cleared { s with zones := State.reset.zones, policy := .forward })
      ∧ (table = 5#8 → cleared { s with docks := State.reset.docks, rooms := State.reset.rooms })
      ∧ (table = 6#8 → cleared { s with coils := State.reset.coils })
      ∧ (table = 7#8 → ∃ t : State, cleared t
          ∧ t = { s with lanes := State.reset.lanes, pallets := t.pallets }
          ∧ (∀ i, s.pallet i = none → t.pallet i = none)
          ∧ ∀ i p, s.pallet i = some p →
            ((∃ l, p.location = .lane l) →
              t.pallet i = some { p with location := .unplaced, status := .dock })
            ∧ ((∀ l, p.location ≠ .lane l) → t.pallet i = some p))
      ∧ (table = 8#8 → cleared { s with classes := State.reset.classes })
      ∧ (table = 9#8 → PalletsDistinct s → ∃ t : State, cleared t
          ∧ t = { s with shuttles := State.reset.shuttles, pallets := t.pallets }
          ∧ (∀ i, s.pallet i = none → t.pallet i = none)
          ∧ ∀ i p, s.pallet i = some p →
            ((∃ u, (s.shuttle u).deck = some p.id) →
              t.pallet i = some { p with location := .unplaced, status := .dock })
            ∧ ((∀ u, (s.shuttle u).deck ≠ some p.id) → t.pallet i = some p))
      ∧ (table = 10#8 → ∃ t : State, cleared t
          ∧ t = { s with
                  pallets := State.reset.pallets, departed := [], lanes := t.lanes
                  shuttles := t.shuttles }
          ∧ (∀ l, t.lane l = { s.lane l with pallets := [] })
          ∧ ∀ u, t.shuttle u = { s.shuttle u with deck := none }))

/-- ACTIVATE goes through the checks of Table 11-5 by table code and index and refuses with CONFIG_INVALID, carrying
the table and the entry of the first that fails; when none fails it enters ACTIVE with the activation values of every
unit, a zero count and a running exposure interval (R51, R58, R75, R96, R132, R134, R173, R174, R177). That the spacing
timer starts at a spacing of 0 too, to expire next, is the model's reading (log entry 18). -/
def Obligations.ActivationStartsEveryUnit : Prop :=
  ∀ (s : State) (q : Sender), FromManager q s → s.mode = .config →
    let used (z : ZoneIx) : Prop := (s.zone z).inUse = true
    let dockLane (l : LaneIx) : Prop := (s.lane l).loaded = true ∧ (s.lane l).zone = 0
    let before (i : ProbeIx) : Nat := ((List.finRange 32).filter fun j =>
      decide (j < i ∧ (s.probe j).loaded = true ∧ (s.probe j).binding = (s.probe i).binding)).length
    let onDock (v : Shuttle) (p : RailPos) : Prop := v.dockLow ≤ p ∧ p ≤ v.dockHigh
    let fails (table index : Nat) : Prop :=
      (∃ i : ProbeIx, table = 3 ∧ index = i.val ∧ (s.probe i).loaded = true
        ∧ ((∃ z, (s.probe i).binding = .zone z ∧ (¬used z ∨ 4 ≤ before i))
          ∨ ∃ c, (s.probe i).binding = .coil c ∧ ((s.coil c).loaded = false ∨ 1 ≤ before i)))
      ∨ (∃ z : ZoneIx, table = 4 ∧ index = z.val
        ∧ ((z = 0 ∧ ¬used z)
          ∨ (used z ∧ ((s.zone z).alarm < (s.zone z).warn ∨ (s.zone z).eAlarm < (s.zone z).eWarn))))
      ∨ (∃ p : DockIx, table = 5 ∧ index = p.val ∧ (s.dock p).loaded = true
        ∧ ((s.dock p).sealOk ≤ (s.dock p).sealLow ∨ ¬dockLane (s.dock p).receiveLane
          ∨ ¬dockLane (s.dock p).dispatchLane))
      ∨ (∃ r : RoomIx, table = 5 ∧ index = 16 + r.val ∧ used (roomZone r) ∧ (s.room r).loaded = false)
      ∨ (∃ c : CoilIx, table = 6 ∧ index = c.val ∧ (s.coil c).loaded = true
        ∧ (¬used (s.coil c).zone ∨ (s.coil c).limit < (s.coil c).start))
      ∨ (∃ (l : LaneIx) (u : ShuttleIx), table = 7 ∧ index = l.val ∧ (s.lane l).loaded = true
        ∧ (s.lane l).rail = some u
        ∧ let v := s.shuttle u
          let p := (s.lane l).position
          ¬(v.loaded = true
            ∧ ((onDock v p ∧ (s.lane l).zone = 0)
              ∨ (p < v.dockLow ∧ ∃ r, v.roomA = some r ∧ (s.lane l).zone = roomZone r)
              ∨ (v.dockLow ≤ p ∧ v.dockHigh < p ∧ ∃ r, v.roomB = some r ∧ (s.lane l).zone = roomZone r))))
      ∨ (∃ u : ShuttleIx, table = 9 ∧ index = u.val ∧ (s.shuttle u).loaded = true
        ∧ let v := s.shuttle u
          (¬onDock v v.homePos ∨ ¬onDock v v.parkPos
            ∨ ∃ r, (v.roomA = some r ∨ v.roomB = some r) ∧ ¬used (roomZone r)))
    (∀ table index, fails table index →
      (∀ a b, fails a b → table < a ∨ (table = a ∧ index ≤ b)) →
      exec (.activate q) s = .next (joinReply (replyFrame s q 1 16 [byteOf table, byteOf index]) s))
    ∧ ((∀ a b, ¬fails a b) → ∃ t : State, exec (.activate q) s = .next (accepted q [] t)
      ∧ t = { s with
              mode := .active, count := 0#32, exposureTimer := some 10, probes := t.probes
              zones := t.zones, docks := t.docks, rooms := t.rooms, coils := t.coils, lanes := t.lanes
              pallets := t.pallets, shuttles := t.shuttles }
      ∧ (∀ i, t.probe i = if (s.probe i).loaded = true then
            { s.probe i with
              state := .none, filtered := 0, lastSample := none
              staleTimer := some (s.probe i).timeout }
          else s.probe i)
      ∧ (∀ z, t.zone z
          = { s.zone z with
              pointer := 0, quiet := false, value := 0, status := .stale, exposure := 0, frost := 0
              alarmState := .normal, window := .closed, allowanceTimer := none })
      ∧ (∀ p, t.dock p
          = { s.dock p with
              state := .unknown, position := none, truck := none, pressure := none, sealTimer := none
              latch := ⟨false, false, false⟩ })
      ∧ (∀ r, t.room r
          = { s.room r with
              state := .unknown, position := none, truck := none, latch := ⟨false, false, false⟩, claims := []
              waiting := [], hold := .clear, holdForced := false, openedBy := .none, request := .none
              doorTimer := none, holdOpenTimer := none, openDuringHold := false })
      ∧ (∀ c, t.coil c = if (s.coil c).loaded = true then
            { s.coil c with
              owed := 0, forced := false, pullIn := false, phase := .cool, group := false, quietStart := false
              commanded := .cool, lastEcho := none, notFollowing := false, probeState := .none
              probeValue := none, reported := .none, reportedValue := none, lastEnd := none
              intervalTimer := some (60 * (s.coil c).interval), spacingTimer := some (s.coil c).minSpacing
              phaseTimer := none, followTimer := none, reportTimer := none }
          else s.coil c)
      ∧ (∀ l, t.lane l = { s.lane l with reserved := 0 })
      ∧ (∀ i, t.pallet i = (s.pallet i).map fun p =>
          { p with status := if p.status = .carried then .held else p.status })
      ∧ ∀ u, t.shuttle u = if (s.shuttle u).loaded = true then
            { s.shuttle u with
              state := .unhomed, position := none, slotA := none, slotB := none, faultReason := none
              step := none, armed := none, readyA := false, readyB := false, stepTimer := none
              parkTimer := none }
          else s.shuttle u)

/-- DEACTIVATE is refused with BUSY while a move is beyond QUEUED, a coil out of COOL, a room portal claimed, waited
for or held, or a shuttle in a step; otherwise the part enters CONFIG, the queued moves are discarded, every timer
stops, every other field of every record stands and the queues are kept (R134, R147, R175, R177). A slot that names a
discarded queued move is such a field and goes on naming it (log entry 20). -/
def Obligations.DeactivationNeedsAnIdlePart : Prop :=
  ∀ (s : State) (q : Sender), FromManager q s → s.mode = .active →
    let busy : Prop :=
      (∃ m ∈ s.moves, m.state ≠ .queued) ∨ (∃ c, (s.coil c).phase ≠ .cool)
        ∨ (∃ r, (s.room r).claims ≠ [] ∨ (s.room r).waiting ≠ [] ∨ (s.room r).hold ≠ .clear)
        ∨ ∃ u, (s.shuttle u).state = .homing ∨ (s.shuttle u).state = .travelling
            ∨ (s.shuttle u).state = .parking ∨ (s.shuttle u).state = .lifting
            ∨ (s.shuttle u).state = .lowering
    (busy → exec (.deactivate q) s = .next (joinReply (replyFrame s q 1 8 []) s))
    ∧ (¬busy → ∃ t : State, exec (.deactivate q) s = .next (accepted q [] t)
      ∧ t = { s with
              mode := .config, exposureTimer := none, moves := [], probes := t.probes, zones := t.zones
              docks := t.docks, rooms := t.rooms, coils := t.coils, shuttles := t.shuttles }
      ∧ (∀ i, t.probe i = { s.probe i with staleTimer := none })
      ∧ (∀ z, t.zone z = { s.zone z with allowanceTimer := none })
      ∧ (∀ p, t.dock p = { s.dock p with sealTimer := none })
      ∧ (∀ r, t.room r = { s.room r with doorTimer := none, holdOpenTimer := none })
      ∧ (∀ c, t.coil c
          = { s.coil c with
              intervalTimer := none, spacingTimer := none, phaseTimer := none, followTimer := none
              reportTimer := none })
      ∧ ∀ u, t.shuttle u
          = { s.shuttle u with stepTimer := none, parkTimer := none })

/-- RESTART keeps the mode, the time and every configuration field (R176). The ports empty their queues and the run
becomes 0 (R15), the reply queue is emptied (R169), the notice queue too, with the lost flag set when it held anything,
and RESTARTED is raised with the number of moves discarded (R147, R165). Classification entries lose their stored
payloads, probes and zones return to their starting values (R16, R71), portals to UNKNOWN without claims and holds
(R94), and coils to COOL, their defrosts ended but not completed, with COIL_COMMAND COOL to each that was out of it
(R117); reservations become 0 and CARRIED pallets HELD (R132), shuttles UNHOMED with their decks (R146). Each unmasked
coil of a zone in use whose quiet flag is cleared has owed raised by one up to L, forced and DEFROST_OVERDUE with L
(R71, R117). In CONFIG no timer starts. The reply joins last. The order of the frames and notices of the units is the
model's (log entry 15), as is the spacing timer that starts at a spacing of 0 (log entry 18), and that an owed count
which a CONFIG load left above L is not lowered to L (log entry 42). -/
def Obligations.RestartEmptiesAndReturns : Prop :=
  ∀ (s : State) (q : Sender), FromManager q s →
    let told : State := raiseNotice .restarted .none (BitVec.ofNat 32 s.moves.length)
      { s with
        uplink := [], forwarded := [], originated := [], answers := [], run := 0, notices := []
        lost := s.lost || decide (s.notices ≠ []) }
    let cooled : State := (List.finRange 16).foldl
      (fun t c => if (s.coil c).loaded = true ∧ (s.coil c).phase ≠ .cool then originate (.coil c) 0x22#8 [0#8] t else t)
      told
    let raised (c : CoilIx) : Prop := (s.coil c).loaded = true ∧ (s.coil c).mask = false
      ∧ (s.zone (s.coil c).zone).inUse = true ∧ (s.zone (s.coil c).zone).quiet = true
      ∧ (s.coil c).owed < (s.coil c).limit
    let overdue (c : CoilIx) : Prop := raised c ∧ (s.coil c).owed + 1 = (s.coil c).limit
    let ended : State := (List.finRange 8).foldl
      (fun t z => (List.finRange 16).foldl
        (fun t c => if (s.coil c).zone = z ∧ overdue c then
            raiseNotice .defrostOverdue (.coil c) (BitVec.ofInt 32 (s.coil c).limit) t
          else t) t)
      cooled
    let running (n : Nat) : Timer := if s.mode = .active then some n else none
    ∃ t : State, exec (.restart q) s = .next (accepted q [] t)
      ∧ t = { s.withPorts ended with
              classTable := t.classTable, probes := t.probes, zones := t.zones, docks := t.docks
              rooms := t.rooms, coils := t.coils, lanes := t.lanes, pallets := t.pallets
              shuttles := t.shuttles, moves := [] }
      ∧ t.uplink = [] ∧ t.forwarded = [] ∧ t.answers = []
      ∧ (∀ i, t.entry i = { s.entry i with stored := none })
      ∧ (∀ i, t.probe i = if (s.probe i).loaded = true then
            { s.probe i with
              state := .none, filtered := 0, lastSample := none
              staleTimer := running (s.probe i).timeout }
          else s.probe i)
      ∧ (∀ z, t.zone z = if (s.zone z).inUse = true then
            { s.zone z with
              value := 0, status := .stale, alarmState := .normal, window := .closed
              allowanceTimer := none, quiet := false }
          else s.zone z)
      ∧ (∀ p, t.dock p
          = { s.dock p with
              state := .unknown, position := none, truck := none, pressure := none, sealTimer := none
              latch := ⟨false, false, false⟩ })
      ∧ (∀ r, t.room r
          = { s.room r with
              state := .unknown, position := none, truck := none, latch := ⟨false, false, false⟩, claims := []
              waiting := [], hold := .clear, holdForced := false, openedBy := .none, request := .none
              doorTimer := none, holdOpenTimer := none, openDuringHold := false })
      ∧ (∀ c, let k := s.coil c
          (k.loaded = false → t.coil c = k)
          ∧ (k.loaded = true → t.coil c
            = { k with
                phase := .cool, group := false, quietStart := false, commanded := .cool, notFollowing := false
                probeState := .none, probeValue := none, reported := .none, reportedValue := none
                reportTimer := none, phaseTimer := none, intervalTimer := running (60 * k.interval)
                spacingTimer := running k.minSpacing, owed := (t.coil c).owed, forced := (t.coil c).forced
                followTimer := if k.phase = .cool then none else running k.follow })
          ∧ (raised c → (t.coil c).owed = k.owed + 1) ∧ (¬raised c → (t.coil c).owed = k.owed)
          ∧ ((t.coil c).forced = true ↔ k.forced = true ∨ overdue c))
      ∧ (∀ l, t.lane l = { s.lane l with reserved := 0 })
      ∧ (∀ i, t.pallet i = (s.pallet i).map fun p =>
          { p with status := if p.status = .carried then .held else p.status })
      ∧ ∀ u, t.shuttle u = if (s.shuttle u).loaded = true then
            { s.shuttle u with
              state := .unhomed, position := none, slotA := none, slotB := none, faultReason := none
              step := none, armed := none, readyA := false, readyB := false, stepTimer := none
              parkTimer := none }
          else s.shuttle u

/-- A MOVE_ORDER that passes the checks of Table 9-2 gets the first free identifier after the last issued and joins the
tail of the queue as QUEUED, with the destination's quarantine lane field as the order read it (R131, log entry 45); a
repeat count is taken only by a move that names no pallet toward a lane that is no quarantine lane (R148, R149). Then the rail's shuttle takes what it can (R150): none while it is homing, at fault or
not ready with empty slots, or when slot A is filled and slot B is filled too or the shuttle is not ready. When no
other move waits, a free slot B beside a filled slot A takes the move as STAGED, slot A of a PARKING shuttle with empty
slots takes it QUEUED, and slot A of an IDLE one takes it with its pick-up decision in the same handling, which sends
its GO, PICK or PLACE, or ends it with its MOVE_RESULT, before the request is answered (R152). No move holds or waits
for a claim there, and the travel crosses no door. -/
def Obligations.MoveOrdersJoinTheQueue : Prop :=
  ∀ (s : State) (q : Sender) (reqTag : Half) (source dest repeats priority : Byte) (pallet : PalletId)
    (a b : LaneIx) (u : ShuttleIx) (pr : Priority) (k : Fin 24),
    FromManager q s → s.mode = .active → source.toNat = a.val → dest.toNat = b.val →
    (s.lane a).loaded = true → (s.lane b).loaded = true → repeats.toNat ≤ 15 →
    priority? priority.toNat = some pr → (s.lane a).rail = some u → (s.lane b).rail = some u → a ≠ b →
    (s.shuttle u).loaded = true → (s.shuttle u).state ≠ .unhomed →
    (s.zone (s.lane a).zone).quiet = false → (s.zone (s.lane b).zone).quiet = false →
    ((s.zone (s.lane b).zone).alarmState = .normal ∨ (s.zone (s.lane b).zone).alarmState = .warning
      ∨ (s.lane b).quarantine = true) →
    (pallet ≠ 0#32 → ∃ i p, livePallet? s pallet = some (i, p)
      ∧ ((s.lane b).zone = 0 ∨ (s.cls p.cls).zones.getLsbD (s.lane b).zone.val = true)) →
    s.moves.length < 24 →
    let id (n : Fin 24) : MoveId := s.lastMove + 1 + n
    let isFree (m : MoveId) : Prop :=
      (∀ r ∈ s.moves, r.id ≠ m) ∧ ∀ n ∈ s.notices, ¬(n.kind = .moveResult ∧ n.obj = .move m)
    isFree (id k) → (∀ j < k, ¬isFree (id j)) →
    let v := s.shuttle u
    let taken : Nat := if pallet = 0#32 ∧ (s.lane b).quarantine = false then repeats.toNat else 0
    let m : Move :=
      { id := id k, reqTag := reqTag, source := a, dest := b
        named := if pallet = 0#32 then none else some pallet
        priority := pr, remaining := taken + 1, doneCount := 0, cancelling := false
        state := .queued, shuttle := none, iteration := none, destQuarantine := (s.lane b).quarantine }
    let joined : State := { s with moves := s.moves ++ [m], lastMove := id k }
    let answers (t : State) : Prop :=
      exec (.moveOrder q reqTag source dest pallet repeats priority) s
        = .next (accepted q [byteOf (id k).val, byteOf taken] t)
    (v.slotA = none → v.slotB = none → (v.state = .homing ∨ v.state = .fault ∨ v.state = .notReady) →
      answers joined)
    ∧ (v.slotA ≠ none → (v.slotB ≠ none ∨ v.state = .notReady) → answers joined)
    ∧ (v.slotB = none → (∀ r ∈ s.moves, ¬r.waitsFor s u) →
      (v.slotA ≠ none → v.state ≠ .notReady → answers (inSlotB u m.id joined))
      ∧ (v.slotA = none → v.state = .parking → answers (inSlotA u m.id joined))
      ∧ ∀ x, v.slotA = none → v.state = .idle → v.position = some x → PalletsDistinct s → NoClaims s →
        DecidesPickUp answers (inSlotA u m.id joined) u { m with shuttle := some u } x)

/-- The checks of Table 9-2 refuse an order in their order, with BAD_INDEX, BAD_VALUE, NO_ROUTE, BAD_VALUE, NOT_HOMED,
ZONE_QUIET, DEST_ALARM, NOT_FOUND, CLASS_ZONE and QUEUE_FULL; a refused order changes nothing but its answer. A named
pallet of 0 names none (R148, R149, R167). -/
def Obligations.MoveOrdersAreCheckedInOrder : Prop :=
  ∀ (s : State) (q : Sender) (reqTag : Half) (source dest repeats priority : Byte) (pallet : PalletId),
    FromManager q s → s.mode = .active →
    let refused (reason : Nat) : Prop :=
      exec (.moveOrder q reqTag source dest pallet repeats priority) s
        = .next (joinReply (replyFrame s q 1 reason []) s)
    let isLane (x : Byte) (l : LaneIx) : Prop := x.toNat = l.val ∧ (s.lane l).loaded = true
    (((∀ l, ¬isLane source l) ∨ ∀ l, ¬isLane dest l) → refused 3)
    ∧ ∀ a b, isLane source a → isLane dest b →
      ((15 < repeats.toNat ∨ 1 < priority.toNat) → refused 4)
      ∧ (repeats.toNat ≤ 15 → priority.toNat ≤ 1 →
        (((s.lane a).rail = none ∨ (s.lane b).rail = none ∨ (s.lane a).rail ≠ (s.lane b).rail) →
          refused 11)
        ∧ ∀ u, (s.lane a).rail = some u → (s.lane b).rail = some u →
          (a = b → refused 4)
          ∧ (a ≠ b →
            ((s.shuttle u).loaded = false ∨ (s.shuttle u).state = .unhomed → refused 12)
            ∧ ((s.shuttle u).loaded = true → (s.shuttle u).state ≠ .unhomed →
              (((s.zone (s.lane a).zone).quiet = true ∨ (s.zone (s.lane b).zone).quiet = true) →
                refused 13)
              ∧ ((s.zone (s.lane a).zone).quiet = false → (s.zone (s.lane b).zone).quiet = false →
                ((s.zone (s.lane b).zone).alarmState = .alarm
                  ∨ (s.zone (s.lane b).zone).alarmState = .acknowledged) →
                (s.lane b).quarantine = false → refused 14)
              ∧ ((s.zone (s.lane a).zone).quiet = false → (s.zone (s.lane b).zone).quiet = false →
                ((s.zone (s.lane b).zone).alarmState = .normal ∨ (s.zone (s.lane b).zone).alarmState = .warning
                  ∨ (s.lane b).quarantine = true) →
                let live (p : Pallet) : Prop := (∃ i, s.pallet i = some p) ∧ p.id = pallet ∧ p.status ≠ .departed
                let stores (p : Pallet) : Prop :=
                  (s.lane b).zone = 0 ∨ (s.cls p.cls).zones.getLsbD (s.lane b).zone.val = true
                let isFree (m : MoveId) : Prop :=
                  (∀ r ∈ s.moves, r.id ≠ m) ∧ ∀ n ∈ s.notices, ¬(n.kind = .moveResult ∧ n.obj = .move m)
                (pallet ≠ 0#32 → (∀ p, ¬live p) → refused 10)
                ∧ (∀ p, PalletsDistinct s → pallet ≠ 0#32 → live p → ¬stores p → refused 15)
                ∧ ((pallet = 0#32 ∨ PalletsDistinct s ∧ ∃ p, live p ∧ stores p) →
                  (24 ≤ s.moves.length ∨ ∀ m, ¬isFree m) → refused 9)))))

/-- CANCEL_MOVE by the move's state: from PICKING on and for a travel under way the mark is set, from PICKING on the
remaining iterations become 1 as well; a move already cancelling is left as it is; a QUEUED move, in no slot or waiting
in slot A, a STAGED one, and one in TO_SOURCE whose travel is armed or whose step was refused end at once with
CANCELLED and their done count: their claims are released, here early claims, waiting or shared with another holder of
the entry, so that no door is left unclaimed; the armed travel is withdrawn and the reservation released; the record
and its slot are given up, and slot B is filled again from the queue. An unknown identifier is NOT_FOUND, one above 23
BAD_INDEX (R157, R158). In each clause no other move of the rail can take the place, but where that is said. -/
def Obligations.CancelActsByTheMoveState : Prop :=
  ∀ (s : State) (q : Sender) (move : Byte), FromManager q s → s.mode = .active →
    let done (t : State) : Prop := exec (.cancelMove q move) s = .next (accepted q [] t)
    let refused (reason : Nat) : Prop :=
      exec (.cancelMove q move) s = .next (joinReply (replyFrame s q 1 reason []) s)
    (23 < move.toNat → refused 3)
    ∧ (move.toNat ≤ 23 → (∀ m ∈ s.moves, m.id.val ≠ move.toNat) → refused 10)
    ∧ ∀ m, move.toNat = m.id.val → s.move? m.id = some m →
      (m.cancelling = true → done s)
      ∧ (m.cancelling = false → (m.state = .picking ∨ m.state = .carrying ∨ m.state = .placing) →
        done { s with
          moves := s.moves.map fun r =>
            if r.id = m.id then { r with cancelling := true, remaining := 1 } else r })
      ∧ (∀ u p, m.cancelling = false → m.state = .toSource → m.shuttle = some u →
        (s.shuttle u).step = some (.travel p (.move m.id)) →
        done { s with
          moves := s.moves.map fun r => if r.id = m.id then { r with cancelling := true } else r })
      ∧ (∀ u, m.cancelling = false → m.state = .queued → m.shuttle = none →
        (s.lane m.source).rail = some u → (s.shuttle u).slotA = none → (s.shuttle u).slotB = none →
        (s.shuttle u).state ≠ .idle → (s.shuttle u).state ≠ .parking →
        let ended := raiseNotice .moveResult (.move m.id)
          (BitVec.ofNat 32 (65536 * 3 + m.doneCount)) s
        done { ended with moves := s.moves.filter fun r => r.id != m.id })
      ∧ ∀ u, m.cancelling = false → m.shuttle = some u → (s.lane m.source).rail = some u →
        let v := s.shuttle u
        let holder := Holder.move m.id
        let waits (r : Move) : Prop := r.id ≠ m.id ∧ r.state = .queued ∧ r.shuttle = none
          ∧ (s.lane r.source).rail = some u
        (∀ r, ∀ c ∈ (s.room r).claims, c.shuttle = u → (∃ h ∈ c.holders, h ≠ holder)
          ∧ ({ shuttle := u, holder := holder } ∈ (s.room r).waiting → holder ∉ c.holders)) →
        let ends (lanes : Vector Lane 48) (moves : List Move) (w : Shuttle) : Prop := ∃ t : State, done t
          ∧ t = { tellResult m.id 3 0 m.doneCount s with
                  rooms := t.rooms, lanes := lanes, moves := moves, shuttles := tset s.shuttles u w }
          ∧ ∀ r, t.room r = { s.room r with
              waiting := (s.room r).waiting.filter fun w => decide (w ≠ { shuttle := u, holder := holder })
              claims := (s.room r).claims.map fun c =>
                if c.shuttle = u then { c with holders := c.holders.filter fun h => decide (h ≠ holder) } else c }
        (m.state = .queued → v.slotA = some m.id → v.slotB = none → (∀ r ∈ s.moves, ¬waits r) →
          ends s.lanes (s.movesBut m.id) { v with slotA := none })
        ∧ (∀ a, m.state = .staged → v.slotB = some m.id → v.slotA = some a → a ≠ m.id →
          ((∀ r ∈ s.moves, ¬waits r) → ends s.lanes (s.movesBut m.id) { v with slotB := none })
          ∧ ∀ b, (s.moves.filter fun r => decide (waits r)) = [b] → v.state ≠ .notReady →
            ends s.lanes
              ((s.movesBut m.id).map fun r =>
                if r.id = b.id then { r with state := .staged, shuttle := some u } else r)
              { v with slotB := some b.id, parkTimer := none })
        ∧ (m.state = .toSource → v.slotA = some m.id → v.slotB = none → v.step = none →
          (v.armed = none ∨ ∃ p, v.armed = some { target := p, by_ := .move m.id }) → (∀ r ∈ s.moves, ¬waits r) →
          ends (tset s.lanes m.dest { s.lane m.dest with reserved := (s.lane m.dest).reserved - 1 })
            (s.movesBut m.id) { v with armed := none, slotA := none })

/-- HOME_SHUTTLE of a loaded shuttle outside a step enters HOMING and sends HOME with its timeout of 64 pitches and the
settle time, at once when it crosses no door; a shuttle in a step, not ready or with an active move is BUSY, and a door
in a quiet zone on the way is refused with ZONE_QUIET; an index above 3 is BAD_INDEX for both requests. The portal of a
door it crosses is asked for a claim with the shuttle as holder: it waits behind a SET or forced hold or other waiters,
joins the shuttle's entry or forms one, and HOME goes out when the door is ready; until then the shuttle stays in
HOMING without a step (R86, R87, R136, R142). CLEAR_SHUTTLE of a shuttle at fault sets the declared position; a
declared pallet is carried, or returned to the tail of the declared lane; an empty deck is declared by 0 and unplaces
the pallet that was there; the shuttle's claim is released and its door handed back; the state becomes UNHOMED, or IDLE
with its park timer (R88, R127, R144, R145). Its refusals follow the table of R144. The presence byte of the lane is
the model's layout (log entry 31); that the argument byte of the DOOR_OPEN is a free value is the model's choice (log
entry 9), as is the last place of an entry or a holder that joins (log entry 46). The homing crosses at most one door,
one claim at most is released, and no move of the rail waits. -/
def Obligations.ShuttlesAreHomedAndCleared : Prop :=
  (∀ (s : State) (q : Sender) (index : Byte), FromManager q s → s.mode = .active → 3 < index.toNat →
    let badIndex (i : Instr) : Prop := exec i s = .next (joinReply (replyFrame s q 1 3 []) s)
    badIndex (.homeShuttle q index)
      ∧ ∀ state position deck lanePresent lane,
        badIndex (.clearShuttle q index state position deck lanePresent lane))
  ∧ ∀ (s : State) (q : Sender) (index : Byte) (u : ShuttleIx), FromManager q s → s.mode = .active →
    index.toNat = u.val →
    let v := s.shuttle u
    let refused (i : Instr) (reason : Nat) : Prop := exec i s = .next (joinReply (replyFrame s q 1 reason []) s)
    let flagged (r : RoomIx) (b : Bool) (w : Shuttle) : Shuttle :=
      { w with
        readyA := if w.roomA = some r then b else w.readyA
        readyB := if w.roomB = some r then b else w.readyB }
    (v.loaded = false → refused (.homeShuttle q index) 10)
    ∧ (v.loaded = true →
      let inStep : Prop :=
        v.state = .homing ∨ v.state = .travelling ∨ v.state = .parking ∨ v.state = .lifting ∨ v.state = .lowering
      let mayHome : Prop := v.state = .unhomed ∨ v.state = .fault ∨ (v.state = .idle ∧ v.slotA = none)
      let homes (t : State) : Prop := exec (.homeShuttle q index) s = .next (accepted q [] t)
      let waits (w : Shuttle) (t : State) : Prop :=
        homes { t with shuttles := tset s.shuttles u { w with state := .homing, parkTimer := none } }
      let sends (w : Shuttle) (t : State) : Prop :=
        homes (originate (.shuttle u) 0x21#8 [3#8, byteOf v.homePos.val]
          { t with
            shuttles := tset s.shuttles u
              { w with
                state := .homing, parkTimer := none, step := some .homing
                stepTimer := some (64 * v.pitch + v.settle) } })
      ((inStep ∨ v.state = .notReady ∨ (v.state = .idle ∧ v.slotA ≠ none)) → refused (.homeShuttle q index) 8)
      ∧ (mayHome → (∃ r ∈ v.crossed v.position v.homePos, (s.zone (roomZone r)).quiet = true) →
        refused (.homeShuttle q index) 13)
      ∧ (mayHome → v.step = none → v.crossed v.position v.homePos = [] → sends v s)
      ∧ ∀ r, mayHome → v.step = none → v.crossed v.position v.homePos = [r] →
        (s.zone (roomZone r)).quiet = false →
        let p := s.room r
        let with_ (n : Room) (t : State) : State := { t with rooms := tset s.rooms r n }
        let mustWait : Prop := p.hold = .set ∨ (p.hold = .waiting ∧ p.holdForced = true) ∨ p.waiting ≠ []
        let entered : Room :=
          { p with claims := p.claims ++ [{ shuttle := u, holders := [.shuttle] }], holdOpenTimer := none }
        let asks (n : Room) : Room := { n with request := .opening, doorTimer := some p.openTime }
        let withdrawn := withdrawCommands r .doorClose .crossing s
        let asked : State := originate (.door r) 0x20#8 [0#8, Config.doorArgument] withdrawn
        ((∀ c ∈ p.claims, c.shuttle ≠ u) →
          (mustWait → p.waiting.contains { shuttle := u, holder := .shuttle } = false →
            waits v (with_ { p with waiting := p.waiting ++ [{ shuttle := u, holder := .shuttle }] } s))
          ∧ (¬mustWait → v.readyAt r = false →
            (p.state = .closed ∨ p.state = .unknown ∨ p.state = .closing →
              waits v (with_ { asks entered with state := .opening, openedBy := .part } asked))
            ∧ (p.state = .opening → p.request ≠ .opening → waits v (with_ (asks entered) asked))
            ∧ ((p.state = .opening ∧ p.request = .opening) ∨ p.state = .fault → waits v (with_ entered withdrawn)))
          ∧ (¬mustWait → p.state = .opened → sends (flagged r true v) (with_ entered withdrawn)))
        ∧ ∀ hs, p.claims = [{ shuttle := u, holders := hs }] → p.waiting = [] →
          (.shuttle ∈ hs → (v.readyAt r = true → sends v s) ∧ (v.readyAt r = false → waits v s))
          ∧ (.shuttle ∉ hs →
            let joined : State := with_ { p with claims := [{ shuttle := u, holders := hs ++ [.shuttle] }] } s
            (p.state = .opened → sends (flagged r true v) joined)
            ∧ (p.state ≠ .opened → v.readyAt r = true → sends v joined)
            ∧ (p.state ≠ .opened → v.readyAt r = false → waits v joined)))
    ∧ ∀ (state position lanePresent lane : Byte) (deck : PalletId),
      let clear : Instr := .clearShuttle q index state position deck lanePresent lane
      let declares (pos : Option RailPos) : Prop :=
        declaredPosition? v position = some pos ∧ (state = 0#8 ∨ (state = 2#8 ∧ pos ≠ none))
      let accepts (t : State) : Prop := exec clear s = .next (accepted q [] t)
      (lanePresent = 1#8 → 47 < lane.toNat → refused clear 3)
      ∧ (lanePresent = 0#8 → v.loaded = false → refused clear 10)
      ∧ (lanePresent = 0#8 → v.loaded = true → v.state ≠ .fault → refused clear 8)
      ∧ (v.loaded = true → v.state = .fault →
        (lanePresent = 0#8 → (∀ pos, ¬declares pos) → refused clear 4)
        ∧ (lanePresent = 1#8 → lane.toNat ≤ 47 → deck = 0#32 → refused clear 4)
        ∧ ∀ pos, declares pos →
          (lanePresent = 0#8 → deck ≠ 0#32 → v.deck ≠ some deck → refused clear 10)
          ∧ (∀ l : LaneIx, lanePresent = 1#8 → lane.toNat = l.val → deck ≠ 0#32 → v.deck = some deck →
            ((s.lane l).loaded = false ∨ (s.lane l).depth ≤ (s.lane l).pallets.length + (s.lane l).reserved) →
            refused clear 8)
          ∧ ∀ (w : Shuttle) (rooms : Vector Room 7), v.slotA = none → v.slotB = none → v.armed = none →
            (∀ m ∈ s.moves, (s.lane m.source).rail ≠ some u) → PalletsDistinct s →
            ((NoClaims s ∧ w = v ∧ rooms = s.rooms)
              ∨ ∃ r, (∀ r', r' ≠ r → (s.room r').claims = [] ∧ (s.room r').waiting = [])
                ∧ (s.room r).claims = [{ shuttle := u, holders := [.shuttle] }] ∧ (s.room r).waiting = []
                ∧ (s.room r).hold ≠ .waiting ∧ w = flagged r false v
                ∧ (((s.room r).openedBy = .part ∧ (s.room r).holdOpenTime ≠ 0 ∧ rooms = tset s.rooms r
                    { s.room r with claims := [], holdOpenTimer := some (s.room r).holdOpenTime })
                  ∨ ((s.room r).openedBy = .outside ∧ rooms = tset s.rooms r
                    { s.room r with claims := [], request := .none, doorTimer := none })
                  ∨ ((s.room r).openedBy = .none ∧ rooms = tset s.rooms r { s.room r with claims := [] }))) →
            let clears (onDeck : Option PalletId) (t : State) : Prop :=
              accepts { t with
                rooms := rooms
                shuttles := tset s.shuttles u
                  { w with
                    position := pos, deck := onDeck, state := if state = 0#8 then .unhomed else .idle
                    parkTimer := if state = 0#8 then none else { v with position := pos }.parkStart } }
            (lanePresent = 0#8 → deck = 0#32 → v.deck = none → clears none s)
            ∧ ∀ i p, s.pallet i = some p → v.deck = some p.id →
              let located (l : Location) (status : PalletStatus) : State :=
                { s with pallets := tset s.pallets i (some { p with location := l, status := status }) }
              (lanePresent = 0#8 → deck = 0#32 → clears none (located .unplaced .dock))
              ∧ (lanePresent = 0#8 → deck ≠ 0#32 → deck = p.id → clears (some deck) (located (.deck u) .carried))
              ∧ ∀ l : LaneIx, lanePresent = 1#8 → lane.toNat = l.val → deck ≠ 0#32 → deck = p.id →
                (s.lane l).loaded = true → (s.lane l).pallets.length + (s.lane l).reserved < (s.lane l).depth →
                clears none
                  { located (.lane l) (if (s.lane l).zone = 0 then .dock else .stored) with
                    lanes := tset s.lanes l { s.lane l with pallets := (s.lane l).pallets ++ [deck] } })

/-- DEFROST_NOW of a coil in COOL sets its pending pull-in, of a coil out of COOL changes nothing, of a zone sets it on
every coil of the zone in COOL with mask clear; a coil not loaded and a zone not in use are NOT_FOUND. The zone
staggers its defrosts and one is under way, so the selection starts none (R102, R103, R105). SET_COIL_MASK sets the
mask of each loaded coil of its set-mask and clears that of each other loaded coil of its clear-mask; unloaded coils
are passed over (R106). No zone can select: the part is in CONFIG, or each zone in use staggers its defrosts with one
under way (R102, R103). -/
def Obligations.DefrostRequestsMarkCoils : Prop :=
  (∀ (s : State) (q : Sender) (index : Byte) (z : ZoneIx), FromManager q s → s.mode = .active →
      (s.zone z).defrostMode = .staggered →
      (∃ d, (s.coil d).loaded = true ∧ (s.coil d).zone = z ∧ (s.coil d).phase ≠ .cool) →
      let refused (kind : Byte) (reason : Nat) : Prop :=
        exec (.defrostNow q kind index) s = .next (joinReply (replyFrame s q 1 reason []) s)
      (∀ c, index.toNat = c.val →
        ((s.coil c).loaded = false → refused 0#8 10)
        ∧ ((s.coil c).loaded = true → (s.coil c).phase ≠ .cool →
          exec (.defrostNow q 0#8 index) s = .next (accepted q [] s))
        ∧ ((s.coil c).loaded = true → (s.coil c).zone = z → (s.coil c).phase = .cool →
          exec (.defrostNow q 0#8 index) s
            = .next (accepted q []
                { s with coils := tset s.coils c { s.coil c with pullIn := true } })))
      ∧ (index.toNat = z.val →
        ((s.zone z).inUse = false → refused 1#8 10)
        ∧ ((s.zone z).inUse = true → ∃ t : State,
          exec (.defrostNow q 1#8 index) s = .next (accepted q [] t) ∧ t = { s with coils := t.coils }
            ∧ ∀ c, t.coil c =
              if (s.coil c).loaded = true ∧ (s.coil c).zone = z ∧ (s.coil c).phase = .cool
                  ∧ (s.coil c).mask = false then
                { s.coil c with pullIn := true }
              else s.coil c))
      ∧ (15 < index.toNat → refused 0#8 3) ∧ (7 < index.toNat → refused 1#8 3))
    ∧ (∀ (s : State) (q : Sender) (setMask clearMask : Half), FromManager q s →
      (s.mode = .config ∨ ∀ z, (s.zone z).inUse = true → (s.zone z).defrostMode = .staggered
        ∧ ∃ d, (s.coil d).loaded = true ∧ (s.coil d).zone = z ∧ (s.coil d).phase ≠ .cool) →
      ∃ t : State, exec (.setCoilMask q setMask clearMask) s = .next (accepted q [] t)
        ∧ t = { s with coils := t.coils }
        ∧ ∀ c, t.coil c =
          if (s.coil c).loaded = false then s.coil c
          else if setMask.getLsbD c.val then { s.coil c with mask := true }
          else if clearMask.getLsbD c.val then { s.coil c with mask := false }
          else s.coil c)

/-- QUIET_ENTER of a room zone in use sets its quiet flag and withdraws the waiting trunk DOOR_OPENs, unless the portal
is not idle or a coil is out of COOL; QUIET_EXIT clears it and raises the owed count of each unmasked coil by one, up
to its limit, which forces it with DEFROST_OVERDUE, in ascending order (log entry 15; here with a staggered defrost
under way). Both accept without change a zone already so, and refuse zone 0, a zone not in use and an index above 7
(R92, R100, R114, R116). What a withdrawal takes, at each event of Table 3-3: every waiting ACT_COMMAND of the named
action to the named room portal leaves the forwarded share, the others keep their order, and each is answered, in that
order, by a COMMAND_REFUSED to its own sender with the reason of the event; the refusals beyond the capacity of their
queue are dropped and counted, and on an idle trunk port the first goes out at once. Nothing else changes (R12, R42).
-/
def Obligations.QuietZonesAreEnteredAndLeft : Prop :=
  (∀ (s : State) (q : Sender) (zone : Byte), FromManager q s → s.mode = .active →
    let entered (t : State) : Prop := exec (.quietEnter q zone) s = .next (accepted q [] t)
    let left (t : State) : Prop := exec (.quietExit q zone) s = .next (accepted q [] t)
    let refused (i : Instr) (reason : Nat) : Prop :=
      exec i s = .next (joinReply (replyFrame s q 1 reason []) s)
    (7 < zone.toNat → refused (.quietEnter q zone) 3 ∧ refused (.quietExit q zone) 3)
    ∧ (zone = 0#8 → refused (.quietEnter q zone) 4 ∧ refused (.quietExit q zone) 4)
    ∧ ∀ r : RoomIx, zone.toNat = r.val + 1 →
      let n := s.zone (roomZone r)
      let p := s.room r
      let idle : Prop :=
        p.state = .closed ∧ p.claims = [] ∧ p.waiting = [] ∧ p.hold = .clear
          ∧ ∀ c, (s.coil c).loaded = true → (s.coil c).zone = roomZone r → (s.coil c).phase = .cool
      (n.inUse = false → refused (.quietEnter q zone) 4 ∧ refused (.quietExit q zone) 4)
      ∧ (n.inUse = true → n.quiet = true → entered s)
      ∧ (n.inUse = true → n.quiet = false → left s)
      ∧ (n.inUse = true → n.quiet = false → ¬idle → refused (.quietEnter q zone) 8)
      ∧ (n.inUse = true → n.quiet = false → idle →
        entered (withdrawCommands r .doorOpen .zoneQuiet
          { s with zones := tset s.zones (roomZone r) { n with quiet := true } }))
      ∧ (n.inUse = true → n.quiet = true → p.hold = .clear → n.defrostMode = .staggered →
        (∃ d, (s.coil d).loaded = true ∧ (s.coil d).zone = roomZone r ∧ (s.coil d).phase ≠ .cool) →
        let raised (c : CoilIx) : Bool := (s.coil c).loaded && (s.coil c).zone == roomZone r && !(s.coil c).mask
          && decide ((s.coil c).owed < (s.coil c).limit)
        let overdue (c : CoilIx) : Bool := raised c && decide ((s.coil c).owed + 1 = (s.coil c).limit)
        let told : State := ((List.finRange 16).filter overdue).foldl
          (fun t c => raiseNotice .defrostOverdue (.coil c) (BitVec.ofInt 32 (s.coil c).limit) t) s
        left { told with
          zones := tset s.zones (roomZone r) { n with quiet := false }
          coils := Vector.ofFn fun c =>
            if raised c then
              { s.coil c with owed := (s.coil c).owed + 1, forced := (s.coil c).forced || overdue c }
            else s.coil c }))
  ∧ ∀ (s : State) (r : RoomIx) (action : Action) (code : Byte) (why : GateReason) (reason : Byte),
    ((action = .doorOpen ∧ code = 0#8 ∧ ((why = .defrostHold ∧ reason = 2#8) ∨ (why = .zoneQuiet ∧ reason = 3#8)))
      ∨ (action = .doorClose ∧ code = 1#8 ∧ why = .crossing ∧ reason = 4#8)) →
    let matching (w : Forwarded) : Bool :=
      decide (w.target = some (.door (roomPortal r)) ∧ w.frame.kind = 0x20#8 ∧ w.frame.payload.head? = some code)
    let refusals : List Frame := (s.forwarded.filter matching).map fun w =>
      { dest := w.frame.src, src := s.address, kind := 0x33#8, tag := w.frame.tag, payload := [code, reason, 0xFF#8] }
    let left : State := { s with forwarded := s.forwarded.filter fun w => !matching w }
    let queued (room : Nat) (fs : List Frame) (t : State) : State :=
      Nat.repeat (countEvent .trunk .overflow) (fs.length - room)
        { t with answers := s.answers ++ (fs.take room).map .refusal }
    (s.trunkTx ≠ none → withdrawCommands r action why s = queued (8 - refusalCount s) refusals left)
    ∧ (s.trunkTx = none → s.answers = [] →
      (refusals = [] → withdrawCommands r action why s = left)
      ∧ ∀ f rest, refusals = f :: rest →
        withdrawCommands r action why s = queued 8 rest { left with trunkTx := some f, run := 0 })

/-- ACK_ALARM acts by the object type, in both modes: a zone in ALARM becomes ACKNOWLEDGED and any other is NOT_FOUND;
a portal's alarm latch that is not empty is emptied and an empty one is NOT_FOUND; an index beyond the zones or the
portals is BAD_INDEX, any other object type BAD_VALUE. No notice is raised and none is touched (R83, R166). That a type
byte which Table 1-10 does not give is refused in the same way is the model's choice (log entry 28). -/
def Obligations.AlarmsAreAcknowledged : Prop :=
  ∀ (s : State) (q : Sender) (key : Quad), FromManager q s →
    let refused (objType : Byte) (reason : Nat) : Prop :=
      exec (.ackAlarm q objType key) s = .next (joinReply (replyFrame s q 1 reason []) s)
    let taken (objType : Byte) (t : State) : Prop := exec (.ackAlarm q objType key) s = .next (accepted q [] t)
    (∀ z : ZoneIx, key.toNat = z.val →
      ((s.zone z).inUse = true → (s.zone z).alarmState = .alarm →
        taken 1#8 { s with zones := tset s.zones z { s.zone z with alarmState := .acknowledged } })
      ∧ ((s.zone z).inUse = false ∨ (s.zone z).alarmState ≠ .alarm → refused 1#8 10))
    ∧ (∀ p : DockIx, key.toNat = p.val →
      ((s.dock p).latch ≠ ⟨false, false, false⟩ →
        taken 3#8 { s with docks := tset s.docks p { s.dock p with latch := ⟨false, false, false⟩ } })
      ∧ ((s.dock p).latch = ⟨false, false, false⟩ → refused 3#8 10))
    ∧ (∀ r : RoomIx, key.toNat = 16 + r.val →
      ((s.room r).latch ≠ ⟨false, false, false⟩ →
        taken 3#8 { s with rooms := tset s.rooms r { s.room r with latch := ⟨false, false, false⟩ } })
      ∧ ((s.room r).latch = ⟨false, false, false⟩ → refused 3#8 10))
    ∧ (7 < key.toNat → refused 1#8 3) ∧ (22 < key.toNat → refused 3#8 3)
    ∧ ∀ objType : Byte, objType ≠ 1#8 → objType ≠ 3#8 → refused objType 4

/-- PALLET_PLACE puts an UNPLACED pallet at the tail of a lane with room; PALLET_REMOVE takes a record out of the table
and off its lane or the departed list, unless the pallet is on a deck; RELEASE_QUARANTINE clears the quarantine flag of
a live pallet and sets its released flag: from then on the quarantine test passes it over, its account goes on growing,
and it is no longer held back from any lane. The refusals come in the order of their tables (R128, R129, R130). -/
def Obligations.PalletsAreCorrected : Prop :=
  ∀ (s : State) (q : Sender) (id : PalletId), FromManager q s → PalletsDistinct s →
    let refused (i : Instr) (reason : Nat) : Prop :=
      exec i s = .next (joinReply (replyFrame s q 1 reason []) s)
    let taken (i : Instr) (t : State) : Prop := exec i s = .next (accepted q [] t)
    let released (p : Pallet) : Pallet := { p with quarantine := false, released := true }
    let without (l : LaneIx) : Vector Lane 48 :=
      tset s.lanes l { s.lane l with pallets := (s.lane l).pallets.filter fun x => x != id }
    (∀ lane : Byte, 47 < lane.toNat → refused (.palletPlace q id lane) 3)
    ∧ (∀ (l : LaneIx) (lane : Byte), lane.toNat = l.val →
      (∀ i p, s.pallet i = some p → p.id = id → p.status = .departed) → refused (.palletPlace q id lane) 10)
    ∧ ((∀ i p, s.pallet i = some p → p.id ≠ id) → refused (.palletRemove q id) 10)
    ∧ ((∀ i p, s.pallet i = some p → p.id = id → p.status = .departed ∨ p.quarantine = false) →
      refused (.releaseQuarantine q id) 10)
    ∧ ∀ i p, s.pallet i = some p → p.id = id →
      (∀ (l : LaneIx) (lane : Byte), lane.toNat = l.val → p.status ≠ .departed →
        ((s.lane l).loaded = false → refused (.palletPlace q id lane) 10)
        ∧ ((s.lane l).loaded = true → p.location ≠ .unplaced → refused (.palletPlace q id lane) 4)
        ∧ ((s.lane l).loaded = true → p.location = .unplaced →
          (s.lane l).depth ≤ (s.lane l).pallets.length + (s.lane l).reserved →
          refused (.palletPlace q id lane) 8)
        ∧ ((s.lane l).loaded = true → p.location = .unplaced →
          (s.lane l).pallets.length + (s.lane l).reserved < (s.lane l).depth →
          taken (.palletPlace q id lane)
            { s with
              lanes := tset s.lanes l { s.lane l with pallets := (s.lane l).pallets ++ [id] }
              pallets := tset s.pallets i
                (some { p with
                  location := .lane l, status := if (s.lane l).zone = 0 then .dock else .stored }) }))
      ∧ (p.status = .carried ∨ p.status = .held → refused (.palletRemove q id) 8)
      ∧ (∀ l, p.status = .dock ∨ p.status = .stored → p.location = .lane l → i ∉ s.departed →
        taken (.palletRemove q id) { s with lanes := without l, pallets := tset s.pallets i none })
      ∧ (p.status = .dock → p.location = .unplaced → i ∉ s.departed →
        taken (.palletRemove q id) { s with pallets := tset s.pallets i none })
      ∧ (p.status = .departed → p.location = .none →
        taken (.palletRemove q id)
          { s with
            pallets := tset s.pallets i none, departed := s.departed.filter fun j => j != i })
      ∧ (p.status ≠ .departed → p.quarantine = true →
        taken (.releaseQuarantine q id) { s with pallets := tset s.pallets i (some (released p)) }
          ∧ (∀ t : State, overBudget t (released p) = false)
          ∧ (∀ t : State, (accruePallet t (released p)).exposure = (accruePallet t p).exposure)
          ∧ (released p).heldBack = false)

/-! ## Timers (R55, R62 to R70, R82, R89, R90, R98, R99, R102, R108 to R113, R141, R145) -/

/-- When the exposure interval has run out, the exposure account of each zone in use takes the excess above its
effective limit, saturating, or falls by its recovery rate, and holds while STALE; its alarm state moves by Table 4-4
with the new account; the interval restarts. No other zone's account or alarm state changes (R62, R64, R65). At the
same expiry each pallet that has not departed takes the excess of its zone's value above its class limit, saturating,
while that zone is VALID; the quarantine flag of one at or above its class budget is set, unless it was released;
nothing else of any pallet changes (R69, R70). Where nothing leaves the trunk port and no notice is lost meanwhile, the
notices that the zones and the pallets add are these: ZONE_ALARM, ZONE_WARNING or ZONE_NORMAL for each zone whose alarm
state moved to ALARM, WARNING or NORMAL, carrying its value, and PALLET_QUARANTINE for each pallet whose flag was set,
naming its record and carrying its identifier, all at the time of the expiry (R65, R70). -/
def Obligations.AccountsAccrue : Prop :=
  (∀ s : State, s.exposureTimer = some 0 → ∃ t : State, exec .exposureIntervalExpiry s = .next t
      ∧ t.exposureTimer = some 10
      ∧ ∀ z, (t.zone z).value = (s.zone z).value ∧ (t.zone z).status = (s.zone z).status
        ∧ ((s.zone z).inUse = false → t.zone z = s.zone z)
        ∧ ((s.zone z).inUse = true →
          let n := s.zone z
          let raised : Int := if n.window = .closed then 0 else n.allowance
          let excess : Int := n.value - (n.limit + raised)
          let account := (t.zone z).exposure
          (n.status = .stale → account = n.exposure ∧ (t.zone z).alarmState = n.alarmState)
          ∧ (n.status = .valid →
            account = (if 0 < excess then min 16777215 (n.exposure + excess.toNat) else n.exposure - n.recovery)
            ∧ (let alarm : Prop := n.alarm + raised ≤ n.value ∨ n.eAlarm ≤ account
              let warning : Prop := n.warn + raised ≤ n.value ∨ n.eWarn ≤ account
              let alarmClear : Prop := n.value < n.alarm + raised - n.hysteresis ∧ account < n.eAlarm
              let warningClear : Prop := n.value < n.warn + raised - n.hysteresis ∧ account < n.eWarn
              let up : Prop := n.alarmState = .normal ∨ n.alarmState = .warning
              let high : Prop := n.alarmState = .alarm ∨ n.alarmState = .acknowledged
              (up → alarm → (t.zone z).alarmState = .alarm)
              ∧ (n.alarmState = .normal → ¬alarm → warning → (t.zone z).alarmState = .warning)
              ∧ (n.alarmState = .normal → ¬alarm → ¬warning → (t.zone z).alarmState = .normal)
              ∧ (n.alarmState = .warning → ¬alarm → warningClear → (t.zone z).alarmState = .normal)
              ∧ (n.alarmState = .warning → ¬alarm → ¬warningClear → (t.zone z).alarmState = .warning)
              ∧ (high → warningClear → (t.zone z).alarmState = .normal)
              ∧ (high → ¬warningClear → alarmClear → (t.zone z).alarmState = .warning)
              ∧ (high → ¬warningClear → ¬alarmClear → (t.zone z).alarmState = n.alarmState)))))
    ∧ (∀ s : State, s.exposureTimer = some 0 → ∃ t : State, exec .exposureIntervalExpiry s = .next t
        ∧ t.lanes = s.lanes ∧ t.departed = s.departed ∧ t.moves = s.moves
        ∧ (∀ i, s.pallet i = none → t.pallet i = none)
        ∧ ∀ i p, s.pallet i = some p →
          let z : ZoneIx :=
            match p.location with
            | .lane l => (s.lane l).zone
            | .deck u =>
              (match (s.shuttle u).position with
              | none => 0
              | some x =>
                if x < (s.shuttle u).dockLow then (match (s.shuttle u).roomA with
                  | some r => roomZone r
                  | none => 0)
                else if (s.shuttle u).dockHigh < x then (match (s.shuttle u).roomB with
                  | some r => roomZone r
                  | none => 0)
                else 0)
            | .unplaced | .none => 0
          let excess : Int := (s.zone z).value - (s.cls p.cls).limit
          let account : Nat :=
            if p.status = .departed ∨ (s.zone z).status = .stale then p.exposure
            else min 16777215 (p.exposure + excess.toNat)
          t.pallet i = some
            { p with
              exposure := account
              quarantine := p.quarantine || (p.status != .departed && !p.released
                && decide ((s.cls p.cls).budget ≤ account)) })
    ∧ ∀ s : State, s.exposureTimer = some 0 → s.trunkTx ≠ none → s.lost = false →
      ∃ t : State, exec .exposureIntervalExpiry s = .next t ∧ (t.lost = false →
        let told (kind : NoticeKind) (severity : Severity) (obj : NoticeObj) (value : Quad) : Prop :=
          ({ kind := kind, obj := obj, value := value, time := s.count, severity := severity } : Notice) ∈ t.notices
        let fresh (kind : NoticeKind) (obj : NoticeObj) : Prop :=
          ∃ n ∈ t.notices, n ∉ s.notices ∧ n.kind = kind ∧ n.obj = obj
        (∀ z,
          let value : Quad := BitVec.ofInt 32 (s.zone z).value
          let goes (a : AlarmState) : Prop := (s.zone z).alarmState ≠ a ∧ (t.zone z).alarmState = a
          (goes .alarm → told .zoneAlarm .alarm (.zone z) value)
          ∧ (goes .warning → told .zoneWarning .warning (.zone z) value)
          ∧ (goes .normal → told .zoneNormal .info (.zone z) value)
          ∧ (fresh .zoneAlarm (.zone z) → goes .alarm) ∧ (fresh .zoneWarning (.zone z) → goes .warning)
          ∧ (fresh .zoneNormal (.zone z) → goes .normal))
        ∧ (∀ i p p', s.pallet i = some p → t.pallet i = some p' → p.quarantine = false →
          (p'.quarantine = true → told .palletQuarantine .alarm (.pallet i) p.id)
          ∧ (p'.quarantine = false → ¬fresh .palletQuarantine (.pallet i)))
        ∧ ∀ i, (s.pallet i = none ∨ ∃ p, s.pallet i = some p ∧ p.quarantine = true) →
          ¬fresh .palletQuarantine (.pallet i))

/-- The frost load of a zone in use that is not quiet grows by the weights of its open portals and saturates; at its
threshold it pulls in one defrost per whole multiple, raising the owed count of each unmasked coil up to its limit, and
keeps the remainder. A quiet zone's load stands still. Stated for a zone whose selection and hold cannot act: its
defrosts are staggered, one is under way, and its hold is CLEAR (R67, R68, R100, R177). -/
def Obligations.FrostLoadPullsInDefrosts : Prop :=
  ∀ (s : State) (z : ZoneIx), s.exposureTimer = some 0 → (s.zone z).inUse = true →
    (s.zone z).defrostMode = .staggered →
    (∃ d, (s.coil d).loaded = true ∧ (s.coil d).zone = z ∧ (s.coil d).phase ≠ .cool) →
    (∀ r, z = roomZone r → (s.room r).hold = .clear) →
    let n := s.zone z
    let weights : Nat :=
      if z = 0 then
        (s.docks.toList.map fun d =>
          if d.loaded = true ∧ d.state = .openSealed then n.wSealed
          else if d.loaded = true ∧ d.state = .breach then n.wBreach
          else if d.loaded = true ∧ d.state = .openUnsealed then n.wUnsealed
          else 0).sum
      else if ∃ r, z = roomZone r ∧ ((s.room r).state = .opened ∨ (s.room r).state = .opening
          ∨ (s.room r).state = .closing) then n.wOpen
      else 0
    let load := min 65535 (n.frost + weights)
    let pulled : Nat := if n.quiet = true ∨ n.frostThreshold = 0 then 0 else load / n.frostThreshold
    ∃ t : State, exec .exposureIntervalExpiry s = .next t
      ∧ (t.zone z).frost = (if n.quiet then n.frost else load - pulled * n.frostThreshold)
      ∧ ∀ c, (s.coil c).loaded = true → (s.coil c).zone = z →
        (t.coil c).owed = (if (s.coil c).mask = false ∧ (s.coil c).owed < (s.coil c).limit then
            min (s.coil c).limit ((s.coil c).owed + pulled) else (s.coil c).owed)
          ∧ (t.coil c).phase = (s.coil c).phase

/-- When its staleness timer expires a probe enters STALE, its timer stopped and its filtered value kept, with
PROBE_STALE carrying the last sample time or −1, and its zone is recomputed, or its coil's probe reading becomes STALE
without a value (R57); that PROBE_STALE is raised before the ZONE_STALE that the recomputation may bring is the model's
choice (log entry 36). When the allowance timer of a zone expires its window closes. A timer that is stopped, or has
time left because a sample restarted it first, does not expire (R55, R60, R61, R63). The portal timers: the seal timer
of INFLATING and DEFLATING ends in IDLE with its timeout notice and the last pressure or 0; the door timer raises
DOOR_TIMEOUT with the action asked for, the state and the request standing; the hold-open timer closes a door that the
part opened, and no other (R82, R89, R90). That a due expiry may be taken at any later command is the model's, and the
argument byte of the DOOR_CLOSE is a free value (log entries 4 and 9). -/
def Obligations.ProbeAndPortalTimersExpire : Prop :=
  ((∀ (s : State) (p : ProbeIx), (s.probe p).staleTimer ≠ some 0 →
        exec (.stalenessTimerExpiry p) s = .next s)
      ∧ (∀ (s : State) (p : ProbeIx) (z : ZoneIx), (s.probe p).staleTimer = some 0 →
        (s.probe p).binding = .zone z →
        exec (.stalenessTimerExpiry p) s
          = .next (recomputeZone z
              (raiseNotice .probeStale (.probe p)
                (match (s.probe p).lastSample with
                | some t => t
                | none => 0xFFFFFFFF#32)
                { s with
                  probes := tset s.probes p { s.probe p with state := .stale, staleTimer := none } })))
      ∧ (∀ (s : State) (p : ProbeIx) (c : CoilIx), (s.probe p).staleTimer = some 0 →
        (s.probe p).binding = .coil c →
        exec (.stalenessTimerExpiry p) s
          = .next
            { raiseNotice .probeStale (.probe p)
                (match (s.probe p).lastSample with
                | some t => t
                | none => 0xFFFFFFFF#32) s with
              probes := tset s.probes p { s.probe p with state := .stale, staleTimer := none }
              coils := tset s.coils c { s.coil c with probeState := .stale, probeValue := none } })
      ∧ (∀ (s : State) (z : ZoneIx), (s.zone z).allowanceTimer ≠ some 0 →
        exec (.allowanceTimerExpiry z) s = .next s)
      ∧ ∀ (s : State) (z : ZoneIx), (s.zone z).allowanceTimer = some 0 →
        exec (.allowanceTimerExpiry z) s
          = .next { s with
              zones := tset s.zones z { s.zone z with window := .closed, allowanceTimer := none } })
    ∧ (∀ (s : State) (p : DockIx) (r : RoomIx),
        ((s.dock p).sealTimer ≠ some 0 → exec (.sealTimerExpiry p) s = .next s)
        ∧ ((s.room r).doorTimer ≠ some 0 → exec (.doorTimerExpiry r) s = .next s)
        ∧ ((s.room r).holdOpenTimer ≠ some 0 → exec (.holdOpenTimerExpiry r) s = .next s))
    ∧ ((∀ (s : State) (p : DockIx), (s.dock p).sealTimer = some 0 →
        let d := s.dock p
        let idle : State :=
          { s with docks := tset s.docks p { d with state := .idle, sealTimer := none } }
        let last : Quad := BitVec.ofNat 32 (d.pressure.getD 0)
        (d.state = .inflating → exec (.sealTimerExpiry p) s
            = .next (raiseNotice .inflateTimeout (.portal (dockPortal p)) last idle))
          ∧ (d.state = .deflating → exec (.sealTimerExpiry p) s
            = .next (raiseNotice .deflateTimeout (.portal (dockPortal p)) last idle)))
      ∧ (∀ (s : State) (r : RoomIx), (s.room r).doorTimer = some 0 →
        let stopped : State := { s with rooms := tset s.rooms r { s.room r with doorTimer := none } }
        ((s.room r).request = .opening → exec (.doorTimerExpiry r) s
            = .next (raiseNotice .doorTimeout (.portal (roomPortal r)) 0#32 stopped))
          ∧ ((s.room r).request = .closing → exec (.doorTimerExpiry r) s
            = .next (raiseNotice .doorTimeout (.portal (roomPortal r)) 1#32 stopped)))
      ∧ ∀ (s : State) (r : RoomIx), (s.room r).holdOpenTimer = some 0 →
        let p := s.room r
        let stopped : State := { s with rooms := tset s.rooms r { p with holdOpenTimer := none } }
        let closes : Prop := (p.state = .opened ∨ p.state = .opening) ∧ p.openedBy = .part
        (¬closes → exec (.holdOpenTimerExpiry r) s = .next stopped)
          ∧ (closes → exec (.holdOpenTimerExpiry r) s
            = .next
              { originate (.door r) 0x20#8 [1#8, Config.doorArgument] stopped with
                rooms := tset s.rooms r
                  { p with
                    holdOpenTimer := none, request := .closing, doorTimer := some p.openTime
                    state := .closing } }))

/-- A coil's interval timer restarts at its expiry: a masked coil changes nothing else, a coil at its limit raises
DEFROST_MISSED, and one below it owes one more, forced with DEFROST_OVERDUE when it reaches the limit. The spacing
timer's expiry starts nothing while a staggered defrost of the zone is under way; the follow timer raises
COIL_NOT_FOLLOWING once; the report timer makes a reported reading STALE (R98 to R100, R102, R103, R113). A timer that
is stopped or has time left does not expire; that a due expiry may be taken at any later command is the model's (log
entry 4). -/
def Obligations.CoilTimersExpire : Prop :=
  ∀ (s : State) (c : CoilIx),
    let k := s.coil c
    let z := k.zone
    let with_ (k : Coil) : State := { s with coils := tset s.coils c k }
    let busy : Prop :=
      (s.zone z).defrostMode = .staggered
        ∧ (∃ d, (s.coil d).loaded = true ∧ (s.coil d).zone = z ∧ (s.coil d).phase ≠ .cool)
        ∧ ∀ r, z = roomZone r → (s.room r).hold = .clear
    let again : Timer := some (60 * k.interval)
    ((k.intervalTimer ≠ some 0 → exec (.intervalTimerExpiry c) s = .next s)
      ∧ (k.spacingTimer ≠ some 0 → exec (.spacingTimerExpiry c) s = .next s)
      ∧ (k.followTimer ≠ some 0 → exec (.followTimerExpiry c) s = .next s)
      ∧ (k.reportTimer ≠ some 0 → exec (.reportTimerExpiry c) s = .next s))
    ∧ (k.intervalTimer = some 0 →
      (k.mask = true → exec (.intervalTimerExpiry c) s = .next (with_ { k with intervalTimer := again }))
      ∧ (k.mask = false → (s.zone z).quiet = false → k.limit ≤ k.owed →
        exec (.intervalTimerExpiry c) s
          = .next (raiseNotice .defrostMissed (.coil c) (BitVec.ofInt 32 k.limit)
              (with_ { k with intervalTimer := again })))
      ∧ (k.mask = false → (s.zone z).quiet = false → k.owed + 1 < k.limit → busy →
        exec (.intervalTimerExpiry c) s
          = .next (with_ { k with intervalTimer := again, owed := k.owed + 1 }))
      ∧ (k.mask = false → (s.zone z).quiet = false → k.owed + 1 = k.limit → busy →
        exec (.intervalTimerExpiry c) s
          = .next (raiseNotice .defrostOverdue (.coil c) (BitVec.ofInt 32 k.limit)
              (with_ { k with intervalTimer := again, owed := k.limit, forced := true })))
      ∧ (k.mask = false → (s.zone z).quiet = true → busy →
        exec (.intervalTimerExpiry c) s
          = .next (with_ { k with intervalTimer := again, pullIn := true })))
    ∧ (k.spacingTimer = some 0 → busy →
      exec (.spacingTimerExpiry c) s = .next (with_ { k with spacingTimer := none }))
    ∧ (k.followTimer = some 0 →
      (k.notFollowing = true →
        exec (.followTimerExpiry c) s = .next (with_ { k with followTimer := none }))
      ∧ (k.notFollowing = false →
        exec (.followTimerExpiry c) s
          = .next { raiseNotice .coilNotFollowing (.coil c)
                  (match k.lastEcho with
                  | some e => BitVec.ofNat 32 e.code
                  | none => 0xFFFFFFFF#32) s with
                coils := tset s.coils c { k with followTimer := none, notFollowing := true } }))
    ∧ (k.reportTimer = some 0 → (k.reported = .valid ∨ k.reported = .fault) →
      exec (.reportTimerExpiry c) s
        = .next (with_ { k with reportTimer := none, reported := .stale, reportedValue := none }))

/-- A phase timer ends its phase: PUMP_DOWN enters HEAT when the coil's temperature does not already end it, HEAT
enters DRIP with DEFROST_TIME_END, DRIP of a dock coil enters FAN_DELAY when the temperature does not already end it
and no coil of the zone is in PORTAL_WAIT, as none of zone 0 ever is. Each entry commands the phase and starts its
timer and the supervision of the echo (R108 to R111, R113). For a coil that defrosts alone in its zone the whole course
is stated, with the phases that end at their entry: HEAT by a temperature at or above the terminate temperature, DRIP
by a drip time of 0, with the release of a room's SET hold, FAN_DELAY by a fan maximum of 0 or a temperature at or
below the fan temperature; each passed phase is commanded in turn (R109, R110, R111). The end of FAN_DELAY commands
COOL and completes the defrost: owed falls by one to no less than −8 unless the defrost began while quiet, forced is
cleared below the limit, the last end time and the spacing are set, the allowance recovery starts, and DEFROST_END
carries the owed count (R63, R111). The coil is masked or has a spacing, so no new defrost starts (R102). A timer that
is stopped or has time left ends no phase. That a due expiry may be taken at any later command, that a spacing of 0
leaves the spacing timer stopped, and that a phase of time 0 ends in the handling that enters it, are the model's (log
entries 4, 18 and 16). -/
def Obligations.DefrostPhasesFollowAndComplete : Prop :=
  (∀ (s : State) (c : CoilIx), (s.coil c).phaseTimer ≠ some 0 → exec (.phaseTimerExpiry c) s = .next s)
    ∧ (∀ (s : State) (c : CoilIx), (s.coil c).phaseTimer = some 0 →
      let k := s.coil c
      let entered (command : Byte) (p : CmdPhase) (phase : CoilPhase) (time : Nat) (t : State) : State :=
        { originate (.coil c) 0x22#8 [command] t with
          coils := tset s.coils c
            { k with
              phase := phase, phaseTimer := some time, commanded := p, notFollowing := false
              followTimer := some k.follow } }
      (k.phase = .pumpDown → (∀ x, coilTemp? s c = some x → x < k.terminate) →
        exec (.phaseTimerExpiry c) s = .next (entered 2#8 .heat .heat k.maxHeat s))
      ∧ (k.phase = .heat → k.drip ≠ 0 →
        exec (.phaseTimerExpiry c) s
          = .next (entered 3#8 .drip .drip k.drip
              (raiseNotice .defrostTimeEnd (.coil c)
                (BitVec.ofInt 32 ((coilTemp? s c).getD (-32768))) s)))
      ∧ (k.phase = .drip → k.zone = 0 → (∀ d, (s.coil d).loaded = true → (s.coil d).zone = 0 →
          (s.coil d).phase ≠ .portalWait) → k.fanMax ≠ 0 → (∀ x, coilTemp? s c = some x → k.fanTemp < x) →
        exec (.phaseTimerExpiry c) s = .next (entered 4#8 .fanDelay .fanDelay k.fanMax s)))
    ∧ ∀ (s : State) (c : CoilIx), (s.coil c).phaseTimer = some 0 → CoilAlone s c →
      let answers (t : State) : Prop := exec (.phaseTimerExpiry c) s = .next t
      ((s.coil c).phase = .fanDelay → answers (completesAlone c s))
      ∧ ∀ rooms, HoldReleased s (s.coil c).zone rooms →
        ((s.coil c).phase = .pumpDown → answers (heatsAlone c rooms s))
        ∧ ((s.coil c).phase = .heat →
          answers (dripsAlone c rooms
            (raiseNotice .defrostTimeEnd (.coil c) (BitVec.ofInt 32 ((coilTemp? s c).getD (-32768))) s)))
        ∧ ((s.coil c).phase = .drip → answers (fansAlone c rooms s))

/-- The selection of a zone in use, in ACTIVE, evaluated here as a spacing timer expires (R102). A coil is eligible
with its mask clear, in COOL, its spacing elapsed, and a pending pull-in or, in a zone not quiet, its owed count at the
start threshold. STAGGERED (R103): while no coil of the zone is out of COOL, the first eligible coil from the pointer
on, or else from coil 0, starts alone and the pointer moves past it; with none eligible nothing starts. ALL (R104):
when every unmasked coil is in COOL and spaced and one of them wants a defrost, they all start together as a group,
otherwise none does; no group starts before the last one ended together (R112). A coil that starts gives up its pull-in
and keeps a quiet start mark. In zone 0 it enters PUMP_DOWN at once: COIL_COMMAND PUMP_DOWN is originated, the phase
timer starts, the allowance window opens and DEFROST_START carries the owed count; a pump-down time of 0 enters HEAT in
the same handling, here for a coil alone in its zone (R63, R108, R109). In a room zone it enters PORTAL_WAIT and
requests the hold with its forced mark, a group with the mark of any member: granted at a CLOSED door without claims,
where the portal's waiting DOOR_OPEN and the trunk's are gone and the coils enter PUMP_DOWN, otherwise WAITING (R91,
R107). The members of a group enter in ascending order (log entry 15), all of them before a phase of time 0 runs on
(log entry 16). The hold is CLEAR and no hold-open timer runs; a masked coil that stands in FAN_DELAY holds no group
back (log entry 33). -/
def Obligations.SelectionStartsDefrosts : Prop :=
  ∀ (s : State) (c : CoilIx) (z : ZoneIx), (s.coil c).spacingTimer = some 0 → (s.coil c).zone = z →
    s.mode = .active → (s.zone z).inUse = true →
    let elapsed : State := { s with coils := tset s.coils c { s.coil c with spacingTimer := none } }
    let n := s.zone z
    let mine (d : CoilIx) : Prop := (s.coil d).loaded = true ∧ (s.coil d).zone = z
    let spaced (d : CoilIx) : Prop := (elapsed.coil d).spacingTimer = none
    let wants (d : CoilIx) : Prop :=
      (s.coil d).pullIn = true ∨ (n.quiet = false ∧ (s.coil d).start ≤ (s.coil d).owed)
    let begun (group : Bool) (k : Coil) : Coil := { k with pullIn := false, quietStart := n.quiet, group := group }
    let waits (group : Bool) (k : Coil) : Coil := { begun group k with phase := .portalWait }
    let nothing : Prop := exec (.spacingTimerExpiry c) s = .next elapsed
    let answers (t : State) : Prop := exec (.spacingTimerExpiry c) s = .next t
    let asksAt (r : RoomIx) : Prop := z = roomZone r ∧ (s.room r).hold = .clear
    let atOnce (r : RoomIx) : Prop := (s.room r).claims = [] ∧ (s.room r).state = .closed
    (n.defrostMode = .staggered →
      let eligible (d : CoilIx) : Prop :=
        mine d ∧ (s.coil d).mask = false ∧ (s.coil d).phase = .cool ∧ spaced d ∧ wants d
      let first (d : CoilIx) : Prop :=
        eligible d ∧ ∀ e, eligible e → e ≠ d →
          (n.pointer ≤ d → e < n.pointer ∨ d < e) ∧ (d < n.pointer → e < n.pointer ∧ d < e)
      let turned : Zone → CoilIx → Zone := fun n d => { n with pointer := d + 1 }
      ((∃ d, mine d ∧ (s.coil d).phase ≠ .cool) ∨ (∀ d, ¬eligible d) → nothing)
      ∧ ∀ d, (∀ e, mine e → (s.coil e).phase = .cool ∧ (s.coil e).group = false) → first d →
        let k := elapsed.coil d
        let chosen : State :=
          { elapsed with coils := tset elapsed.coils d (begun false k), zones := tset s.zones z (turned n d) }
        let goes (t : State) : Prop := (k.pumpDown ≠ 0 → answers (entersPumpDown d t))
          ∧ ∀ rooms, CoilAlone s d → HoldReleased t z rooms → answers (pumpsAlone d rooms t)
        (z = 0 → goes chosen)
        ∧ ∀ r, asksAt r →
          (¬atOnce r → (s.room r).holdOpenTimer = none →
            answers { elapsed with
              coils := tset elapsed.coils d (waits false k), zones := tset s.zones z (turned n d)
              rooms := tset s.rooms r { s.room r with hold := .waiting, holdForced := k.forced } })
          ∧ (atOnce r → goes (holdSet r k.forced chosen)))
    ∧ (n.defrostMode = .all →
      let member (d : CoilIx) : Prop := mine d ∧ (s.coil d).mask = false
      let joins (d : CoilIx) : Bool := (s.coil d).loaded && (s.coil d).zone == z && !(s.coil d).mask
      let chosen : State :=
        { elapsed with
          coils := Vector.ofFn fun d => if joins d then begun true (elapsed.coil d) else elapsed.coil d }
      let forced : Bool := (List.finRange 16).any fun d => joins d && (s.coil d).forced
      let goes (t : State) : Prop := (∀ d, member d → (s.coil d).pumpDown ≠ 0) →
        answers (((List.finRange 16).filter joins).foldl (fun t d => entersPumpDown d t) t)
      ((∃ d, member d ∧ ((s.coil d).phase ≠ .cool ∨ ¬spaced d)) ∨ (∃ d, mine d ∧ (s.coil d).group = true)
        ∨ (∀ d, member d → ¬wants d) → nothing)
      ∧ ((∀ d, member d → (s.coil d).phase = .cool ∧ spaced d) → (∃ d, member d ∧ wants d) →
        (∀ d, mine d → (s.coil d).group = false ∧ ((s.coil d).phase = .cool ∨ (s.coil d).phase = .fanDelay)) →
        (z = 0 → goes chosen)
        ∧ ∀ r, asksAt r →
          (¬atOnce r → (s.room r).holdOpenTimer = none →
            answers { elapsed with
              coils := Vector.ofFn fun d => if joins d then waits true (elapsed.coil d) else elapsed.coil d
              rooms := tset s.rooms r { s.room r with hold := .waiting, holdForced := forced } })
          ∧ (atOnce r → goes (holdSet r forced chosen))))

/-- At the end of DRIP a coil enters FAN_DELAY, and the hold of its room is released unless another coil of the zone is
in PUMP_DOWN, HEAT or DRIP: by a single coil, by the last of a group (R110). A SET hold becomes CLEAR with its marks 0,
and the waiting list is granted in its order: here a single waiter forms an entry at the CLOSED door, which is asked to
open, and an armed travel or a homing of that shuttle across the door goes on waiting (R87, R92, R137, R142). A release
of a hold that is not SET changes nothing. A member of a group that ends FAN_DELAY enters COOL and keeps its group flag
while another member is out of COOL; with the last of them every member completes, in ascending order (log entry 15),
with a DEFROST_END of its owed count: owed falls by one to no less than −8 unless its defrost began while quiet, forced
is cleared below the limit, the last end time and the spacing are set, the group flag and the quiet start mark cleared,
the allowance recovery starts (R63, R111, R112). No coil of the zone is in PORTAL_WAIT; no selection starts at the
common end, for each member is masked or has a spacing to wait, and each other coil is masked, waits for its spacing or
wants no defrost (R102). That a masked single coil and a group release a shared hold together, that a due expiry may be
taken at any later command, that a spacing of 0 leaves the spacing timer stopped, that the argument byte of the
DOOR_OPEN is a free value, and that the hold's release and its DOOR_OPEN come before the FAN_DELAY command, are the
model's choices (log entries 38, 4, 18, 9 and 16). -/
def Obligations.HoldsAndGroupsEnd : Prop :=
  ∀ (s : State) (c : CoilIx), (s.coil c).phaseTimer = some 0 →
    let k := s.coil c
    let z := k.zone
    let n := s.zone z
    let mine (d : CoilIx) : Prop := (s.coil d).loaded = true ∧ (s.coil d).zone = z
    (∀ d, mine d → (s.coil d).phase ≠ .portalWait) →
    (∀ r, z = roomZone r → k.phase = .drip → k.fanMax ≠ 0 → (∀ x, coilTemp? s c = some x → k.fanTemp < x) →
      let p := s.room r
      let stillUnder : Prop := ∃ d, d ≠ c ∧ mine d
        ∧ ((s.coil d).phase = .pumpDown ∨ (s.coil d).phase = .heat ∨ (s.coil d).phase = .drip)
      let fans (t : State) : State :=
        { originate (.coil c) 0x22#8 [4#8] t with
          coils := tset s.coils c (k.commandedTo .fanDelay .fanDelay (some k.fanMax)) }
      let freed : Room := p.unheld
      (stillUnder ∨ p.hold ≠ .set → exec (.phaseTimerExpiry c) s = .next (fans s))
      ∧ (¬stillUnder → p.hold = .set → p.waiting = [] →
        exec (.phaseTimerExpiry c) s = .next (fans { s with rooms := tset s.rooms r freed }))
      ∧ ∀ u h, ¬stillUnder → p.hold = .set → p.waiting = [{ shuttle := u, holder := h }] → p.claims = [] →
        p.state = .closed → (s.shuttle u).waitsAt r →
        exec (.phaseTimerExpiry c) s
          = .next (fans
              { originate (.door r) 0x20#8 [0#8, Config.doorArgument]
                  (withdrawCommands r .doorClose .crossing s) with
                rooms := tset s.rooms r
                  { freed with
                    waiting := [], claims := [{ shuttle := u, holders := [h] }], holdOpenTimer := none
                    request := .opening, doorTimer := some p.openTime, state := .opening
                    openedBy := .part } }))
    ∧ (k.phase = .fanDelay → k.group = true → k.loaded = true →
      let cooled : Coil := k.commandedTo .cool .cool none
      (∀ d, d ≠ c → mine d → (s.coil d).group = true → (s.coil d).phase ≠ .cool →
        exec (.phaseTimerExpiry c) s
          = .next { originate (.coil c) 0x22#8 [0#8] s with coils := tset s.coils c cooled })
      ∧ (let member (d : CoilIx) : Bool := (s.coil d).loaded && (s.coil d).zone == z && (s.coil d).group
        let rests (d : CoilIx) : Prop :=
          if member d = true then (s.coil d).minSpacing ≠ 0
          else (s.coil d).spacingTimer ≠ none
            ∨ ((s.coil d).pullIn = false ∧ (n.quiet = true ∨ (s.coil d).owed < (s.coil d).start))
        (∀ d, d ≠ c → mine d → (s.coil d).phase = .cool) →
        (∀ d, mine d → (s.coil d).mask = true ∨ rests d) →
        let completed (d : CoilIx) : Coil := (if d = c then cooled else s.coil d).completedAt s.count
        let told : State := ((List.finRange 16).filter member).foldl
          (fun t d => raiseNotice .defrostEnd (.coil d) (BitVec.ofInt 32 (completed d).owed) t)
          (originate (.coil c) 0x22#8 [0#8] s)
        exec (.phaseTimerExpiry c) s
          = .next { told with
              coils := Vector.ofFn fun d => if member d then completed d else s.coil d
              zones := tset s.zones z n.recovers }))

/-- When its step timer expires a shuttle enters FAULT with TIMEOUT: step and armed travel end, the position is UNKNOWN
after a travel or a homing under way and kept after a pick or a place, its pallet is HELD, SHUTTLE_FAULT is raised with
the reason 0 (R127, R141). Its active move beyond QUEUED ends FAILED with SHUTTLE_FAULT and its done count: the
reservation is released, its claims, granted or waiting, are handed over to the shuttle, its record and its slot are
given up; a move QUEUED in slot A and the staged move return to the queue as QUEUED (R88, R156, R157, R159). The
shuttle holds and waits for no claim of its own, and the moves that return have none. An IDLE shuttle whose park travel
crosses no door goes PARKING when its park timer expires: GO to the park position, timed by the distance (R138, R145).
A timer that is stopped or has time left does not expire; that a due expiry may be taken at any later command is the
model's (log entry 4), as is the place that the shuttle takes among the holders (log entry 46). -/
def Obligations.ShuttleTimersExpire : Prop :=
  ∀ (s : State) (u : ShuttleIx),
    let v := s.shuttle u
    ((v.stepTimer ≠ some 0 → exec (.stepTimerExpiry u) s = .next s)
      ∧ (v.parkTimer ≠ some 0 → exec (.parkTimerExpiry u) s = .next s))
    ∧ (v.stepTimer = some 0 → PalletsDistinct s → ∀ pallets : Vector (Option Pallet) 256,
      ((∃ i p, s.pallet i = some p ∧ v.deck = some p.id
          ∧ pallets = tset s.pallets i (some { p with location := .deck u, status := .held }))
        ∨ ((∀ i p, s.pallet i = some p → v.deck ≠ some p.id) ∧ pallets = s.pallets)) →
      let faulted : Shuttle :=
        { v with
          state := .fault, faultReason := some .timeout, step := none, armed := none, stepTimer := none
          parkTimer := none, slotA := none, slotB := none
          position :=
            match v.step with
            | some (.travel _ _) | some .homing => none
            | some (.pick _ _) | some (.place _ _) | none => v.position }
      let told : State := raiseNotice .shuttleFault (.shuttle u) 0#32 s
      let answers (t : State) : Prop := exec (.stepTimerExpiry u) s = .next t
      let returned (r : Move) : Move := { r with state := .queued, shuttle := none }
      let free (h : Holder) : Prop := ∀ r, (∀ c ∈ (s.room r).claims, c.shuttle = u → h ∉ c.holders)
        ∧ { shuttle := u, holder := h } ∉ (s.room r).waiting
      (v.slotA = none → v.slotB = none →
        answers { told with pallets := pallets, shuttles := tset s.shuttles u faulted })
      ∧ ∀ m, v.slotA = some m.id → s.move? m.id = some m → m.shuttle = some u → v.slotB ≠ some m.id →
        (∀ b, v.slotB = some b → free (.move b)) →
        (m.state = .queued → free (.move m.id) →
          answers { told with
            pallets := pallets, shuttles := tset s.shuttles u faulted
            moves := s.moves.map fun r => if r.id = m.id ∨ v.slotB = some r.id then returned r else r })
        ∧ ((m.state = .toSource ∨ m.state = .picking ∨ m.state = .carrying ∨ m.state = .placing) → free .shuttle →
          ∃ t : State, answers t
            ∧ t = { tellResult m.id 4 6 m.doneCount told with
                    pallets := pallets, shuttles := tset s.shuttles u faulted, rooms := t.rooms
                    lanes := tset s.lanes m.dest { s.lane m.dest with reserved := (s.lane m.dest).reserved - 1 }
                    moves := (s.movesBut m.id).map fun r => if v.slotB = some r.id then returned r else r }
            ∧ ∀ r, t.room r = { s.room r with
                claims := (s.room r).claims.map fun c =>
                  if c.shuttle = u then
                    { c with holders := c.holders.map fun h => if h = .move m.id then .shuttle else h }
                  else c
                waiting := (s.room r).waiting.map fun w =>
                  if w = { shuttle := u, holder := .move m.id } then { w with holder := .shuttle } else w }))
    ∧ ∀ x, v.slotA = none → v.slotB = none → v.parkTimer = some 0 → v.state = .idle → v.position = some x →
      x ≠ v.parkPos → v.crossed (some x) v.parkPos = [] → (∀ m ∈ s.moves, moveRail? s m ≠ some u) →
      exec (.parkTimerExpiry u) s
        = .next (originate (.shuttle u) 0x21#8 [0#8, byteOf v.parkPos.val]
            { s with
              shuttles := tset s.shuttles u
                { v with
                  state := .parking, parkTimer := none, armed := none
                  step := some (.travel v.parkPos .shuttle)
                  stepTimer := some
                    ((x.val - v.parkPos.val + (v.parkPos.val - x.val)) * v.pitch + v.settle) } })

/-! ## Internal steps (R91, R92, R137, R142, R150, R152, R156) -/

/-- A WAITING hold is granted at an unclaimed CLOSED door: it becomes SET, the portal's own waiting DOOR_OPEN and the
waiting trunk DOOR_OPENs are gone, and the one coil that waited enters PUMP_DOWN: its COIL_COMMAND is originated, the
allowance window opens and DEFROST_START carries the owed count; a pump-down time of 0 enters HEAT in the same handling
(log entry 16), here for a coil alone in its zone. At a claimed door, or one not CLOSED, nothing happens (R63, R91,
R107, R108, R109). The waiting list is granted when the hold is CLEAR or waits without its forced mark: a single waiter
of a shuttle without an entry forms one, and the waiting trunk DOOR_CLOSEs are withdrawn, and a CLOSED door is asked to
open, marked as opened by the part: an armed travel, or a homing, of that shuttle across the door goes on waiting, for
the door is not ready yet (R137, R142). While the hold is SET, or waits forced, nothing is granted (R86, R87, R92).
That the row acts when its condition holds and otherwise changes nothing is the model's (log entry 7); the argument
byte of the DOOR_OPEN is a free value (log entry 9). -/
def Obligations.HoldsAndWaitingClaimsAreGranted : Prop :=
  (∀ (s : State) (r : RoomIx), (s.room r).hold = .waiting →
      let p := s.room r
      ((p.claims ≠ [] ∨ p.state ≠ .closed) → exec (.holdGrant r) s = .next s)
      ∧ ∀ c, p.claims = [] → p.state = .closed → (s.coil c).loaded = true →
        (s.coil c).zone = roomZone r → (s.coil c).phase = .portalWait →
        (∀ d, d ≠ c → (s.coil d).loaded = true → (s.coil d).zone = roomZone r →
          (s.coil d).phase ≠ .portalWait) →
        let granted := holdSet r p.holdForced s
        let t := entersPumpDown c granted
        ((s.coil c).pumpDown ≠ 0 → exec (.holdGrant r) s = .next t
          ∧ (∀ o ∈ t.originated, ¬(o.obj = .door r ∧ o.frame.payload.head? = some 0#8))
          ∧ ∀ w ∈ t.forwarded, ¬(w.target = some (.door (roomPortal r)) ∧ w.frame.kind = 0x20#8
              ∧ w.frame.payload.head? = some 0#8))
        ∧ ∀ rooms, CoilAlone s c → HoldReleased granted (roomZone r) rooms →
          exec (.holdGrant r) s = .next (pumpsAlone c rooms granted))
    ∧ (∀ (s : State) (r : RoomIx),
      let p := s.room r
      ((p.hold = .set ∨ (p.hold = .waiting ∧ p.holdForced = true)) →
        exec (.waitingClaimGrant r) s = .next s)
      ∧ ∀ u h, (p.hold = .clear ∨ (p.hold = .waiting ∧ p.holdForced = false)) →
        p.waiting = [{ shuttle := u, holder := h }] → p.claims = [] → p.state = .closed →
        (s.shuttle u).waitsAt r →
        let withdrawn := withdrawCommands r .doorClose .crossing s
        exec (.waitingClaimGrant r) s
          = .next { originate (.door r) 0x20#8 [0#8, Config.doorArgument] withdrawn with
              rooms := tset s.rooms r
                { p with
                  waiting := [], claims := [{ shuttle := u, holders := [h] }], holdOpenTimer := none
                  request := .opening, doorTimer := some p.openTime, state := .opening
                  openedBy := .part } })

/-- A travel of a move that crosses one room door asks that door's portal for a claim (R153), by the table of R86: a
quiet zone refuses it and ends the move with ZONE_QUIET, its reservation released; a SET hold, a forced WAITING hold or
a waiting list make it wait, and the travel is armed; a claim already held or waiting changes nothing; a shuttle with
an entry is joined there; otherwise a new entry forms, the waiting trunk DOOR_CLOSEs are withdrawn with CROSSING, the
hold-open timer stops, and the portal acts by its state (R87): from CLOSED, UNKNOWN and CLOSING it asks the door to
open, from OPENING when nothing is asked, in OPEN the travel begins at once (R137, R138), in FAULT it waits. An active
move that enters PLACING for the last time asks the claims of the staged move's first travel, and one refused is passed
over (R151, R155). At the end of a park travel the shuttle releases its claim: the ready flag falls and the door is
handed back (R88, R145). The move waits refused in IDLE, and no other door has a claim. The argument byte of the
DOOR_OPEN is a free value (log entry 9); that a new entry, or a holder that joins one, stands last is the model's
choice (log entry 46). -/
def Obligations.ClaimsAreAskedAtCrossedDoors : Prop :=
  ∀ (s : State) (u : ShuttleIx) (r : RoomIx) (x : RailPos),
    let v := s.shuttle u
    let p := s.room r
    let quiet : Prop := (s.zone (roomZone r)).quiet = true
    let alone : Prop := ∀ q, q ≠ r → (s.room q).claims = [] ∧ (s.room q).waiting = []
    let flagged (b : Bool) (w : Shuttle) : Shuttle :=
      { w with
        readyA := if w.roomA = some r then b else w.readyA
        readyB := if w.roomB = some r then b else w.readyB }
    let with_ (q : Room) (t : State) : State := { t with rooms := tset s.rooms r q }
    let askOpen (t : State) : State := originate (.door r) 0x20#8 [0#8, Config.doorArgument] t
    let entered (h : Holder) : Room :=
      { p with claims := p.claims ++ [{ shuttle := u, holders := [h] }], holdOpenTimer := none }
    let asks (q : Room) : Room := { q with request := .opening, doorTimer := some p.openTime }
    let shut : Prop := p.state = .closed ∨ p.state = .unknown ∨ p.state = .closing
    let mustWait : Prop := p.hold = .set ∨ (p.hold = .waiting ∧ p.holdForced = true) ∨ p.waiting ≠ []
    (∀ (m : Move) (target : RailPos), v.slotA = some m.id → v.state = .idle → v.step = none →
      v.armed = none → v.position = some x → s.move? m.id = some m →
      ((m.state = .toSource ∧ target = (s.lane m.source).position)
        ∨ (m.state = .carrying ∧ target = (s.lane m.dest).position)) →
      v.crossed (some x) target = [r] → alone →
      let holder := Holder.move m.id
      let arms (t : State) : Prop :=
        exec (.stepRetry u) s
          = .next { t with
              shuttles := tset s.shuttles u
                { v with armed := some { target := target, by_ := .move m.id }, parkTimer := none } }
      let begins (w : Shuttle) (t : State) : Prop :=
        exec (.stepRetry u) s = .next (sendGo u target
          { t with shuttles := tset s.shuttles u (w.going x target m.id) })
      (quiet → p.claims = [] → p.waiting = [] → m.shuttle = some u → v.slotB = none → OnlyMove s u m.id →
        exec (.stepRetry u) s
          = .next { tellResult m.id (if 0 < m.doneCount then 1 else 2) 5 m.doneCount s with
              moves := s.movesBut m.id
              lanes := tset s.lanes m.dest { s.lane m.dest with reserved := (s.lane m.dest).reserved - 1 }
              shuttles := tset s.shuttles u { v with slotA := none } })
      ∧ (p.waiting.contains { shuttle := u, holder := holder } → p.claims = [] → arms s)
      ∧ (¬quiet → (∀ c ∈ p.claims, c.shuttle ≠ u) → mustWait →
        p.waiting.contains { shuttle := u, holder := holder } = false →
        arms (with_ { p with waiting := p.waiting ++ [{ shuttle := u, holder := holder }] } s))
      ∧ (¬quiet → (∀ c ∈ p.claims, c.shuttle ≠ u) → ¬mustWait →
        let withdrawn := withdrawCommands r .doorClose .crossing s
        (shut → v.readyAt r = false →
          arms (with_ { asks (entered holder) with state := .opening, openedBy := .part } (askOpen withdrawn)))
        ∧ (p.state = .opening → p.request ≠ .opening → v.readyAt r = false →
          arms (with_ (asks (entered holder)) (askOpen withdrawn)))
        ∧ ((p.state = .opening ∧ p.request = .opening) ∨ p.state = .fault → v.readyAt r = false →
          arms (with_ (entered holder) withdrawn))
        ∧ (p.state = .opened → begins (flagged true v) (with_ (entered holder) withdrawn)))
      ∧ ∀ hs, p.claims = [{ shuttle := u, holders := hs }] → p.waiting = [] →
        (holder ∈ hs → (v.readyAt r = true → begins v s) ∧ (v.readyAt r = false → arms s))
        ∧ (holder ∉ hs → ¬quiet →
          let joined : State := with_ { p with claims := [{ shuttle := u, holders := hs ++ [holder] }] } s
          (p.state = .opened → begins (flagged true v) joined)
          ∧ (p.state ≠ .opened → v.readyAt r = true → begins v joined)
          ∧ (p.state ≠ .opened → v.readyAt r = false → arms joined)))
    ∧ ∀ (h : Header) (position loaded : Byte) (extra : List Byte) (e : Fin 128),
      BoundUp s h 0x14#8 (3 + extra.length) e (.shuttle u) → v.loaded = true → position.toNat = x.val →
      let f := headerFrame h 0x14#8 ([0#8, position, loaded] ++ extra)
      let answers (t : State) : Prop :=
        exec (.shuttleReport h 0#8 position loaded extra) s = .next (forwardUp e f t)
      let counted := countHit e s
      (∀ m b : Move, v.step = some (.travel x (.move m.id)) → s.move? m.id = some m → m.state = .carrying →
        (m.remaining = 1 ∨ m.cancelling = true) → v.slotA = some m.id → v.slotB = some b.id → v.armed = none →
        s.move? b.id = some b → b.id ≠ m.id → v.crossed (some x) (s.lane b.source).position = [r] →
        let places (t : State) : Prop :=
          answers (originate (.shuttle u) 0x21#8 [2#8, byteOf x.val]
            { t with
              moves := s.movesWith m.id fun q => { q with state := .placing }
              shuttles := tset s.shuttles u
                { v with
                  position := some x, state := .lowering, parkTimer := none
                  step := some (.place m.dest m.id), stepTimer := some (v.handling * 10) } })
        let holder := Holder.move b.id
        (quiet → places counted)
        ∧ (¬quiet → p.claims = [] → p.waiting = [] → mustWait →
          places (with_ { p with waiting := [{ shuttle := u, holder := holder }] } counted))
        ∧ (¬quiet → p.claims = [] → p.waiting = [] → ¬mustWait → shut →
          places (with_ { asks (entered holder) with state := .opening, openedBy := .part }
            (askOpen (withdrawCommands r .doorClose .crossing counted))))
        ∧ ∀ hs, ¬quiet → p.claims = [{ shuttle := u, holders := hs }] → p.waiting = [] → holder ∉ hs →
          p.state ≠ .opened →
          places (with_ { p with claims := [{ shuttle := u, holders := hs ++ [holder] }] } counted))
      ∧ (v.step = some (.travel x .shuttle) → v.slotA = none → v.slotB = none → v.armed = none →
        (∀ m ∈ s.moves, (s.lane m.source).rail ≠ some u) → alone → p.waiting = [] → p.hold ≠ .waiting →
        p.claims = [{ shuttle := u, holders := [.shuttle] }] →
        let parked : Shuttle :=
          { flagged false v with
            position := some x, state := .idle, step := none, stepTimer := none
            parkTimer := { v with position := some x }.parkStart }
        let left (q : Room) : Prop :=
          answers { counted with rooms := tset s.rooms r q, shuttles := tset s.shuttles u parked }
        (p.openedBy = .part → p.holdOpenTime ≠ 0 →
          left { p with claims := [], holdOpenTimer := some p.holdOpenTime })
        ∧ (p.openedBy = .outside → left { p with claims := [], request := .none, doorTimer := none })
        ∧ (p.openedBy = .none → left { p with claims := [] }))

/-- An armed travel begins as soon as it is clear to start: every room door it crosses has the shuttle's entry in its
claims list and is ready. The GO goes out and the step is timed by the distance. Until then it stays armed (R137,
R138). A park travel armed in PARKING begins in the same way, and the state stays PARKING (R138, R145). A homing that
crosses only ready doors sends its HOME (R142). That the rows act when their condition holds and otherwise change
nothing is the model's (log entry 7). -/
def Obligations.TravelsStartWhenClear : Prop :=
  ∀ (s : State) (u : ShuttleIx),
    let v := s.shuttle u
    let ready (target : RailPos) : Prop := ∀ r ∈ v.crossed v.position target,
      (∃ c ∈ (s.room r).claims, c.shuttle = u)
        ∧ ((v.roomA = some r ∧ v.readyA = true) ∨ (v.roomB = some r ∧ v.readyB = true))
    (∀ target asker x, v.armed = some { target := target, by_ := asker } → v.position = some x →
      let starts (st : ShuttleState) : Prop :=
        (¬ready target → exec (.armedTravelStart u) s = .next s)
        ∧ (ready target → exec (.armedTravelStart u) s
          = .next (originate (.shuttle u) 0x21#8 [0#8, byteOf target.val]
              { s with
                shuttles := tset s.shuttles u
                  { v with
                    state := st, parkTimer := none, armed := none, step := some (.travel target asker)
                    stepTimer := some
                      ((x.val - target.val + (target.val - x.val)) * v.pitch + v.settle) } }))
      (∀ m, asker = .move m → v.state = .idle → starts .travelling)
        ∧ (asker = .shuttle → v.state = .parking → starts .parking))
    ∧ (v.state = .homing → v.step = none →
      (¬ready v.homePos → exec (.homingOrderSent u) s = .next s)
      ∧ (ready v.homePos → exec (.homingOrderSent u) s
        = .next (originate (.shuttle u) 0x21#8 [3#8, byteOf v.homePos.val]
            { s with
              shuttles := tset s.shuttles u
                { v with step := some .homing, stepTimer := some (64 * v.pitch + v.settle) } })))

/-- Assignment on a rail takes the oldest URGENT waiting move, or else the oldest: into slot A of an IDLE or PARKING
shuttle with empty slots, and the next one then into an empty slot B as STAGED; the park timer stops. In PARKING it
waits QUEUED; in IDLE it takes its pick-up decision in the same handling, before slot B is filled. A staged move goes
up into an empty slot A. A shuttle that is neither IDLE nor PARKING takes none into slot A, one in NOT_READY none at
all (R140, R145, R150, R151). The pick-up decision, taken there or by a move waiting QUEUED in slot A of an IDLE
shuttle, tests the source head, or the pallet on the deck, in order: SOURCE_EMPTY for an empty lane and deck,
NOT_AT_HEAD for another pallet than the named one, QUARANTINE for one held back toward a lane that is no quarantine
lane, DEST_FULL without a reservation; a failed test ends the move, PARTIAL after a placement and STOPPED before, its
slot given up (R152, R157). Otherwise the destination holds a reservation, the move keeps the destination's quarantine
lane field as the decision read it (R120, R131, log entry 45) and travels, TO_SOURCE for the head, or CARRYING to the
destination with the deck's pallet; here the travel crosses no door, and where the shuttle stands there already the
PICK or the PLACE goes out at once (R126, R138, R153, R154, R155). An active move refused its PICK asks for it again
(R156). No move holds or waits for a claim. That the rows act when their condition holds and
otherwise change nothing is the model's (log entry 7). -/
def Obligations.MovesAreAssignedAndBegun : Prop :=
  (∀ (s : State) (u : ShuttleIx),
      let v := s.shuttle u
      let becomes (t : State) : Prop := exec (.assignment u) s = .next t
      let noneWaits (l : List Move) : Prop := ∀ r ∈ l, ¬r.waitsFor s u
      (v.slotA = none → v.slotB = none → v.state ≠ .idle → v.state ≠ .parking → becomes s)
      ∧ (v.slotA ≠ none → v.slotB ≠ none ∨ v.state = .notReady → becomes s)
      ∧ (v.slotB = none → noneWaits s.moves → becomes s)
      ∧ (∀ b, v.slotA = none → v.slotB = some b.id → s.move? b.id = some b → v.state ≠ .idle →
        noneWaits s.moves →
        becomes (inSlotA u b.id { s with shuttles := tset s.shuttles u { v with slotB := none } }))
      ∧ ∀ m, NextEligible s u s.moves m → v.slotB = none →
        let rest := s.movesBut m.id
        let chosen := inSlotA u m.id s
        (v.slotA ≠ none → v.state ≠ .notReady → becomes (inSlotB u m.id s))
        ∧ (v.slotA = none → v.state = .parking →
          (noneWaits rest → becomes chosen)
          ∧ ∀ b, NextEligible s u rest b → becomes (inSlotB u b.id chosen))
        ∧ ∀ x, v.slotA = none → v.state = .idle → v.position = some x → s.move? m.id = some m →
          PalletsDistinct s → NoClaims s →
          let decides (answers : State → Prop) : Prop :=
            DecidesPickUp answers chosen u { m with shuttle := some u } x
          (noneWaits rest → decides becomes)
          ∧ ∀ b, NextEligible s u rest b → decides fun t => becomes (inSlotB u b.id t))
    ∧ (∀ (s : State) (u : ShuttleIx) (m : Move) (x : RailPos), (s.shuttle u).slotA = some m.id →
      s.move? m.id = some m → (s.shuttle u).state = .idle → PalletsDistinct s →
      (s.shuttle u).position = some x → NoClaims s →
      let v := s.shuttle u
      (m.state = .queued → DecidesPickUp (fun t => exec (.pickUpDecision u) s = .next t) s u m x)
      ∧ (v.step = none → v.armed = none → m.state = .picking →
        exec (.stepRetry u) s
          = .next (originate (.shuttle u) 0x21#8 [1#8, byteOf x.val]
              { s with shuttles := tset s.shuttles u (v.atHand .lifting (.pick m.source m.id)) })))

/-! ## Whole-machine rules -/

/-- Only the manager commands: every request other than a read, from any other source, changes no state but its answer,
and is refused with NOT_PERMITTED when the reply queue has room (R168). A clear flag byte other than 1 does not set the
flag: the model's choice (log entry 28). The mode and the time base count change by requests and by time only: no frame
that completes on the field port, no trunk frame that is no MGMT_REQUEST to the part's own address, no expiry and no
internal step changes the mode, and only a running second changes the count (R174, R175, R177). -/
def Obligations.OnlyTheManagerCommands : Prop :=
  (∀ (s : State) (i : Instr) (q : Sender) (payload : List Byte), requestPayload? i = some (q, payload) →
      q.src ≠ 0xFE#8 → (∀ a b c, i ≠ .readEntry q a b c) → (∀ a b c, i ≠ .readObject q a b c) →
      (∀ c, c ≠ 1#8 → i ≠ .readCounters q c) →
      ∃ t : State, exec i s = .next t ∧ SameButAnswer s t
        ∧ (replyCount s < 4 → (∀ a b l, i ≠ .loadEntry q a b l) →
          t = joinReply (replyFrame s q 1 5 []) s))
    ∧ ∀ (s t : State) (i : Instr), exec i s = .next t → requestPayload? i = none → (∀ k, i ≠ .powerOn k) →
        (∀ bytes damaged f, i = .frameCompletion .trunk bytes damaged → frameOf? bytes = some f →
          f.kind = 0x30#8 → f.dest ≠ s.address) →
        t.mode = s.mode ∧ (i ≠ .timeBaseTick → t.count = s.count)
end

