-- ==== Sys2Proof/Laws/State.lean ====
section
/-! SUPPORT. The small lemmas of the tables and of State's updates: reading back a record after one was written, and
one lemma per field for each `modX`. -/

namespace Sys2Proof.Machine

variable {α : Type} {n : Nat}

/-! ## Tables -/

@[simp] theorem tget_tset_self (v : Vector α n) (i : Fin n) (x : α) : tget (tset v i x) i = x := by
  simp [tget, tset]

theorem tget_tset_ne (v : Vector α n) {i j : Fin n} (x : α) (h : i ≠ j) :
    tget (tset v i x) j = tget v j := by
  have h' : i.val ≠ j.val := fun e => h (Fin.ext e)
  simp [tget, tset, h']

theorem tget_tset (v : Vector α n) (i j : Fin n) (x : α) :
    tget (tset v i x) j = if i = j then x else tget v j := by
  by_cases h : i = j
  · subst h; simp
  · simp [h, tget_tset_ne v x h]

theorem tget_tmod (v : Vector α n) (i j : Fin n) (f : α → α) :
    tget (tmod v i f) j = if i = j then f (tget v i) else tget v j := tget_tset v i j _

@[simp] theorem tget_tmod_self (v : Vector α n) (i : Fin n) (f : α → α) :
    tget (tmod v i f) i = f (tget v i) := by simp [tget_tmod]

theorem tget_tmod_ne (v : Vector α n) {i j : Fin n} (f : α → α) (h : i ≠ j) :
    tget (tmod v i f) j = tget v j := by simp [tget_tmod, h]

@[simp] theorem tget_tmap (f : α → α) (v : Vector α n) (i : Fin n) : tget (tmap f v) i = f (tget v i) := by
  simp [tget, tmap, Vector.toList]

@[simp] theorem tget_replicate (x : α) (i : Fin n) : tget (Vector.replicate n x) i = x := by
  simp [tget]

@[simp] theorem tget_ofFn (f : Fin n → α) (i : Fin n) : tget (Vector.ofFn f) i = f i := by
  simp [tget]

theorem tfind_some {p : α → Bool} {v : Vector α n} {i : Fin n} (h : tfind p v = some i) :
    p (tget v i) = true := by
  have := List.find?_some h
  simpa using this

theorem tfind_none {p : α → Bool} {v : Vector α n} (h : tfind p v = none) (i : Fin n) :
    p (tget v i) = false := by
  have := List.find?_eq_none.mp h i (List.mem_finRange i)
  simpa using this

/-- The first index that passes: it passes, and no lower one does. -/
theorem tfind_first {p : α → Bool} {v : Vector α n} {i : Fin n} (h : tfind p v = some i) (j : Fin n)
    (hj : j < i) : p (tget v j) = false := by
  unfold tfind indices at h
  rw [List.find?_eq_some_iff_append] at h
  obtain ⟨_, as, bs, hl, hall⟩ := h
  have hmem : j ∈ List.finRange n := List.mem_finRange j
  have hs : (List.finRange n).Pairwise (· < ·) := List.pairwise_lt_finRange n
  rw [hl] at hmem hs
  rw [List.pairwise_append] at hs
  rcases List.mem_append.mp hmem with hm | hm
  · simpa using hall j hm
  · rcases List.mem_cons.mp hm with hm | hm
    · subst hm; exact absurd hj (lt_irrefl _)
    · have := (List.pairwise_cons.mp hs.2.1).1 j hm
      exact absurd (lt_trans hj this) (lt_irrefl _)

/-! ## Acting on each element -/

@[simp] theorem forEach_nil (f : α → State → State) (s : State) : forEach [] f s = s := rfl

@[simp] theorem forEach_cons (a : α) (l : List α) (f : α → State → State) (s : State) :
    forEach (a :: l) f s = forEach l f (f a s) := rfl

theorem forEach_append (l m : List α) (f : α → State → State) (s : State) :
    forEach (l ++ m) f s = forEach m f (forEach l f s) := List.foldl_append ..

/-- What relates each state to the next through one action relates the ends of all of them. -/
theorem forEach_rel (R : State → State → Prop) (refl : ∀ s, R s s)
    (trans : ∀ {a b c}, R a b → R b c → R a c) (l : List α) (f : α → State → State)
    (step : ∀ a ∈ l, ∀ s, R s (f a s)) (s : State) : R s (forEach l f s) := by
  induction l generalizing s with
  | nil => exact refl s
  | cons a l ih =>
    exact trans (step a (by simp) s) (ih (fun b hb => step b (by simp [hb])) (f a s))

/-- A projection that no action changes is not changed by all of them. -/
theorem forEach_keeps {β : Type} (π : State → β) (l : List α) (f : α → State → State)
    (step : ∀ a s, π (f a s) = π s) (s : State) : π (forEach l f s) = π s :=
  forEach_rel (fun a b => π b = π a) (fun _ => rfl) (fun h k => k.trans h) l f (fun a _ s => step a s) s

/-! ## Fields after an update -/

section modProbe

variable (s : State) (i : ProbeIx) (f : Probe → Probe)
@[simp] theorem State.modProbe_mode : (s.modProbe i f).mode = s.mode := rfl
@[simp] theorem State.modProbe_strap : (s.modProbe i f).strap = s.strap := rfl
@[simp] theorem State.modProbe_count : (s.modProbe i f).count = s.count := rfl
@[simp] theorem State.modProbe_exposureTimer : (s.modProbe i f).exposureTimer = s.exposureTimer := rfl
@[simp] theorem State.modProbe_trunkReady : (s.modProbe i f).trunkReady = s.trunkReady := rfl
@[simp] theorem State.modProbe_fieldReady : (s.modProbe i f).fieldReady = s.fieldReady := rfl
@[simp] theorem State.modProbe_trunkCounters : (s.modProbe i f).trunkCounters = s.trunkCounters := rfl
@[simp] theorem State.modProbe_fieldCounters : (s.modProbe i f).fieldCounters = s.fieldCounters := rfl
@[simp] theorem State.modProbe_sequence : (s.modProbe i f).sequence = s.sequence := rfl
@[simp] theorem State.modProbe_run : (s.modProbe i f).run = s.run := rfl
@[simp] theorem State.modProbe_trunkTx : (s.modProbe i f).trunkTx = s.trunkTx := rfl
@[simp] theorem State.modProbe_fieldTx : (s.modProbe i f).fieldTx = s.fieldTx := rfl
@[simp] theorem State.modProbe_uplink : (s.modProbe i f).uplink = s.uplink := rfl
@[simp] theorem State.modProbe_forwarded : (s.modProbe i f).forwarded = s.forwarded := rfl
@[simp] theorem State.modProbe_originated : (s.modProbe i f).originated = s.originated := rfl
@[simp] theorem State.modProbe_answers : (s.modProbe i f).answers = s.answers := rfl
@[simp] theorem State.modProbe_notices : (s.modProbe i f).notices = s.notices := rfl
@[simp] theorem State.modProbe_lost : (s.modProbe i f).lost = s.lost := rfl
@[simp] theorem State.modProbe_policy : (s.modProbe i f).policy = s.policy := rfl
@[simp] theorem State.modProbe_classTable : (s.modProbe i f).classTable = s.classTable := rfl
@[simp] theorem State.modProbe_conditions : (s.modProbe i f).conditions = s.conditions := rfl
@[simp] theorem State.modProbe_zones : (s.modProbe i f).zones = s.zones := rfl
@[simp] theorem State.modProbe_docks : (s.modProbe i f).docks = s.docks := rfl
@[simp] theorem State.modProbe_rooms : (s.modProbe i f).rooms = s.rooms := rfl
@[simp] theorem State.modProbe_coils : (s.modProbe i f).coils = s.coils := rfl
@[simp] theorem State.modProbe_classes : (s.modProbe i f).classes = s.classes := rfl
@[simp] theorem State.modProbe_lanes : (s.modProbe i f).lanes = s.lanes := rfl
@[simp] theorem State.modProbe_pallets : (s.modProbe i f).pallets = s.pallets := rfl
@[simp] theorem State.modProbe_departed : (s.modProbe i f).departed = s.departed := rfl
@[simp] theorem State.modProbe_shuttles : (s.modProbe i f).shuttles = s.shuttles := rfl
@[simp] theorem State.modProbe_moves : (s.modProbe i f).moves = s.moves := rfl
@[simp] theorem State.modProbe_lastMove : (s.modProbe i f).lastMove = s.lastMove := rfl
@[simp] theorem State.modProbe_pending : (s.modProbe i f).pending = s.pending := rfl
@[simp] theorem State.modProbe_zone (j : ZoneIx) : (s.modProbe i f).zone j = s.zone j := rfl
@[simp] theorem State.modProbe_dock (j : DockIx) : (s.modProbe i f).dock j = s.dock j := rfl
@[simp] theorem State.modProbe_room (j : RoomIx) : (s.modProbe i f).room j = s.room j := rfl
@[simp] theorem State.modProbe_coil (j : CoilIx) : (s.modProbe i f).coil j = s.coil j := rfl
@[simp] theorem State.modProbe_lane (j : LaneIx) : (s.modProbe i f).lane j = s.lane j := rfl
@[simp] theorem State.modProbe_shuttle (j : ShuttleIx) : (s.modProbe i f).shuttle j = s.shuttle j := rfl
@[simp] theorem State.modProbe_pallet (j : PalletIx) : (s.modProbe i f).pallet j = s.pallet j := rfl
@[simp] theorem State.modProbe_entry (j : Fin 128) : (s.modProbe i f).entry j = s.entry j := rfl
@[simp] theorem State.modProbe_condition (j : Fin 64) : (s.modProbe i f).condition j = s.condition j := rfl
@[simp] theorem State.modProbe_cls (j : ClassIx) : (s.modProbe i f).cls j = s.cls j := rfl
theorem State.probe_modProbe (j : ProbeIx) :
    (s.modProbe i f).probe j = if i = j then f (s.probe i) else s.probe j := tget_tmod _ _ _ _
@[simp] theorem State.probe_modProbe_self : (s.modProbe i f).probe i = f (s.probe i) :=
  tget_tmod_self _ _ _
theorem State.probe_modProbe_ne {j : ProbeIx} (h : i ≠ j) : (s.modProbe i f).probe j = s.probe j :=
  tget_tmod_ne _ _ h

end modProbe

section modZone

variable (s : State) (i : ZoneIx) (f : Zone → Zone)
@[simp] theorem State.modZone_mode : (s.modZone i f).mode = s.mode := rfl
@[simp] theorem State.modZone_strap : (s.modZone i f).strap = s.strap := rfl
@[simp] theorem State.modZone_count : (s.modZone i f).count = s.count := rfl
@[simp] theorem State.modZone_exposureTimer : (s.modZone i f).exposureTimer = s.exposureTimer := rfl
@[simp] theorem State.modZone_trunkReady : (s.modZone i f).trunkReady = s.trunkReady := rfl
@[simp] theorem State.modZone_fieldReady : (s.modZone i f).fieldReady = s.fieldReady := rfl
@[simp] theorem State.modZone_trunkCounters : (s.modZone i f).trunkCounters = s.trunkCounters := rfl
@[simp] theorem State.modZone_fieldCounters : (s.modZone i f).fieldCounters = s.fieldCounters := rfl
@[simp] theorem State.modZone_sequence : (s.modZone i f).sequence = s.sequence := rfl
@[simp] theorem State.modZone_run : (s.modZone i f).run = s.run := rfl
@[simp] theorem State.modZone_trunkTx : (s.modZone i f).trunkTx = s.trunkTx := rfl
@[simp] theorem State.modZone_fieldTx : (s.modZone i f).fieldTx = s.fieldTx := rfl
@[simp] theorem State.modZone_uplink : (s.modZone i f).uplink = s.uplink := rfl
@[simp] theorem State.modZone_forwarded : (s.modZone i f).forwarded = s.forwarded := rfl
@[simp] theorem State.modZone_originated : (s.modZone i f).originated = s.originated := rfl
@[simp] theorem State.modZone_answers : (s.modZone i f).answers = s.answers := rfl
@[simp] theorem State.modZone_notices : (s.modZone i f).notices = s.notices := rfl
@[simp] theorem State.modZone_lost : (s.modZone i f).lost = s.lost := rfl
@[simp] theorem State.modZone_policy : (s.modZone i f).policy = s.policy := rfl
@[simp] theorem State.modZone_classTable : (s.modZone i f).classTable = s.classTable := rfl
@[simp] theorem State.modZone_conditions : (s.modZone i f).conditions = s.conditions := rfl
@[simp] theorem State.modZone_probes : (s.modZone i f).probes = s.probes := rfl
@[simp] theorem State.modZone_docks : (s.modZone i f).docks = s.docks := rfl
@[simp] theorem State.modZone_rooms : (s.modZone i f).rooms = s.rooms := rfl
@[simp] theorem State.modZone_coils : (s.modZone i f).coils = s.coils := rfl
@[simp] theorem State.modZone_classes : (s.modZone i f).classes = s.classes := rfl
@[simp] theorem State.modZone_lanes : (s.modZone i f).lanes = s.lanes := rfl
@[simp] theorem State.modZone_pallets : (s.modZone i f).pallets = s.pallets := rfl
@[simp] theorem State.modZone_departed : (s.modZone i f).departed = s.departed := rfl
@[simp] theorem State.modZone_shuttles : (s.modZone i f).shuttles = s.shuttles := rfl
@[simp] theorem State.modZone_moves : (s.modZone i f).moves = s.moves := rfl
@[simp] theorem State.modZone_lastMove : (s.modZone i f).lastMove = s.lastMove := rfl
@[simp] theorem State.modZone_pending : (s.modZone i f).pending = s.pending := rfl
@[simp] theorem State.modZone_probe (j : ProbeIx) : (s.modZone i f).probe j = s.probe j := rfl
@[simp] theorem State.modZone_dock (j : DockIx) : (s.modZone i f).dock j = s.dock j := rfl
@[simp] theorem State.modZone_room (j : RoomIx) : (s.modZone i f).room j = s.room j := rfl
@[simp] theorem State.modZone_coil (j : CoilIx) : (s.modZone i f).coil j = s.coil j := rfl
@[simp] theorem State.modZone_lane (j : LaneIx) : (s.modZone i f).lane j = s.lane j := rfl
@[simp] theorem State.modZone_shuttle (j : ShuttleIx) : (s.modZone i f).shuttle j = s.shuttle j := rfl
@[simp] theorem State.modZone_pallet (j : PalletIx) : (s.modZone i f).pallet j = s.pallet j := rfl
@[simp] theorem State.modZone_entry (j : Fin 128) : (s.modZone i f).entry j = s.entry j := rfl
@[simp] theorem State.modZone_condition (j : Fin 64) : (s.modZone i f).condition j = s.condition j := rfl
@[simp] theorem State.modZone_cls (j : ClassIx) : (s.modZone i f).cls j = s.cls j := rfl
theorem State.zone_modZone (j : ZoneIx) :
    (s.modZone i f).zone j = if i = j then f (s.zone i) else s.zone j := tget_tmod _ _ _ _
@[simp] theorem State.zone_modZone_self : (s.modZone i f).zone i = f (s.zone i) :=
  tget_tmod_self _ _ _
theorem State.zone_modZone_ne {j : ZoneIx} (h : i ≠ j) : (s.modZone i f).zone j = s.zone j :=
  tget_tmod_ne _ _ h

end modZone

section modDock

variable (s : State) (i : DockIx) (f : Dock → Dock)
@[simp] theorem State.modDock_mode : (s.modDock i f).mode = s.mode := rfl
@[simp] theorem State.modDock_strap : (s.modDock i f).strap = s.strap := rfl
@[simp] theorem State.modDock_count : (s.modDock i f).count = s.count := rfl
@[simp] theorem State.modDock_exposureTimer : (s.modDock i f).exposureTimer = s.exposureTimer := rfl
@[simp] theorem State.modDock_trunkReady : (s.modDock i f).trunkReady = s.trunkReady := rfl
@[simp] theorem State.modDock_fieldReady : (s.modDock i f).fieldReady = s.fieldReady := rfl
@[simp] theorem State.modDock_trunkCounters : (s.modDock i f).trunkCounters = s.trunkCounters := rfl
@[simp] theorem State.modDock_fieldCounters : (s.modDock i f).fieldCounters = s.fieldCounters := rfl
@[simp] theorem State.modDock_sequence : (s.modDock i f).sequence = s.sequence := rfl
@[simp] theorem State.modDock_run : (s.modDock i f).run = s.run := rfl
@[simp] theorem State.modDock_trunkTx : (s.modDock i f).trunkTx = s.trunkTx := rfl
@[simp] theorem State.modDock_fieldTx : (s.modDock i f).fieldTx = s.fieldTx := rfl
@[simp] theorem State.modDock_uplink : (s.modDock i f).uplink = s.uplink := rfl
@[simp] theorem State.modDock_forwarded : (s.modDock i f).forwarded = s.forwarded := rfl
@[simp] theorem State.modDock_originated : (s.modDock i f).originated = s.originated := rfl
@[simp] theorem State.modDock_answers : (s.modDock i f).answers = s.answers := rfl
@[simp] theorem State.modDock_notices : (s.modDock i f).notices = s.notices := rfl
@[simp] theorem State.modDock_lost : (s.modDock i f).lost = s.lost := rfl
@[simp] theorem State.modDock_policy : (s.modDock i f).policy = s.policy := rfl
@[simp] theorem State.modDock_classTable : (s.modDock i f).classTable = s.classTable := rfl
@[simp] theorem State.modDock_conditions : (s.modDock i f).conditions = s.conditions := rfl
@[simp] theorem State.modDock_probes : (s.modDock i f).probes = s.probes := rfl
@[simp] theorem State.modDock_zones : (s.modDock i f).zones = s.zones := rfl
@[simp] theorem State.modDock_rooms : (s.modDock i f).rooms = s.rooms := rfl
@[simp] theorem State.modDock_coils : (s.modDock i f).coils = s.coils := rfl
@[simp] theorem State.modDock_classes : (s.modDock i f).classes = s.classes := rfl
@[simp] theorem State.modDock_lanes : (s.modDock i f).lanes = s.lanes := rfl
@[simp] theorem State.modDock_pallets : (s.modDock i f).pallets = s.pallets := rfl
@[simp] theorem State.modDock_departed : (s.modDock i f).departed = s.departed := rfl
@[simp] theorem State.modDock_shuttles : (s.modDock i f).shuttles = s.shuttles := rfl
@[simp] theorem State.modDock_moves : (s.modDock i f).moves = s.moves := rfl
@[simp] theorem State.modDock_lastMove : (s.modDock i f).lastMove = s.lastMove := rfl
@[simp] theorem State.modDock_pending : (s.modDock i f).pending = s.pending := rfl
@[simp] theorem State.modDock_probe (j : ProbeIx) : (s.modDock i f).probe j = s.probe j := rfl
@[simp] theorem State.modDock_zone (j : ZoneIx) : (s.modDock i f).zone j = s.zone j := rfl
@[simp] theorem State.modDock_room (j : RoomIx) : (s.modDock i f).room j = s.room j := rfl
@[simp] theorem State.modDock_coil (j : CoilIx) : (s.modDock i f).coil j = s.coil j := rfl
@[simp] theorem State.modDock_lane (j : LaneIx) : (s.modDock i f).lane j = s.lane j := rfl
@[simp] theorem State.modDock_shuttle (j : ShuttleIx) : (s.modDock i f).shuttle j = s.shuttle j := rfl
@[simp] theorem State.modDock_pallet (j : PalletIx) : (s.modDock i f).pallet j = s.pallet j := rfl
@[simp] theorem State.modDock_entry (j : Fin 128) : (s.modDock i f).entry j = s.entry j := rfl
@[simp] theorem State.modDock_condition (j : Fin 64) : (s.modDock i f).condition j = s.condition j := rfl
@[simp] theorem State.modDock_cls (j : ClassIx) : (s.modDock i f).cls j = s.cls j := rfl
theorem State.dock_modDock (j : DockIx) :
    (s.modDock i f).dock j = if i = j then f (s.dock i) else s.dock j := tget_tmod _ _ _ _
@[simp] theorem State.dock_modDock_self : (s.modDock i f).dock i = f (s.dock i) :=
  tget_tmod_self _ _ _
theorem State.dock_modDock_ne {j : DockIx} (h : i ≠ j) : (s.modDock i f).dock j = s.dock j :=
  tget_tmod_ne _ _ h

end modDock

section modRoom

variable (s : State) (i : RoomIx) (f : Room → Room)
@[simp] theorem State.modRoom_mode : (s.modRoom i f).mode = s.mode := rfl
@[simp] theorem State.modRoom_strap : (s.modRoom i f).strap = s.strap := rfl
@[simp] theorem State.modRoom_count : (s.modRoom i f).count = s.count := rfl
@[simp] theorem State.modRoom_exposureTimer : (s.modRoom i f).exposureTimer = s.exposureTimer := rfl
@[simp] theorem State.modRoom_trunkReady : (s.modRoom i f).trunkReady = s.trunkReady := rfl
@[simp] theorem State.modRoom_fieldReady : (s.modRoom i f).fieldReady = s.fieldReady := rfl
@[simp] theorem State.modRoom_trunkCounters : (s.modRoom i f).trunkCounters = s.trunkCounters := rfl
@[simp] theorem State.modRoom_fieldCounters : (s.modRoom i f).fieldCounters = s.fieldCounters := rfl
@[simp] theorem State.modRoom_sequence : (s.modRoom i f).sequence = s.sequence := rfl
@[simp] theorem State.modRoom_run : (s.modRoom i f).run = s.run := rfl
@[simp] theorem State.modRoom_trunkTx : (s.modRoom i f).trunkTx = s.trunkTx := rfl
@[simp] theorem State.modRoom_fieldTx : (s.modRoom i f).fieldTx = s.fieldTx := rfl
@[simp] theorem State.modRoom_uplink : (s.modRoom i f).uplink = s.uplink := rfl
@[simp] theorem State.modRoom_forwarded : (s.modRoom i f).forwarded = s.forwarded := rfl
@[simp] theorem State.modRoom_originated : (s.modRoom i f).originated = s.originated := rfl
@[simp] theorem State.modRoom_answers : (s.modRoom i f).answers = s.answers := rfl
@[simp] theorem State.modRoom_notices : (s.modRoom i f).notices = s.notices := rfl
@[simp] theorem State.modRoom_lost : (s.modRoom i f).lost = s.lost := rfl
@[simp] theorem State.modRoom_policy : (s.modRoom i f).policy = s.policy := rfl
@[simp] theorem State.modRoom_classTable : (s.modRoom i f).classTable = s.classTable := rfl
@[simp] theorem State.modRoom_conditions : (s.modRoom i f).conditions = s.conditions := rfl
@[simp] theorem State.modRoom_probes : (s.modRoom i f).probes = s.probes := rfl
@[simp] theorem State.modRoom_zones : (s.modRoom i f).zones = s.zones := rfl
@[simp] theorem State.modRoom_docks : (s.modRoom i f).docks = s.docks := rfl
@[simp] theorem State.modRoom_coils : (s.modRoom i f).coils = s.coils := rfl
@[simp] theorem State.modRoom_classes : (s.modRoom i f).classes = s.classes := rfl
@[simp] theorem State.modRoom_lanes : (s.modRoom i f).lanes = s.lanes := rfl
@[simp] theorem State.modRoom_pallets : (s.modRoom i f).pallets = s.pallets := rfl
@[simp] theorem State.modRoom_departed : (s.modRoom i f).departed = s.departed := rfl
@[simp] theorem State.modRoom_shuttles : (s.modRoom i f).shuttles = s.shuttles := rfl
@[simp] theorem State.modRoom_moves : (s.modRoom i f).moves = s.moves := rfl
@[simp] theorem State.modRoom_lastMove : (s.modRoom i f).lastMove = s.lastMove := rfl
@[simp] theorem State.modRoom_pending : (s.modRoom i f).pending = s.pending := rfl
@[simp] theorem State.modRoom_probe (j : ProbeIx) : (s.modRoom i f).probe j = s.probe j := rfl
@[simp] theorem State.modRoom_zone (j : ZoneIx) : (s.modRoom i f).zone j = s.zone j := rfl
@[simp] theorem State.modRoom_dock (j : DockIx) : (s.modRoom i f).dock j = s.dock j := rfl
@[simp] theorem State.modRoom_coil (j : CoilIx) : (s.modRoom i f).coil j = s.coil j := rfl
@[simp] theorem State.modRoom_lane (j : LaneIx) : (s.modRoom i f).lane j = s.lane j := rfl
@[simp] theorem State.modRoom_shuttle (j : ShuttleIx) : (s.modRoom i f).shuttle j = s.shuttle j := rfl
@[simp] theorem State.modRoom_pallet (j : PalletIx) : (s.modRoom i f).pallet j = s.pallet j := rfl
@[simp] theorem State.modRoom_entry (j : Fin 128) : (s.modRoom i f).entry j = s.entry j := rfl
@[simp] theorem State.modRoom_condition (j : Fin 64) : (s.modRoom i f).condition j = s.condition j := rfl
@[simp] theorem State.modRoom_cls (j : ClassIx) : (s.modRoom i f).cls j = s.cls j := rfl
theorem State.room_modRoom (j : RoomIx) :
    (s.modRoom i f).room j = if i = j then f (s.room i) else s.room j := tget_tmod _ _ _ _
@[simp] theorem State.room_modRoom_self : (s.modRoom i f).room i = f (s.room i) :=
  tget_tmod_self _ _ _
theorem State.room_modRoom_ne {j : RoomIx} (h : i ≠ j) : (s.modRoom i f).room j = s.room j :=
  tget_tmod_ne _ _ h

end modRoom

section modCoil

variable (s : State) (i : CoilIx) (f : Coil → Coil)
@[simp] theorem State.modCoil_mode : (s.modCoil i f).mode = s.mode := rfl
@[simp] theorem State.modCoil_strap : (s.modCoil i f).strap = s.strap := rfl
@[simp] theorem State.modCoil_count : (s.modCoil i f).count = s.count := rfl
@[simp] theorem State.modCoil_exposureTimer : (s.modCoil i f).exposureTimer = s.exposureTimer := rfl
@[simp] theorem State.modCoil_trunkReady : (s.modCoil i f).trunkReady = s.trunkReady := rfl
@[simp] theorem State.modCoil_fieldReady : (s.modCoil i f).fieldReady = s.fieldReady := rfl
@[simp] theorem State.modCoil_trunkCounters : (s.modCoil i f).trunkCounters = s.trunkCounters := rfl
@[simp] theorem State.modCoil_fieldCounters : (s.modCoil i f).fieldCounters = s.fieldCounters := rfl
@[simp] theorem State.modCoil_sequence : (s.modCoil i f).sequence = s.sequence := rfl
@[simp] theorem State.modCoil_run : (s.modCoil i f).run = s.run := rfl
@[simp] theorem State.modCoil_trunkTx : (s.modCoil i f).trunkTx = s.trunkTx := rfl
@[simp] theorem State.modCoil_fieldTx : (s.modCoil i f).fieldTx = s.fieldTx := rfl
@[simp] theorem State.modCoil_uplink : (s.modCoil i f).uplink = s.uplink := rfl
@[simp] theorem State.modCoil_forwarded : (s.modCoil i f).forwarded = s.forwarded := rfl
@[simp] theorem State.modCoil_originated : (s.modCoil i f).originated = s.originated := rfl
@[simp] theorem State.modCoil_answers : (s.modCoil i f).answers = s.answers := rfl
@[simp] theorem State.modCoil_notices : (s.modCoil i f).notices = s.notices := rfl
@[simp] theorem State.modCoil_lost : (s.modCoil i f).lost = s.lost := rfl
@[simp] theorem State.modCoil_policy : (s.modCoil i f).policy = s.policy := rfl
@[simp] theorem State.modCoil_classTable : (s.modCoil i f).classTable = s.classTable := rfl
@[simp] theorem State.modCoil_conditions : (s.modCoil i f).conditions = s.conditions := rfl
@[simp] theorem State.modCoil_probes : (s.modCoil i f).probes = s.probes := rfl
@[simp] theorem State.modCoil_zones : (s.modCoil i f).zones = s.zones := rfl
@[simp] theorem State.modCoil_docks : (s.modCoil i f).docks = s.docks := rfl
@[simp] theorem State.modCoil_rooms : (s.modCoil i f).rooms = s.rooms := rfl
@[simp] theorem State.modCoil_classes : (s.modCoil i f).classes = s.classes := rfl
@[simp] theorem State.modCoil_lanes : (s.modCoil i f).lanes = s.lanes := rfl
@[simp] theorem State.modCoil_pallets : (s.modCoil i f).pallets = s.pallets := rfl
@[simp] theorem State.modCoil_departed : (s.modCoil i f).departed = s.departed := rfl
@[simp] theorem State.modCoil_shuttles : (s.modCoil i f).shuttles = s.shuttles := rfl
@[simp] theorem State.modCoil_moves : (s.modCoil i f).moves = s.moves := rfl
@[simp] theorem State.modCoil_lastMove : (s.modCoil i f).lastMove = s.lastMove := rfl
@[simp] theorem State.modCoil_pending : (s.modCoil i f).pending = s.pending := rfl
@[simp] theorem State.modCoil_probe (j : ProbeIx) : (s.modCoil i f).probe j = s.probe j := rfl
@[simp] theorem State.modCoil_zone (j : ZoneIx) : (s.modCoil i f).zone j = s.zone j := rfl
@[simp] theorem State.modCoil_dock (j : DockIx) : (s.modCoil i f).dock j = s.dock j := rfl
@[simp] theorem State.modCoil_room (j : RoomIx) : (s.modCoil i f).room j = s.room j := rfl
@[simp] theorem State.modCoil_lane (j : LaneIx) : (s.modCoil i f).lane j = s.lane j := rfl
@[simp] theorem State.modCoil_shuttle (j : ShuttleIx) : (s.modCoil i f).shuttle j = s.shuttle j := rfl
@[simp] theorem State.modCoil_pallet (j : PalletIx) : (s.modCoil i f).pallet j = s.pallet j := rfl
@[simp] theorem State.modCoil_entry (j : Fin 128) : (s.modCoil i f).entry j = s.entry j := rfl
@[simp] theorem State.modCoil_condition (j : Fin 64) : (s.modCoil i f).condition j = s.condition j := rfl
@[simp] theorem State.modCoil_cls (j : ClassIx) : (s.modCoil i f).cls j = s.cls j := rfl
theorem State.coil_modCoil (j : CoilIx) :
    (s.modCoil i f).coil j = if i = j then f (s.coil i) else s.coil j := tget_tmod _ _ _ _
@[simp] theorem State.coil_modCoil_self : (s.modCoil i f).coil i = f (s.coil i) :=
  tget_tmod_self _ _ _
theorem State.coil_modCoil_ne {j : CoilIx} (h : i ≠ j) : (s.modCoil i f).coil j = s.coil j :=
  tget_tmod_ne _ _ h

end modCoil

section modLane

variable (s : State) (i : LaneIx) (f : Lane → Lane)
@[simp] theorem State.modLane_mode : (s.modLane i f).mode = s.mode := rfl
@[simp] theorem State.modLane_strap : (s.modLane i f).strap = s.strap := rfl
@[simp] theorem State.modLane_count : (s.modLane i f).count = s.count := rfl
@[simp] theorem State.modLane_exposureTimer : (s.modLane i f).exposureTimer = s.exposureTimer := rfl
@[simp] theorem State.modLane_trunkReady : (s.modLane i f).trunkReady = s.trunkReady := rfl
@[simp] theorem State.modLane_fieldReady : (s.modLane i f).fieldReady = s.fieldReady := rfl
@[simp] theorem State.modLane_trunkCounters : (s.modLane i f).trunkCounters = s.trunkCounters := rfl
@[simp] theorem State.modLane_fieldCounters : (s.modLane i f).fieldCounters = s.fieldCounters := rfl
@[simp] theorem State.modLane_sequence : (s.modLane i f).sequence = s.sequence := rfl
@[simp] theorem State.modLane_run : (s.modLane i f).run = s.run := rfl
@[simp] theorem State.modLane_trunkTx : (s.modLane i f).trunkTx = s.trunkTx := rfl
@[simp] theorem State.modLane_fieldTx : (s.modLane i f).fieldTx = s.fieldTx := rfl
@[simp] theorem State.modLane_uplink : (s.modLane i f).uplink = s.uplink := rfl
@[simp] theorem State.modLane_forwarded : (s.modLane i f).forwarded = s.forwarded := rfl
@[simp] theorem State.modLane_originated : (s.modLane i f).originated = s.originated := rfl
@[simp] theorem State.modLane_answers : (s.modLane i f).answers = s.answers := rfl
@[simp] theorem State.modLane_notices : (s.modLane i f).notices = s.notices := rfl
@[simp] theorem State.modLane_lost : (s.modLane i f).lost = s.lost := rfl
@[simp] theorem State.modLane_policy : (s.modLane i f).policy = s.policy := rfl
@[simp] theorem State.modLane_classTable : (s.modLane i f).classTable = s.classTable := rfl
@[simp] theorem State.modLane_conditions : (s.modLane i f).conditions = s.conditions := rfl
@[simp] theorem State.modLane_probes : (s.modLane i f).probes = s.probes := rfl
@[simp] theorem State.modLane_zones : (s.modLane i f).zones = s.zones := rfl
@[simp] theorem State.modLane_docks : (s.modLane i f).docks = s.docks := rfl
@[simp] theorem State.modLane_rooms : (s.modLane i f).rooms = s.rooms := rfl
@[simp] theorem State.modLane_coils : (s.modLane i f).coils = s.coils := rfl
@[simp] theorem State.modLane_classes : (s.modLane i f).classes = s.classes := rfl
@[simp] theorem State.modLane_pallets : (s.modLane i f).pallets = s.pallets := rfl
@[simp] theorem State.modLane_departed : (s.modLane i f).departed = s.departed := rfl
@[simp] theorem State.modLane_shuttles : (s.modLane i f).shuttles = s.shuttles := rfl
@[simp] theorem State.modLane_moves : (s.modLane i f).moves = s.moves := rfl
@[simp] theorem State.modLane_lastMove : (s.modLane i f).lastMove = s.lastMove := rfl
@[simp] theorem State.modLane_pending : (s.modLane i f).pending = s.pending := rfl
@[simp] theorem State.modLane_probe (j : ProbeIx) : (s.modLane i f).probe j = s.probe j := rfl
@[simp] theorem State.modLane_zone (j : ZoneIx) : (s.modLane i f).zone j = s.zone j := rfl
@[simp] theorem State.modLane_dock (j : DockIx) : (s.modLane i f).dock j = s.dock j := rfl
@[simp] theorem State.modLane_room (j : RoomIx) : (s.modLane i f).room j = s.room j := rfl
@[simp] theorem State.modLane_coil (j : CoilIx) : (s.modLane i f).coil j = s.coil j := rfl
@[simp] theorem State.modLane_shuttle (j : ShuttleIx) : (s.modLane i f).shuttle j = s.shuttle j := rfl
@[simp] theorem State.modLane_pallet (j : PalletIx) : (s.modLane i f).pallet j = s.pallet j := rfl
@[simp] theorem State.modLane_entry (j : Fin 128) : (s.modLane i f).entry j = s.entry j := rfl
@[simp] theorem State.modLane_condition (j : Fin 64) : (s.modLane i f).condition j = s.condition j := rfl
@[simp] theorem State.modLane_cls (j : ClassIx) : (s.modLane i f).cls j = s.cls j := rfl
theorem State.lane_modLane (j : LaneIx) :
    (s.modLane i f).lane j = if i = j then f (s.lane i) else s.lane j := tget_tmod _ _ _ _
@[simp] theorem State.lane_modLane_self : (s.modLane i f).lane i = f (s.lane i) :=
  tget_tmod_self _ _ _
theorem State.lane_modLane_ne {j : LaneIx} (h : i ≠ j) : (s.modLane i f).lane j = s.lane j :=
  tget_tmod_ne _ _ h

end modLane

section modShuttle

variable (s : State) (i : ShuttleIx) (f : Shuttle → Shuttle)
@[simp] theorem State.modShuttle_mode : (s.modShuttle i f).mode = s.mode := rfl
@[simp] theorem State.modShuttle_strap : (s.modShuttle i f).strap = s.strap := rfl
@[simp] theorem State.modShuttle_count : (s.modShuttle i f).count = s.count := rfl
@[simp] theorem State.modShuttle_exposureTimer : (s.modShuttle i f).exposureTimer = s.exposureTimer := rfl
@[simp] theorem State.modShuttle_trunkReady : (s.modShuttle i f).trunkReady = s.trunkReady := rfl
@[simp] theorem State.modShuttle_fieldReady : (s.modShuttle i f).fieldReady = s.fieldReady := rfl
@[simp] theorem State.modShuttle_trunkCounters : (s.modShuttle i f).trunkCounters = s.trunkCounters := rfl
@[simp] theorem State.modShuttle_fieldCounters : (s.modShuttle i f).fieldCounters = s.fieldCounters := rfl
@[simp] theorem State.modShuttle_sequence : (s.modShuttle i f).sequence = s.sequence := rfl
@[simp] theorem State.modShuttle_run : (s.modShuttle i f).run = s.run := rfl
@[simp] theorem State.modShuttle_trunkTx : (s.modShuttle i f).trunkTx = s.trunkTx := rfl
@[simp] theorem State.modShuttle_fieldTx : (s.modShuttle i f).fieldTx = s.fieldTx := rfl
@[simp] theorem State.modShuttle_uplink : (s.modShuttle i f).uplink = s.uplink := rfl
@[simp] theorem State.modShuttle_forwarded : (s.modShuttle i f).forwarded = s.forwarded := rfl
@[simp] theorem State.modShuttle_originated : (s.modShuttle i f).originated = s.originated := rfl
@[simp] theorem State.modShuttle_answers : (s.modShuttle i f).answers = s.answers := rfl
@[simp] theorem State.modShuttle_notices : (s.modShuttle i f).notices = s.notices := rfl
@[simp] theorem State.modShuttle_lost : (s.modShuttle i f).lost = s.lost := rfl
@[simp] theorem State.modShuttle_policy : (s.modShuttle i f).policy = s.policy := rfl
@[simp] theorem State.modShuttle_classTable : (s.modShuttle i f).classTable = s.classTable := rfl
@[simp] theorem State.modShuttle_conditions : (s.modShuttle i f).conditions = s.conditions := rfl
@[simp] theorem State.modShuttle_probes : (s.modShuttle i f).probes = s.probes := rfl
@[simp] theorem State.modShuttle_zones : (s.modShuttle i f).zones = s.zones := rfl
@[simp] theorem State.modShuttle_docks : (s.modShuttle i f).docks = s.docks := rfl
@[simp] theorem State.modShuttle_rooms : (s.modShuttle i f).rooms = s.rooms := rfl
@[simp] theorem State.modShuttle_coils : (s.modShuttle i f).coils = s.coils := rfl
@[simp] theorem State.modShuttle_classes : (s.modShuttle i f).classes = s.classes := rfl
@[simp] theorem State.modShuttle_lanes : (s.modShuttle i f).lanes = s.lanes := rfl
@[simp] theorem State.modShuttle_pallets : (s.modShuttle i f).pallets = s.pallets := rfl
@[simp] theorem State.modShuttle_departed : (s.modShuttle i f).departed = s.departed := rfl
@[simp] theorem State.modShuttle_moves : (s.modShuttle i f).moves = s.moves := rfl
@[simp] theorem State.modShuttle_lastMove : (s.modShuttle i f).lastMove = s.lastMove := rfl
@[simp] theorem State.modShuttle_pending : (s.modShuttle i f).pending = s.pending := rfl
@[simp] theorem State.modShuttle_probe (j : ProbeIx) : (s.modShuttle i f).probe j = s.probe j := rfl
@[simp] theorem State.modShuttle_zone (j : ZoneIx) : (s.modShuttle i f).zone j = s.zone j := rfl
@[simp] theorem State.modShuttle_dock (j : DockIx) : (s.modShuttle i f).dock j = s.dock j := rfl
@[simp] theorem State.modShuttle_room (j : RoomIx) : (s.modShuttle i f).room j = s.room j := rfl
@[simp] theorem State.modShuttle_coil (j : CoilIx) : (s.modShuttle i f).coil j = s.coil j := rfl
@[simp] theorem State.modShuttle_lane (j : LaneIx) : (s.modShuttle i f).lane j = s.lane j := rfl
@[simp] theorem State.modShuttle_pallet (j : PalletIx) : (s.modShuttle i f).pallet j = s.pallet j := rfl
@[simp] theorem State.modShuttle_entry (j : Fin 128) : (s.modShuttle i f).entry j = s.entry j := rfl
@[simp] theorem State.modShuttle_condition (j : Fin 64) : (s.modShuttle i f).condition j = s.condition j := rfl
@[simp] theorem State.modShuttle_cls (j : ClassIx) : (s.modShuttle i f).cls j = s.cls j := rfl
theorem State.shuttle_modShuttle (j : ShuttleIx) :
    (s.modShuttle i f).shuttle j = if i = j then f (s.shuttle i) else s.shuttle j := tget_tmod _ _ _ _
@[simp] theorem State.shuttle_modShuttle_self : (s.modShuttle i f).shuttle i = f (s.shuttle i) :=
  tget_tmod_self _ _ _
theorem State.shuttle_modShuttle_ne {j : ShuttleIx} (h : i ≠ j) : (s.modShuttle i f).shuttle j = s.shuttle j :=
  tget_tmod_ne _ _ h

end modShuttle

section modPallet

variable (s : State) (i : PalletIx) (f : Pallet → Pallet)
@[simp] theorem State.modPallet_mode : (s.modPallet i f).mode = s.mode := rfl
@[simp] theorem State.modPallet_strap : (s.modPallet i f).strap = s.strap := rfl
@[simp] theorem State.modPallet_count : (s.modPallet i f).count = s.count := rfl
@[simp] theorem State.modPallet_exposureTimer : (s.modPallet i f).exposureTimer = s.exposureTimer := rfl
@[simp] theorem State.modPallet_trunkReady : (s.modPallet i f).trunkReady = s.trunkReady := rfl
@[simp] theorem State.modPallet_fieldReady : (s.modPallet i f).fieldReady = s.fieldReady := rfl
@[simp] theorem State.modPallet_trunkCounters : (s.modPallet i f).trunkCounters = s.trunkCounters := rfl
@[simp] theorem State.modPallet_fieldCounters : (s.modPallet i f).fieldCounters = s.fieldCounters := rfl
@[simp] theorem State.modPallet_sequence : (s.modPallet i f).sequence = s.sequence := rfl
@[simp] theorem State.modPallet_run : (s.modPallet i f).run = s.run := rfl
@[simp] theorem State.modPallet_trunkTx : (s.modPallet i f).trunkTx = s.trunkTx := rfl
@[simp] theorem State.modPallet_fieldTx : (s.modPallet i f).fieldTx = s.fieldTx := rfl
@[simp] theorem State.modPallet_uplink : (s.modPallet i f).uplink = s.uplink := rfl
@[simp] theorem State.modPallet_forwarded : (s.modPallet i f).forwarded = s.forwarded := rfl
@[simp] theorem State.modPallet_originated : (s.modPallet i f).originated = s.originated := rfl
@[simp] theorem State.modPallet_answers : (s.modPallet i f).answers = s.answers := rfl
@[simp] theorem State.modPallet_notices : (s.modPallet i f).notices = s.notices := rfl
@[simp] theorem State.modPallet_lost : (s.modPallet i f).lost = s.lost := rfl
@[simp] theorem State.modPallet_policy : (s.modPallet i f).policy = s.policy := rfl
@[simp] theorem State.modPallet_classTable : (s.modPallet i f).classTable = s.classTable := rfl
@[simp] theorem State.modPallet_conditions : (s.modPallet i f).conditions = s.conditions := rfl
@[simp] theorem State.modPallet_probes : (s.modPallet i f).probes = s.probes := rfl
@[simp] theorem State.modPallet_zones : (s.modPallet i f).zones = s.zones := rfl
@[simp] theorem State.modPallet_docks : (s.modPallet i f).docks = s.docks := rfl
@[simp] theorem State.modPallet_rooms : (s.modPallet i f).rooms = s.rooms := rfl
@[simp] theorem State.modPallet_coils : (s.modPallet i f).coils = s.coils := rfl
@[simp] theorem State.modPallet_classes : (s.modPallet i f).classes = s.classes := rfl
@[simp] theorem State.modPallet_lanes : (s.modPallet i f).lanes = s.lanes := rfl
@[simp] theorem State.modPallet_departed : (s.modPallet i f).departed = s.departed := rfl
@[simp] theorem State.modPallet_shuttles : (s.modPallet i f).shuttles = s.shuttles := rfl
@[simp] theorem State.modPallet_moves : (s.modPallet i f).moves = s.moves := rfl
@[simp] theorem State.modPallet_lastMove : (s.modPallet i f).lastMove = s.lastMove := rfl
@[simp] theorem State.modPallet_pending : (s.modPallet i f).pending = s.pending := rfl
@[simp] theorem State.modPallet_probe (j : ProbeIx) : (s.modPallet i f).probe j = s.probe j := rfl
@[simp] theorem State.modPallet_zone (j : ZoneIx) : (s.modPallet i f).zone j = s.zone j := rfl
@[simp] theorem State.modPallet_dock (j : DockIx) : (s.modPallet i f).dock j = s.dock j := rfl
@[simp] theorem State.modPallet_room (j : RoomIx) : (s.modPallet i f).room j = s.room j := rfl
@[simp] theorem State.modPallet_coil (j : CoilIx) : (s.modPallet i f).coil j = s.coil j := rfl
@[simp] theorem State.modPallet_lane (j : LaneIx) : (s.modPallet i f).lane j = s.lane j := rfl
@[simp] theorem State.modPallet_shuttle (j : ShuttleIx) : (s.modPallet i f).shuttle j = s.shuttle j := rfl
@[simp] theorem State.modPallet_entry (j : Fin 128) : (s.modPallet i f).entry j = s.entry j := rfl
@[simp] theorem State.modPallet_condition (j : Fin 64) : (s.modPallet i f).condition j = s.condition j := rfl
@[simp] theorem State.modPallet_cls (j : ClassIx) : (s.modPallet i f).cls j = s.cls j := rfl
theorem State.pallet_modPallet (j : PalletIx) :
    (s.modPallet i f).pallet j = if i = j then (Option.map f) (s.pallet i) else s.pallet j := tget_tmod _ _ _ _
@[simp] theorem State.pallet_modPallet_self : (s.modPallet i f).pallet i = (s.pallet i).map f :=
  tget_tmod_self _ _ _
theorem State.pallet_modPallet_ne {j : PalletIx} (h : i ≠ j) : (s.modPallet i f).pallet j = s.pallet j :=
  tget_tmod_ne _ _ h

end modPallet

section modEntry

variable (s : State) (i : Fin 128) (f : ClassEntry → ClassEntry)
@[simp] theorem State.modEntry_mode : (s.modEntry i f).mode = s.mode := rfl
@[simp] theorem State.modEntry_strap : (s.modEntry i f).strap = s.strap := rfl
@[simp] theorem State.modEntry_count : (s.modEntry i f).count = s.count := rfl
@[simp] theorem State.modEntry_exposureTimer : (s.modEntry i f).exposureTimer = s.exposureTimer := rfl
@[simp] theorem State.modEntry_trunkReady : (s.modEntry i f).trunkReady = s.trunkReady := rfl
@[simp] theorem State.modEntry_fieldReady : (s.modEntry i f).fieldReady = s.fieldReady := rfl
@[simp] theorem State.modEntry_trunkCounters : (s.modEntry i f).trunkCounters = s.trunkCounters := rfl
@[simp] theorem State.modEntry_fieldCounters : (s.modEntry i f).fieldCounters = s.fieldCounters := rfl
@[simp] theorem State.modEntry_sequence : (s.modEntry i f).sequence = s.sequence := rfl
@[simp] theorem State.modEntry_run : (s.modEntry i f).run = s.run := rfl
@[simp] theorem State.modEntry_trunkTx : (s.modEntry i f).trunkTx = s.trunkTx := rfl
@[simp] theorem State.modEntry_fieldTx : (s.modEntry i f).fieldTx = s.fieldTx := rfl
@[simp] theorem State.modEntry_uplink : (s.modEntry i f).uplink = s.uplink := rfl
@[simp] theorem State.modEntry_forwarded : (s.modEntry i f).forwarded = s.forwarded := rfl
@[simp] theorem State.modEntry_originated : (s.modEntry i f).originated = s.originated := rfl
@[simp] theorem State.modEntry_answers : (s.modEntry i f).answers = s.answers := rfl
@[simp] theorem State.modEntry_notices : (s.modEntry i f).notices = s.notices := rfl
@[simp] theorem State.modEntry_lost : (s.modEntry i f).lost = s.lost := rfl
@[simp] theorem State.modEntry_policy : (s.modEntry i f).policy = s.policy := rfl
@[simp] theorem State.modEntry_conditions : (s.modEntry i f).conditions = s.conditions := rfl
@[simp] theorem State.modEntry_probes : (s.modEntry i f).probes = s.probes := rfl
@[simp] theorem State.modEntry_zones : (s.modEntry i f).zones = s.zones := rfl
@[simp] theorem State.modEntry_docks : (s.modEntry i f).docks = s.docks := rfl
@[simp] theorem State.modEntry_rooms : (s.modEntry i f).rooms = s.rooms := rfl
@[simp] theorem State.modEntry_coils : (s.modEntry i f).coils = s.coils := rfl
@[simp] theorem State.modEntry_classes : (s.modEntry i f).classes = s.classes := rfl
@[simp] theorem State.modEntry_lanes : (s.modEntry i f).lanes = s.lanes := rfl
@[simp] theorem State.modEntry_pallets : (s.modEntry i f).pallets = s.pallets := rfl
@[simp] theorem State.modEntry_departed : (s.modEntry i f).departed = s.departed := rfl
@[simp] theorem State.modEntry_shuttles : (s.modEntry i f).shuttles = s.shuttles := rfl
@[simp] theorem State.modEntry_moves : (s.modEntry i f).moves = s.moves := rfl
@[simp] theorem State.modEntry_lastMove : (s.modEntry i f).lastMove = s.lastMove := rfl
@[simp] theorem State.modEntry_pending : (s.modEntry i f).pending = s.pending := rfl
@[simp] theorem State.modEntry_probe (j : ProbeIx) : (s.modEntry i f).probe j = s.probe j := rfl
@[simp] theorem State.modEntry_zone (j : ZoneIx) : (s.modEntry i f).zone j = s.zone j := rfl
@[simp] theorem State.modEntry_dock (j : DockIx) : (s.modEntry i f).dock j = s.dock j := rfl
@[simp] theorem State.modEntry_room (j : RoomIx) : (s.modEntry i f).room j = s.room j := rfl
@[simp] theorem State.modEntry_coil (j : CoilIx) : (s.modEntry i f).coil j = s.coil j := rfl
@[simp] theorem State.modEntry_lane (j : LaneIx) : (s.modEntry i f).lane j = s.lane j := rfl
@[simp] theorem State.modEntry_shuttle (j : ShuttleIx) : (s.modEntry i f).shuttle j = s.shuttle j := rfl
@[simp] theorem State.modEntry_pallet (j : PalletIx) : (s.modEntry i f).pallet j = s.pallet j := rfl
@[simp] theorem State.modEntry_condition (j : Fin 64) : (s.modEntry i f).condition j = s.condition j := rfl
@[simp] theorem State.modEntry_cls (j : ClassIx) : (s.modEntry i f).cls j = s.cls j := rfl
theorem State.entry_modEntry (j : Fin 128) :
    (s.modEntry i f).entry j = if i = j then f (s.entry i) else s.entry j := tget_tmod _ _ _ _
@[simp] theorem State.entry_modEntry_self : (s.modEntry i f).entry i = f (s.entry i) :=
  tget_tmod_self _ _ _
theorem State.entry_modEntry_ne {j : Fin 128} (h : i ≠ j) : (s.modEntry i f).entry j = s.entry j :=
  tget_tmod_ne _ _ h

end modEntry

section modCondition

variable (s : State) (i : Fin 64) (f : Condition → Condition)
@[simp] theorem State.modCondition_mode : (s.modCondition i f).mode = s.mode := rfl
@[simp] theorem State.modCondition_strap : (s.modCondition i f).strap = s.strap := rfl
@[simp] theorem State.modCondition_count : (s.modCondition i f).count = s.count := rfl
@[simp] theorem State.modCondition_exposureTimer : (s.modCondition i f).exposureTimer = s.exposureTimer := rfl
@[simp] theorem State.modCondition_trunkReady : (s.modCondition i f).trunkReady = s.trunkReady := rfl
@[simp] theorem State.modCondition_fieldReady : (s.modCondition i f).fieldReady = s.fieldReady := rfl
@[simp] theorem State.modCondition_trunkCounters : (s.modCondition i f).trunkCounters = s.trunkCounters := rfl
@[simp] theorem State.modCondition_fieldCounters : (s.modCondition i f).fieldCounters = s.fieldCounters := rfl
@[simp] theorem State.modCondition_sequence : (s.modCondition i f).sequence = s.sequence := rfl
@[simp] theorem State.modCondition_run : (s.modCondition i f).run = s.run := rfl
@[simp] theorem State.modCondition_trunkTx : (s.modCondition i f).trunkTx = s.trunkTx := rfl
@[simp] theorem State.modCondition_fieldTx : (s.modCondition i f).fieldTx = s.fieldTx := rfl
@[simp] theorem State.modCondition_uplink : (s.modCondition i f).uplink = s.uplink := rfl
@[simp] theorem State.modCondition_forwarded : (s.modCondition i f).forwarded = s.forwarded := rfl
@[simp] theorem State.modCondition_originated : (s.modCondition i f).originated = s.originated := rfl
@[simp] theorem State.modCondition_answers : (s.modCondition i f).answers = s.answers := rfl
@[simp] theorem State.modCondition_notices : (s.modCondition i f).notices = s.notices := rfl
@[simp] theorem State.modCondition_lost : (s.modCondition i f).lost = s.lost := rfl
@[simp] theorem State.modCondition_policy : (s.modCondition i f).policy = s.policy := rfl
@[simp] theorem State.modCondition_classTable : (s.modCondition i f).classTable = s.classTable := rfl
@[simp] theorem State.modCondition_probes : (s.modCondition i f).probes = s.probes := rfl
@[simp] theorem State.modCondition_zones : (s.modCondition i f).zones = s.zones := rfl
@[simp] theorem State.modCondition_docks : (s.modCondition i f).docks = s.docks := rfl
@[simp] theorem State.modCondition_rooms : (s.modCondition i f).rooms = s.rooms := rfl
@[simp] theorem State.modCondition_coils : (s.modCondition i f).coils = s.coils := rfl
@[simp] theorem State.modCondition_classes : (s.modCondition i f).classes = s.classes := rfl
@[simp] theorem State.modCondition_lanes : (s.modCondition i f).lanes = s.lanes := rfl
@[simp] theorem State.modCondition_pallets : (s.modCondition i f).pallets = s.pallets := rfl
@[simp] theorem State.modCondition_departed : (s.modCondition i f).departed = s.departed := rfl
@[simp] theorem State.modCondition_shuttles : (s.modCondition i f).shuttles = s.shuttles := rfl
@[simp] theorem State.modCondition_moves : (s.modCondition i f).moves = s.moves := rfl
@[simp] theorem State.modCondition_lastMove : (s.modCondition i f).lastMove = s.lastMove := rfl
@[simp] theorem State.modCondition_pending : (s.modCondition i f).pending = s.pending := rfl
@[simp] theorem State.modCondition_probe (j : ProbeIx) : (s.modCondition i f).probe j = s.probe j := rfl
@[simp] theorem State.modCondition_zone (j : ZoneIx) : (s.modCondition i f).zone j = s.zone j := rfl
@[simp] theorem State.modCondition_dock (j : DockIx) : (s.modCondition i f).dock j = s.dock j := rfl
@[simp] theorem State.modCondition_room (j : RoomIx) : (s.modCondition i f).room j = s.room j := rfl
@[simp] theorem State.modCondition_coil (j : CoilIx) : (s.modCondition i f).coil j = s.coil j := rfl
@[simp] theorem State.modCondition_lane (j : LaneIx) : (s.modCondition i f).lane j = s.lane j := rfl
@[simp] theorem State.modCondition_shuttle (j : ShuttleIx) : (s.modCondition i f).shuttle j = s.shuttle j := rfl
@[simp] theorem State.modCondition_pallet (j : PalletIx) : (s.modCondition i f).pallet j = s.pallet j := rfl
@[simp] theorem State.modCondition_entry (j : Fin 128) : (s.modCondition i f).entry j = s.entry j := rfl
@[simp] theorem State.modCondition_cls (j : ClassIx) : (s.modCondition i f).cls j = s.cls j := rfl
theorem State.condition_modCondition (j : Fin 64) :
    (s.modCondition i f).condition j = if i = j then f (s.condition i) else s.condition j := tget_tmod _ _ _ _
@[simp] theorem State.condition_modCondition_self : (s.modCondition i f).condition i = f (s.condition i) :=
  tget_tmod_self _ _ _
theorem State.condition_modCondition_ne {j : Fin 64} (h : i ≠ j) : (s.modCondition i f).condition j = s.condition j :=
  tget_tmod_ne _ _ h

end modCondition

section modMove

variable (s : State) (i : MoveId) (f : Move → Move)
@[simp] theorem State.modMove_mode : (s.modMove i f).mode = s.mode := rfl
@[simp] theorem State.modMove_strap : (s.modMove i f).strap = s.strap := rfl
@[simp] theorem State.modMove_count : (s.modMove i f).count = s.count := rfl
@[simp] theorem State.modMove_exposureTimer : (s.modMove i f).exposureTimer = s.exposureTimer := rfl
@[simp] theorem State.modMove_trunkReady : (s.modMove i f).trunkReady = s.trunkReady := rfl
@[simp] theorem State.modMove_fieldReady : (s.modMove i f).fieldReady = s.fieldReady := rfl
@[simp] theorem State.modMove_trunkCounters : (s.modMove i f).trunkCounters = s.trunkCounters := rfl
@[simp] theorem State.modMove_fieldCounters : (s.modMove i f).fieldCounters = s.fieldCounters := rfl
@[simp] theorem State.modMove_sequence : (s.modMove i f).sequence = s.sequence := rfl
@[simp] theorem State.modMove_run : (s.modMove i f).run = s.run := rfl
@[simp] theorem State.modMove_trunkTx : (s.modMove i f).trunkTx = s.trunkTx := rfl
@[simp] theorem State.modMove_fieldTx : (s.modMove i f).fieldTx = s.fieldTx := rfl
@[simp] theorem State.modMove_uplink : (s.modMove i f).uplink = s.uplink := rfl
@[simp] theorem State.modMove_forwarded : (s.modMove i f).forwarded = s.forwarded := rfl
@[simp] theorem State.modMove_originated : (s.modMove i f).originated = s.originated := rfl
@[simp] theorem State.modMove_answers : (s.modMove i f).answers = s.answers := rfl
@[simp] theorem State.modMove_notices : (s.modMove i f).notices = s.notices := rfl
@[simp] theorem State.modMove_lost : (s.modMove i f).lost = s.lost := rfl
@[simp] theorem State.modMove_policy : (s.modMove i f).policy = s.policy := rfl
@[simp] theorem State.modMove_classTable : (s.modMove i f).classTable = s.classTable := rfl
@[simp] theorem State.modMove_conditions : (s.modMove i f).conditions = s.conditions := rfl
@[simp] theorem State.modMove_probes : (s.modMove i f).probes = s.probes := rfl
@[simp] theorem State.modMove_zones : (s.modMove i f).zones = s.zones := rfl
@[simp] theorem State.modMove_docks : (s.modMove i f).docks = s.docks := rfl
@[simp] theorem State.modMove_rooms : (s.modMove i f).rooms = s.rooms := rfl
@[simp] theorem State.modMove_coils : (s.modMove i f).coils = s.coils := rfl
@[simp] theorem State.modMove_classes : (s.modMove i f).classes = s.classes := rfl
@[simp] theorem State.modMove_lanes : (s.modMove i f).lanes = s.lanes := rfl
@[simp] theorem State.modMove_pallets : (s.modMove i f).pallets = s.pallets := rfl
@[simp] theorem State.modMove_departed : (s.modMove i f).departed = s.departed := rfl
@[simp] theorem State.modMove_shuttles : (s.modMove i f).shuttles = s.shuttles := rfl
@[simp] theorem State.modMove_lastMove : (s.modMove i f).lastMove = s.lastMove := rfl
@[simp] theorem State.modMove_pending : (s.modMove i f).pending = s.pending := rfl
@[simp] theorem State.modMove_probe (j : ProbeIx) : (s.modMove i f).probe j = s.probe j := rfl
@[simp] theorem State.modMove_zone (j : ZoneIx) : (s.modMove i f).zone j = s.zone j := rfl
@[simp] theorem State.modMove_dock (j : DockIx) : (s.modMove i f).dock j = s.dock j := rfl
@[simp] theorem State.modMove_room (j : RoomIx) : (s.modMove i f).room j = s.room j := rfl
@[simp] theorem State.modMove_coil (j : CoilIx) : (s.modMove i f).coil j = s.coil j := rfl
@[simp] theorem State.modMove_lane (j : LaneIx) : (s.modMove i f).lane j = s.lane j := rfl
@[simp] theorem State.modMove_shuttle (j : ShuttleIx) : (s.modMove i f).shuttle j = s.shuttle j := rfl
@[simp] theorem State.modMove_pallet (j : PalletIx) : (s.modMove i f).pallet j = s.pallet j := rfl
@[simp] theorem State.modMove_entry (j : Fin 128) : (s.modMove i f).entry j = s.entry j := rfl
@[simp] theorem State.modMove_condition (j : Fin 64) : (s.modMove i f).condition j = s.condition j := rfl
@[simp] theorem State.modMove_cls (j : ClassIx) : (s.modMove i f).cls j = s.cls j := rfl

/-- Two changes of one record that keep its identifier are one change. -/
theorem State.modMove_modMove (g : Move → Move) (h : ∀ r, (f r).id = r.id) :
    (s.modMove i f).modMove i g = s.modMove i fun r => g (f r) := by
  unfold State.modMove
  simp only [List.map_map]
  congr 1
  refine List.map_congr_left fun r _ => ?_
  by_cases e : r.id = i <;> simp [e, h]

/-- Reading a record after a change of one that keeps its identifier. -/
theorem State.move?_modMove (j : MoveId) (h : ∀ r, (f r).id = r.id) :
    (s.modMove i f).move? j = (s.move? j).map fun r => if r.id = i then f r else r := by
  have e : ((fun r : Move => r.id == j) ∘ fun r => if r.id = i then f r else r) = fun r => r.id == j := by
    funext r
    by_cases e : r.id = i <;> simp [e, h]
  simp only [State.move?, State.modMove, beq_iff_eq, List.find?_map, e]

end modMove

end Sys2Proof.Machine
end

