-- ==== Sys2Proof/Laws/Ports.lean ====
section
/-! SUPPORT. What each operation of the ports and of the notice unit can do, said once: the arbiters take from their
queues and touch nothing else, and every join keeps the bounds of R9 to R12, R162 and R169. -/

namespace Sys2Proof.Machine

/-! ## What every operation of the ports keeps -/

/-- The bounds and rules of the ports, kept from one state to the next, with no reply added. -/
structure PortsKept (s t : State) : Prop where
  queues : QueuesBounded s → QueuesBounded t
  replies : replyCount t ≤ replyCount s
  notices : NoticesDistinct s → NoticesDistinct t
  trunk : s.trunkCounters.inRange → t.trunkCounters.inRange
  field : s.fieldCounters.inRange → t.fieldCounters.inRange
  serve : TransmittersServe s → TransmittersServe t

theorem PortsKept.refl (s : State) : PortsKept s s :=
  ⟨id, le_refl _, id, id, id, id⟩

theorem PortsKept.trans {a b c : State} (h : PortsKept a b) (k : PortsKept b c) : PortsKept a c :=
  ⟨k.queues ∘ h.queues, k.replies.trans h.replies, k.notices ∘ h.notices, k.trunk ∘ h.trunk,
    k.field ∘ h.field, k.serve ∘ h.serve⟩

/-- The fields the ports and the notice unit own are the same in both states. -/
structure SamePorts (s t : State) : Prop where
  trunkCounters : t.trunkCounters = s.trunkCounters
  fieldCounters : t.fieldCounters = s.fieldCounters
  run : t.run = s.run
  trunkTx : t.trunkTx = s.trunkTx
  fieldTx : t.fieldTx = s.fieldTx
  uplink : t.uplink = s.uplink
  forwarded : t.forwarded = s.forwarded
  originated : t.originated = s.originated
  answers : t.answers = s.answers
  notices : t.notices = s.notices

theorem SamePorts.kept {s t : State} (h : SamePorts s t) : PortsKept s t where
  queues q := by
    refine ⟨?_, ?_, ?_, ?_, ?_, ?_, ?_⟩
    · rw [h.uplink]; exact q.uplink
    · rw [h.forwarded]; exact q.forwarded
    · have := q.refusals; simp only [refusalCount] at this ⊢; rwa [h.answers]
    · have := q.replies; simp only [replyCount] at this ⊢; rwa [h.answers]
    · rw [h.notices]; exact q.notices
    · rw [h.originated]; exact q.originated
    · rw [h.run]; exact q.run
  replies := by simp [replyCount, h.answers]
  notices n := by simp only [NoticesDistinct] at n ⊢; rwa [h.notices]
  trunk c := by rwa [h.trunkCounters]
  field c := by rwa [h.fieldCounters]
  serve v :=
    ⟨fun e => by rw [h.answers, h.notices, h.uplink]; exact v.trunk (h.trunkTx ▸ e),
      fun e => by rw [h.originated, h.forwarded]; exact v.field (h.fieldTx ▸ e)⟩

/-- The fields that no operation of the ports or of the notice unit touches. -/
structure SameUnits (s t : State) : Prop where
  mode : t.mode = s.mode
  strap : t.strap = s.strap
  count : t.count = s.count
  exposureTimer : t.exposureTimer = s.exposureTimer
  trunkReady : t.trunkReady = s.trunkReady
  fieldReady : t.fieldReady = s.fieldReady
  policy : t.policy = s.policy
  classTable : t.classTable = s.classTable
  conditions : t.conditions = s.conditions
  probes : t.probes = s.probes
  zones : t.zones = s.zones
  docks : t.docks = s.docks
  rooms : t.rooms = s.rooms
  coils : t.coils = s.coils
  classes : t.classes = s.classes
  lanes : t.lanes = s.lanes
  pallets : t.pallets = s.pallets
  departed : t.departed = s.departed
  shuttles : t.shuttles = s.shuttles
  moves : t.moves = s.moves
  lastMove : t.lastMove = s.lastMove
  pending : t.pending = s.pending

theorem SameUnits.refl (s : State) : SameUnits s s := by constructor <;> rfl

theorem SameUnits.trans {a b c : State} (h : SameUnits a b) (k : SameUnits b c) : SameUnits a c :=
  ⟨k.mode.trans h.mode, k.strap.trans h.strap, k.count.trans h.count,
    k.exposureTimer.trans h.exposureTimer, k.trunkReady.trans h.trunkReady,
    k.fieldReady.trans h.fieldReady, k.policy.trans h.policy, k.classTable.trans h.classTable,
    k.conditions.trans h.conditions, k.probes.trans h.probes, k.zones.trans h.zones,
    k.docks.trans h.docks, k.rooms.trans h.rooms, k.coils.trans h.coils, k.classes.trans h.classes,
    k.lanes.trans h.lanes, k.pallets.trans h.pallets, k.departed.trans h.departed,
    k.shuttles.trans h.shuttles, k.moves.trans h.moves, k.lastMove.trans h.lastMove,
    k.pending.trans h.pending⟩

/-- An operation of the ports or of the notice unit: it keeps their rules and touches nothing else. -/
structure PortStep (s t : State) : Prop where
  kept : PortsKept s t
  units : SameUnits s t

theorem PortStep.refl (s : State) : PortStep s s := ⟨PortsKept.refl s, SameUnits.refl s⟩

theorem PortStep.trans {a b c : State} (h : PortStep a b) (k : PortStep b c) : PortStep a c :=
  ⟨h.kept.trans k.kept, h.units.trans k.units⟩

/-! ## Counters (R6) -/

theorem Counters.inRange_raise (k : CounterName) (c : Counters) (h : c.inRange) : (c.raise k).inRange := by
  obtain ⟨h1, h2, h3, h4, h5, h6⟩ := h
  cases k <;> simp [Counters.raise, Counters.inRange, satAdd, Config.countTop] <;> omega

theorem countEvent_portStep (p : Port) (k : CounterName) (s : State) : PortStep s (countEvent p k s) := by
  cases p <;>
  · refine ⟨⟨fun q => ⟨q.uplink, q.forwarded, q.refusals, q.replies, q.notices, q.originated, q.run⟩,
      le_refl _, id, ?_, ?_, fun v => ⟨v.trunk, v.field⟩⟩, by constructor <;> rfl⟩
    · intro h; first | exact Counters.inRange_raise _ _ h | exact h
    · intro h; first | exact Counters.inRange_raise _ _ h | exact h

/-! ## The trunk arbiter (R14) -/

/-- What a choice of the trunk arbiter does to the queues: it takes from them and adds nothing. -/
structure TrunkTaken (s t : State) : Prop where
  uplink : t.uplink.Sublist s.uplink
  answers : t.answers.Sublist s.answers
  notices : t.notices.Sublist s.notices
  run : s.run ≤ 4 → t.run ≤ 4
  trunkCounters : t.trunkCounters = s.trunkCounters
  fieldCounters : t.fieldCounters = s.fieldCounters
  fieldTx : t.fieldTx = s.fieldTx
  forwarded : t.forwarded = s.forwarded
  originated : t.originated = s.originated

theorem TrunkTaken.refl (s : State) : TrunkTaken s s :=
  ⟨List.Sublist.refl _, List.Sublist.refl _, List.Sublist.refl _, id, rfl, rfl, rfl, rfl, rfl⟩

theorem sendNotice_taken (n : Notice) (s : State) : TrunkTaken s (sendNotice n s) :=
  ⟨List.Sublist.refl _, List.Sublist.refl _, List.eraseP_sublist, fun _ => Nat.zero_le _, rfl, rfl, rfl,
    rfl, rfl⟩

theorem trunkForwardStep_taken (s : State) : TrunkTaken s (trunkForwardStep s) := by
  unfold trunkForwardStep
  split
  · rename_i f rest h
    refine ⟨?_, List.Sublist.refl _, List.Sublist.refl _, fun _ => Nat.min_le_left _ _, rfl, rfl, rfl, rfl,
      rfl⟩
    rw [h]; exact List.sublist_cons_self _ _
  · split
    · exact sendNotice_taken _ _
    · exact TrunkTaken.refl s

theorem trunkChoose_taken (s : State) : TrunkTaken s (trunkChoose s) := by
  unfold trunkChoose
  split
  · rename_i a rest h
    refine ⟨List.Sublist.refl _, ?_, List.Sublist.refl _, fun _ => Nat.zero_le _, rfl, rfl, rfl, rfl, rfl⟩
    rw [h]; exact List.sublist_cons_self _ _
  · split
    · exact sendNotice_taken _ _
    · split
      · split
        · exact sendNotice_taken _ _
        · exact trunkForwardStep_taken s
      · exact trunkForwardStep_taken s

theorem sendNotice_units (n : Notice) (s : State) : SameUnits s (sendNotice n s) := by constructor <;> rfl

theorem trunkForwardStep_units (s : State) : SameUnits s (trunkForwardStep s) := by
  unfold trunkForwardStep
  split
  · constructor <;> rfl
  · split
    · exact sendNotice_units _ _
    · exact SameUnits.refl s

theorem trunkChoose_units (s : State) : SameUnits s (trunkChoose s) := by
  unfold trunkChoose
  split
  · constructor <;> rfl
  · split
    · exact sendNotice_units _ _
    · split
      · split
        · exact sendNotice_units _ _
        · exact trunkForwardStep_units s
      · exact trunkForwardStep_units s

/-- An idle arbiter that chooses and stays idle had nothing to choose from. -/
theorem trunkForwardStep_idle (s : State) (h : (trunkForwardStep s).trunkTx = none) :
    s.uplink = [] ∧ s.notices.find? (fun n => !n.isAlarm) = none ∧ trunkForwardStep s = s := by
  unfold trunkForwardStep at h ⊢
  split at h
  · simp at h
  · split at h
    · simp [sendNotice] at h
    · rename_i hu _ hn
      simp [hu, hn]

theorem trunkChoose_idle (s : State) (h : (trunkChoose s).trunkTx = none) :
    s.answers = [] ∧ s.notices = [] ∧ s.uplink = [] ∧ trunkChoose s = s := by
  unfold trunkChoose at h ⊢
  split at h
  · simp at h
  · rename_i ha
    split at h
    · simp [sendNotice] at h
    · rename_i hal
      have key : ∀ hf : (trunkForwardStep s).trunkTx = none,
          s.notices = [] ∧ s.uplink = [] ∧ trunkForwardStep s = s := by
        intro hf
        obtain ⟨hu, hn, he⟩ := trunkForwardStep_idle s hf
        refine ⟨?_, hu, he⟩
        cases hq : s.notices with
        | nil => rfl
        | cons n q =>
          rw [hq] at hal hn
          have h1 := List.find?_eq_none.mp hal n (by simp)
          have h2 := List.find?_eq_none.mp hn n (by simp)
          simp [Notice.isAlarm] at h1 h2
          exact absurd h2 h1
      split at h
      · split at h
        · simp [sendNotice] at h
        · rename_i hr _ hn
          obtain ⟨h1, h2, h3⟩ := key h
          simp [ha, h1, h2, hr, h3]
      · rename_i hr
        obtain ⟨h1, h2, h3⟩ := key h
        simp [ha, h1, h2, hr, h3]

theorem TrunkTaken.kept {s t : State} (h : TrunkTaken s t)
    (serve : TransmittersServe s → TransmittersServe t) : PortsKept s t where
  queues q := by
    refine ⟨h.uplink.length_le.trans q.uplink, by rw [h.forwarded]; exact q.forwarded, ?_, ?_,
      h.notices.length_le.trans q.notices, by rw [h.originated]; exact q.originated, h.run q.run⟩
    · exact (h.answers.filter _).length_le.trans q.refusals
    · exact (h.answers.filter _).length_le.trans q.replies
  replies := (h.answers.filter _).length_le
  notices n := n.sublist (h.notices.map _)
  trunk c := by rwa [h.trunkCounters]
  field c := by rwa [h.fieldCounters]
  serve := serve

/-- A choice made whatever the trunk transmitter was doing: afterwards the trunk port serves its queues. -/
theorem trunkChoose_serve (s : State) (f : s.fieldTx = none → s.originated = [] ∧ s.forwarded = []) :
    TransmittersServe (trunkChoose s) := by
  have t := trunkChoose_taken s
  refine ⟨fun h => ?_, fun h => ?_⟩
  · obtain ⟨h1, h2, h3, h4⟩ := trunkChoose_idle s h
    rw [h4]; exact ⟨h1, h2, h3⟩
  · rw [t.originated, t.forwarded]; exact f (t.fieldTx ▸ h)

theorem trunkChoose_portStep (s : State) : PortStep s (trunkChoose s) :=
  ⟨(trunkChoose_taken s).kept fun v => trunkChoose_serve s v.field, trunkChoose_units s⟩

/-- What a frame's join and the choice that may follow keep: the choice takes from the longer queues. -/
theorem kickTrunk_taken (s : State) : TrunkTaken s (kickTrunk s) := by
  unfold kickTrunk
  split
  · exact TrunkTaken.refl s
  · exact trunkChoose_taken s

theorem kickTrunk_units (s : State) : SameUnits s (kickTrunk s) := by
  unfold kickTrunk
  split
  · exact SameUnits.refl s
  · exact trunkChoose_units s

theorem kickTrunk_serve (s : State) (f : s.fieldTx = none → s.originated = [] ∧ s.forwarded = []) :
    TransmittersServe (kickTrunk s) := by
  unfold kickTrunk
  split
  · rename_i x h
    exact ⟨fun e => by simp [h] at e, f⟩
  · exact trunkChoose_serve s f

/-! ## The field arbiter (R13) -/

theorem fieldChoose_units (s : State) : SameUnits s (fieldChoose s) := by
  unfold fieldChoose
  split
  · constructor <;> rfl
  · split
    · constructor <;> rfl
    · exact SameUnits.refl s

/-- What a choice of the field arbiter does to its shares: it takes from them and adds nothing. -/
structure FieldTaken (s t : State) : Prop where
  forwarded : t.forwarded.Sublist s.forwarded
  originated : t.originated.Sublist s.originated
  uplink : t.uplink = s.uplink
  answers : t.answers = s.answers
  notices : t.notices = s.notices
  run : t.run = s.run
  trunkTx : t.trunkTx = s.trunkTx
  trunkCounters : t.trunkCounters = s.trunkCounters
  fieldCounters : t.fieldCounters = s.fieldCounters

theorem FieldTaken.refl (s : State) : FieldTaken s s :=
  ⟨List.Sublist.refl _, List.Sublist.refl _, rfl, rfl, rfl, rfl, rfl, rfl, rfl⟩

theorem fieldChoose_taken (s : State) : FieldTaken s (fieldChoose s) := by
  unfold fieldChoose
  split
  · rename_i o rest h
    refine ⟨List.Sublist.refl _, ?_, rfl, rfl, rfl, rfl, rfl, rfl, rfl⟩
    rw [h]; exact List.sublist_cons_self _ _
  · split
    · rename_i f rest h
      refine ⟨?_, List.Sublist.refl _, rfl, rfl, rfl, rfl, rfl, rfl, rfl⟩
      rw [h]; exact List.sublist_cons_self _ _
    · exact FieldTaken.refl s

theorem FieldTaken.kept {s t : State} (h : FieldTaken s t)
    (serve : TransmittersServe s → TransmittersServe t) : PortsKept s t where
  queues q := by
    refine ⟨by rw [h.uplink]; exact q.uplink, h.forwarded.length_le.trans q.forwarded, ?_, ?_,
      by rw [h.notices]; exact q.notices, q.originated.sublist (h.originated.map _),
      by rw [h.run]; exact q.run⟩
    · have := q.refusals; simp only [refusalCount] at this ⊢; rwa [h.answers]
    · have := q.replies; simp only [replyCount] at this ⊢; rwa [h.answers]
  replies := by simp [replyCount, h.answers]
  notices n := by simp only [NoticesDistinct] at n ⊢; rwa [h.notices]
  trunk c := by rwa [h.trunkCounters]
  field c := by rwa [h.fieldCounters]
  serve := serve

theorem fieldChoose_serve (s : State)
    (f : s.trunkTx = none → s.answers = [] ∧ s.notices = [] ∧ s.uplink = []) :
    TransmittersServe (fieldChoose s) := by
  have t := fieldChoose_taken s
  refine ⟨fun h => ?_, fun h => ?_⟩
  · rw [t.answers, t.notices, t.uplink]; exact f (t.trunkTx ▸ h)
  · unfold fieldChoose at h ⊢
    split at h
    · simp at h
    · split at h
      · simp at h
      · rename_i ho _ hf
        simp [ho, hf]

theorem fieldChoose_portStep (s : State) : PortStep s (fieldChoose s) :=
  ⟨(fieldChoose_taken s).kept fun v => fieldChoose_serve s v.trunk, fieldChoose_units s⟩

theorem kickField_taken (s : State) : FieldTaken s (kickField s) := by
  unfold kickField
  split
  · exact FieldTaken.refl s
  · exact fieldChoose_taken s

theorem kickField_units (s : State) : SameUnits s (kickField s) := by
  unfold kickField
  split
  · exact SameUnits.refl s
  · exact fieldChoose_units s

theorem kickField_serve (s : State)
    (f : s.trunkTx = none → s.answers = [] ∧ s.notices = [] ∧ s.uplink = []) :
    TransmittersServe (kickField s) := by
  unfold kickField
  split
  · rename_i x h
    exact ⟨f, fun e => by simp [h] at e⟩
  · exact fieldChoose_serve s f

end Sys2Proof.Machine
end

