-- ==== Sys2Proof/Laws/Joins.lean ====
section
/-! SUPPORT. Joining a queue: each join keeps the rules of the ports and touches nothing else, whether it places its
frame, drops it, replaces a waiting one or displaces another notice. -/

namespace Sys2Proof.Machine

/-! ## Trunk queues -/

/-- A trunk queue has grown, and the trunk arbiter has been asked (R8): the bounds that hold of the longer
queues hold afterwards, and the port serves them. -/
theorem kickTrunk_portStep {s m : State} (units : SameUnits s m)
    (queues : QueuesBounded s → QueuesBounded m) (replies : replyCount m ≤ replyCount s)
    (notices : NoticesDistinct s → NoticesDistinct m)
    (trunk : m.trunkCounters = s.trunkCounters) (field : m.fieldCounters = s.fieldCounters)
    (tx : m.fieldTx = s.fieldTx) (orig : m.originated = s.originated) (forw : m.forwarded = s.forwarded) :
    PortStep s (kickTrunk m) := by
  have k := (kickTrunk_taken m).kept (fun v => kickTrunk_serve m v.field)
  refine ⟨⟨k.queues ∘ queues, k.replies.trans replies, k.notices ∘ notices, ?_, ?_, ?_⟩,
    units.trans (kickTrunk_units m)⟩
  · intro h; exact k.trunk (by rwa [trunk])
  · intro h; exact k.field (by rwa [field])
  · intro v
    refine kickTrunk_serve m fun h => ?_
    rw [orig, forw]; exact v.field (tx ▸ h)

theorem joinUplink_portStep (f : Frame) (s : State) : PortStep s (joinUplink f s) := by
  unfold joinUplink
  split
  · exact countEvent_portStep _ _ _
  · rename_i h
    have h' : s.uplink.length < 16 := by
      have := of_decide_eq_false (by simpa [uplinkFull] using h : decide (Config.uplinkDepth ≤ s.uplink.length) = false)
      simp only [Config.uplinkDepth] at this; omega
    refine kickTrunk_portStep (by constructor <;> rfl) (fun q => ?_) (le_refl _) id rfl rfl rfl rfl rfl
    exact ⟨by simp; omega, q.forwarded, q.refusals, q.replies, q.notices, q.originated, q.run⟩

theorem joinRefusal_portStep (f : Frame) (s : State) : PortStep s (joinRefusal f s) := by
  unfold joinRefusal
  split
  · exact countEvent_portStep _ _ _
  · rename_i h
    have h' : refusalCount s < 8 := by simpa [Config.refusalDepth] using h
    refine kickTrunk_portStep (by constructor <;> rfl) (fun q => ?_) ?_ id rfl rfl rfl rfl rfl
    · refine ⟨q.uplink, q.forwarded, ?_, ?_, q.notices, q.originated, q.run⟩
      · simp only [refusalCount] at h' ⊢
        simp [List.filter_append, Answer.isRefusal, Answer.isReply] at h' ⊢; omega
      · have := q.replies
        simp only [replyCount] at this ⊢
        simpa [List.filter_append, Answer.isReply] using this
    · simp [replyCount, List.filter_append, Answer.isReply]

theorem refuseCommand_portStep (cmd : Frame) (reason index : Byte) (s : State) :
    PortStep s (refuseCommand cmd reason index s) := joinRefusal_portStep _ s

theorem refuseBuiltIn_portStep (cmd : Frame) (r : GateReason) (s : State) :
    PortStep s (refuseBuiltIn cmd r s) := joinRefusal_portStep _ s

/-- A reply joins behind what waits; there was room for it. -/
theorem joinReply_units (f : Frame) (s : State) : SameUnits s (joinReply f s) := by
  refine SameUnits.trans (b := { s with answers := s.answers ++ [.reply f] }) ?_ (kickTrunk_units _)
  constructor <;> rfl

theorem joinReply_queues (f : Frame) (s : State) (q : QueuesBounded s) (room : replyCount s < 4) :
    QueuesBounded (joinReply f s) := by
  refine ((kickTrunk_taken _).kept (fun v => kickTrunk_serve _ v.field)).queues ?_
  refine ⟨q.uplink, q.forwarded, ?_, ?_, q.notices, q.originated, q.run⟩
  · have := q.refusals
    simp only [refusalCount] at this ⊢
    simpa [List.filter_append, Answer.isRefusal, Answer.isReply] using this
  · simp only [replyCount, List.filter_append, List.length_append] at room ⊢
    have h1 : (List.filter Answer.isReply [Answer.reply f]).length = 1 := rfl
    omega

theorem joinReply_notices (f : Frame) (s : State) (h : NoticesDistinct s) : NoticesDistinct (joinReply f s) :=
  h.sublist ((kickTrunk_taken _).notices.map _)

theorem joinReply_serve (f : Frame) (s : State) (v : TransmittersServe s) :
    TransmittersServe (joinReply f s) := kickTrunk_serve _ v.field

/-! ## Notices (R161 to R163) -/

theorem Notice.sameKey_iff (n m : Notice) : n.sameKey m = true ↔ n.key = m.key := by
  simp [Notice.sameKey, Notice.key]

theorem displaced_sublist {sev : Severity} {q r : List Notice} (h : displaced? sev q = some r) :
    ∃ p : Notice → Bool, q.any p = true ∧ r = q.eraseP p := by
  unfold displaced? at h
  cases sev with
  | info => simp at h
  | warning =>
    simp only at h
    split at h
    · rename_i hi; exact ⟨_, hi, (Option.some.inj h).symm⟩
    · simp at h
  | alarm =>
    simp only at h
    split at h
    · rename_i hi; exact ⟨_, hi, (Option.some.inj h).symm⟩
    · split at h
      · rename_i hw; exact ⟨_, hw, (Option.some.inj h).symm⟩
      · simp at h

/-- A notice whose key no pending one has keeps the keys distinct at the tail. -/
theorem notices_append {q : List Notice} {n : Notice} (h : (q.map Notice.key).Nodup)
    (new : q.any (fun m => m.sameKey n) = false) : ((q ++ [n]).map Notice.key).Nodup := by
  rw [List.map_append, List.nodup_append]
  refine ⟨h, by simp, ?_⟩
  intro a ha b hb
  simp only [List.mem_map] at ha hb
  obtain ⟨m, hm, rfl⟩ := ha
  obtain ⟨k, hk, rfl⟩ := hb
  simp only [List.mem_singleton] at hk
  subst hk
  have hne := List.any_eq_false.mp new m hm
  exact fun e => hne ((Notice.sameKey_iff m k).mpr e)

theorem offerNotice_portStep (n : Notice) (s : State) : PortStep s (offerNotice n s) := by
  unfold offerNotice
  split
  · rename_i hany
    have hkey : (s.notices.map fun m => if m.sameKey n then n else m).map Notice.key
        = s.notices.map Notice.key := by
      rw [List.map_map]
      refine List.map_congr_left fun m _ => ?_
      simp only [Function.comp]
      by_cases e : m.sameKey n
      · simp [e, ((Notice.sameKey_iff m n).mp e)]
      · simp [e]
    refine ⟨⟨fun q => ⟨q.uplink, q.forwarded, q.refusals, q.replies, by simpa using q.notices,
      q.originated, q.run⟩, le_refl _, fun h => by simpa [NoticesDistinct, hkey] using h, id, id, fun v =>
      ⟨fun e => ?_, v.field⟩⟩, by constructor <;> rfl⟩
    have h1 := v.trunk e
    rw [h1.2.1] at hany
    simp at hany
  · rename_i hany
    have hnew : s.notices.any (fun m => m.sameKey n) = false := by simpa using hany
    split
    · rename_i hlt
      refine kickTrunk_portStep (by constructor <;> rfl) (fun q => ?_) (le_refl _) (fun h => notices_append h hnew) rfl
        rfl rfl rfl rfl
      exact ⟨q.uplink, q.forwarded, q.refusals, q.replies,
        by simp [Config.noticeDepth] at hlt ⊢; omega, q.originated, q.run⟩
    · split
      · rename_i r hd
        obtain ⟨p, hp, rfl⟩ := displaced_sublist hd
        obtain ⟨x, hx, hpx⟩ := List.any_eq_true.mp hp
        refine kickTrunk_portStep (by constructor <;> rfl) (fun q => ?_) (le_refl _) (fun h => ?_) rfl rfl rfl rfl rfl
        · refine ⟨q.uplink, q.forwarded, q.refusals, q.replies, ?_, q.originated, q.run⟩
          have h1 := List.length_eraseP_of_mem hx hpx
          have h2 := q.notices
          have h3 : 0 < s.notices.length := List.length_pos_of_mem hx
          simp [h1]; omega
        · refine notices_append (h.sublist (List.eraseP_sublist.map _)) ?_
          rw [List.any_eq_false] at hnew ⊢
          exact fun m hm => hnew m (List.eraseP_sublist.subset hm)
      · refine ⟨⟨fun q => ⟨q.uplink, q.forwarded, q.refusals, q.replies, q.notices, q.originated, q.run⟩,
          le_refl _, id, id, id, fun v => ⟨v.trunk, v.field⟩⟩, by constructor <;> rfl⟩

theorem raiseNotice_portStep (k : NoticeKind) (o : NoticeObj) (value : Quad) (s : State) :
    PortStep s (raiseNotice k o value s) := offerNotice_portStep _ s

/-! ## Field queues -/

theorem kickField_portStep {s m : State} (units : SameUnits s m)
    (queues : QueuesBounded s → QueuesBounded m) (answers : m.answers = s.answers)
    (notices : m.notices = s.notices) (uplink : m.uplink = s.uplink) (tx : m.trunkTx = s.trunkTx)
    (trunk : m.trunkCounters = s.trunkCounters) (field : m.fieldCounters = s.fieldCounters) :
    PortStep s (kickField m) := by
  have k := (kickField_taken m).kept (fun v => kickField_serve m v.trunk)
  refine ⟨⟨k.queues ∘ queues, ?_, ?_, ?_, ?_, ?_⟩, units.trans (kickField_units m)⟩
  · refine k.replies.trans ?_; simp [replyCount, answers]
  · intro h; exact k.notices (by simpa [NoticesDistinct, notices] using h)
  · intro h; exact k.trunk (by rwa [trunk])
  · intro h; exact k.field (by rwa [field])
  · intro v
    refine kickField_serve m fun h => ?_
    rw [answers, notices, uplink]; exact v.trunk (tx ▸ h)

theorem placeForwarded_portStep (f : Frame) (target : Option Bound) (s : State)
    (room : forwardedFull s = false) : PortStep s (placeForwarded f target s) := by
  have h' : s.forwarded.length < 16 := by
    have := of_decide_eq_false room
    simp only [Config.forwardedDepth] at this; omega
  refine kickField_portStep (by constructor <;> rfl) (fun q => ?_) rfl rfl rfl rfl rfl rfl
  exact ⟨q.uplink, by simp; omega, q.refusals, q.replies, q.notices, q.originated, q.run⟩

theorem joinForwarded_portStep (f : Frame) (s : State) : PortStep s (joinForwarded f s) := by
  unfold joinForwarded
  split
  · exact countEvent_portStep _ _ _
  · rename_i h
    exact placeForwarded_portStep f none s (by simpa using h)

theorem fillPosition_portStep (o : OrigObj) (f : Frame) (s : State) : PortStep s (fillPosition o f s) := by
  unfold fillPosition
  split
  · rename_i hany
    have hobj : (s.originated.map fun p => if p.obj == o then { p with frame := f } else p).map Originated.obj
        = s.originated.map Originated.obj := by
      rw [List.map_map]
      refine List.map_congr_left fun m _ => ?_
      simp only [Function.comp]
      split <;> rfl
    refine ⟨⟨fun q => ⟨q.uplink, q.forwarded, q.refusals, q.replies, q.notices, by rw [hobj]; exact q.originated,
      q.run⟩, le_refl _, id, id, id, fun v => ⟨v.trunk, fun e => ?_⟩⟩, by constructor <;> rfl⟩
    rw [(v.field e).1] at hany
    simp at hany
  · rename_i hany
    refine kickField_portStep (by constructor <;> rfl) (fun q => ?_) rfl rfl rfl rfl rfl rfl
    refine ⟨q.uplink, q.forwarded, q.refusals, q.replies, q.notices, ?_, q.run⟩
    rw [List.map_append, List.nodup_append]
    refine ⟨q.originated, by simp, ?_⟩
    intro a ha b hb
    simp only [List.mem_map] at ha hb
    obtain ⟨m, hm, rfl⟩ := ha
    obtain ⟨k, hk, rfl⟩ := hb
    simp only [List.mem_singleton] at hk
    subst hk
    have := List.any_eq_false.mp (Bool.eq_false_iff.mpr hany) m hm
    intro e
    simp [e] at this

theorem originate_portStep (o : OrigObj) (kind : Byte) (payload : List Byte) (s : State) :
    PortStep s (originate o kind payload s) := by
  unfold originate
  split
  · exact fillPosition_portStep _ _ _
  · exact raiseNotice_portStep _ _ _ _

theorem originateDoor_portStep (r : RoomIx) (a : Action) (s : State) : PortStep s (originateDoor r a s) :=
  originate_portStep ..

theorem originateCoil_portStep (c : CoilIx) (p : CmdPhase) (s : State) : PortStep s (originateCoil c p s) :=
  originate_portStep ..

theorem originateOrder_portStep (u : ShuttleIx) (o : Order) (b : Byte) (s : State) :
    PortStep s (originateOrder u o b s) := originate_portStep ..

/-- Frames leave the two shares of the field queue. -/
theorem fieldShrunk_portStep (s : State) (o : List Originated) (f : List Forwarded)
    (ho : o.Sublist s.originated) (hf : f.Sublist s.forwarded) :
    PortStep s { s with originated := o, forwarded := f } := by
  refine ⟨⟨fun q => ⟨q.uplink, hf.length_le.trans q.forwarded, q.refusals, q.replies, q.notices,
    q.originated.sublist (ho.map _), q.run⟩, le_refl _, id, id, id, fun v => ⟨v.trunk, fun e => ?_⟩⟩,
    by constructor <;> rfl⟩
  have h := v.field e
  rw [h.1] at ho; rw [h.2] at hf
  exact ⟨List.sublist_nil.mp ho, List.sublist_nil.mp hf⟩

theorem dropOriginatedDoor_portStep (r : RoomIx) (a : Action) (s : State) :
    PortStep s (dropOriginatedDoor r a s) :=
  fieldShrunk_portStep s _ s.forwarded List.filter_sublist (List.Sublist.refl _)

theorem forEach_portStep {α : Type} (l : List α) (f : α → State → State)
    (step : ∀ a ∈ l, ∀ s, PortStep s (f a s)) (s : State) : PortStep s (forEach l f s) :=
  forEach_rel PortStep PortStep.refl PortStep.trans l f step s

theorem withdrawCommands_portStep (r : RoomIx) (a : Action) (reason : GateReason) (s : State) :
    PortStep s (withdrawCommands r a reason s) :=
  (fieldShrunk_portStep s s.originated _ (List.Sublist.refl _) List.filter_sublist).trans
    (forEach_portStep _ _ (fun _ _ _ => refuseBuiltIn_portStep _ _ _) _)

end Sys2Proof.Machine
end

