-- ==== Sys2Proof/Laws/Ripple.lean ====
section
/-! SUPPORT. What the dealings of portals, coils and waiting shuttles with one another can change: a claim granted, a
hold released, a defrost phase entered and all that follows in the same handling. `Ripple` says it once; each
operation of Travel, Claims, Defrost and Portal has one lemma saying that it is one. -/

namespace Sys2Proof.Machine

/-! ## What a ripple may change in a record -/

/-- A zone: its window, the allowance timer, the round-robin pointer. -/
def SameZone (a b : Zone) : Prop :=
  b = { a with window := b.window, allowanceTimer := b.allowanceTimer, pointer := b.pointer }

/-- A coil: the fields of its owed count and of its defrost; not its configuration, mask or readings. -/
def SameCoil (a b : Coil) : Prop :=
  b = { a with
    owed := b.owed, forced := b.forced, pullIn := b.pullIn, phase := b.phase, group := b.group
    quietStart := b.quietStart, commanded := b.commanded, notFollowing := b.notFollowing
    lastEnd := b.lastEnd, spacingTimer := b.spacingTimer, phaseTimer := b.phaseTimer
    followTimer := b.followTimer }

/-- A shuttle: its state, its step and what waits for doors; not its position, deck or slots. -/
def SameShuttle (a b : Shuttle) : Prop :=
  b = { a with
    state := b.state, step := b.step, armed := b.armed, readyA := b.readyA, readyB := b.readyB
    stepTimer := b.stepTimer, parkTimer := b.parkTimer }

theorem SameZone.trans {a b c : Zone} (h : SameZone a b) (k : SameZone b c) : SameZone a c := by
  cases a; cases b; cases c; simp_all [SameZone]

theorem SameCoil.trans {a b c : Coil} (h : SameCoil a b) (k : SameCoil b c) : SameCoil a c := by
  cases a; cases b; cases c; simp_all [SameCoil]

theorem SameShuttle.trans {a b c : Shuttle} (h : SameShuttle a b) (k : SameShuttle b c) :
    SameShuttle a c := by
  cases a; cases b; cases c; simp_all [SameShuttle]

/-- What may change between two states when portals, coils and waiting shuttles act on one another. -/
structure Ripple (s t : State) : Prop where
  ports : PortsKept s t
  mode : t.mode = s.mode
  strap : t.strap = s.strap
  count : t.count = s.count
  exposureTimer : t.exposureTimer = s.exposureTimer
  trunkReady : t.trunkReady = s.trunkReady
  fieldReady : t.fieldReady = s.fieldReady
  policy : t.policy = s.policy
  classTable : t.classTable = s.classTable
  conditions : t.conditions = s.conditions
  probes : t.probes = s.probes
  docks : t.docks = s.docks
  classes : t.classes = s.classes
  lanes : t.lanes = s.lanes
  pallets : t.pallets = s.pallets
  departed : t.departed = s.departed
  moves : t.moves = s.moves
  lastMove : t.lastMove = s.lastMove
  pending : t.pending = s.pending
  zones : ∀ z, SameZone (s.zone z) (t.zone z)
  coils : ∀ c, SameCoil (s.coil c) (t.coil c)
  shuttles : ∀ u, SameShuttle (s.shuttle u) (t.shuttle u)
  holds : HoldsExcludeClaims s → HoldsExcludeClaims t

/-- A ripple that leaves every hold as it stands. -/
structure ClaimStep (s t : State) : Prop extends Ripple s t where
  hold : ∀ r, (t.room r).hold = (s.room r).hold

theorem Ripple.refl (s : State) : Ripple s s where
  ports := PortsKept.refl s
  mode := rfl
  strap := rfl
  count := rfl
  exposureTimer := rfl
  trunkReady := rfl
  fieldReady := rfl
  policy := rfl
  classTable := rfl
  conditions := rfl
  probes := rfl
  docks := rfl
  classes := rfl
  lanes := rfl
  pallets := rfl
  departed := rfl
  moves := rfl
  lastMove := rfl
  pending := rfl
  zones _ := rfl
  coils _ := rfl
  shuttles _ := rfl
  holds := id

theorem Ripple.trans {a b c : State} (h : Ripple a b) (k : Ripple b c) : Ripple a c where
  ports := h.ports.trans k.ports
  mode := k.mode.trans h.mode
  strap := k.strap.trans h.strap
  count := k.count.trans h.count
  exposureTimer := k.exposureTimer.trans h.exposureTimer
  trunkReady := k.trunkReady.trans h.trunkReady
  fieldReady := k.fieldReady.trans h.fieldReady
  policy := k.policy.trans h.policy
  classTable := k.classTable.trans h.classTable
  conditions := k.conditions.trans h.conditions
  probes := k.probes.trans h.probes
  docks := k.docks.trans h.docks
  classes := k.classes.trans h.classes
  lanes := k.lanes.trans h.lanes
  pallets := k.pallets.trans h.pallets
  departed := k.departed.trans h.departed
  moves := k.moves.trans h.moves
  lastMove := k.lastMove.trans h.lastMove
  pending := k.pending.trans h.pending
  zones z := (h.zones z).trans (k.zones z)
  coils i := (h.coils i).trans (k.coils i)
  shuttles u := (h.shuttles u).trans (k.shuttles u)
  holds := k.holds ∘ h.holds

theorem ClaimStep.refl (s : State) : ClaimStep s s := ⟨Ripple.refl s, fun _ => rfl⟩

theorem ClaimStep.trans {a b c : State} (h : ClaimStep a b) (k : ClaimStep b c) : ClaimStep a c :=
  ⟨h.toRipple.trans k.toRipple, fun r => (k.hold r).trans (h.hold r)⟩

/-! ## The elementary steps -/

theorem PortStep.claimStep {s t : State} (h : PortStep s t) : ClaimStep s t := by
  have u := h.units
  refine ⟨⟨h.kept, u.mode, u.strap, u.count, u.exposureTimer, u.trunkReady, u.fieldReady, u.policy,
    u.classTable, u.conditions, u.probes, u.docks, u.classes, u.lanes, u.pallets, u.departed, u.moves,
    u.lastMove, u.pending, fun z => ?_, fun c => ?_, fun v => ?_, fun hh => ?_⟩, fun r => ?_⟩
  · have : t.zone z = s.zone z := by simp [State.zone, u.zones]
    rw [this]; rfl
  · have : t.coil c = s.coil c := by simp [State.coil, u.coils]
    rw [this]; rfl
  · have : t.shuttle v = s.shuttle v := by simp [State.shuttle, u.shuttles]
    rw [this]; rfl
  · intro r; simp only [State.room, u.rooms]; exact hh r
  · simp [State.room, u.rooms]

theorem modZone_claimStep (s : State) (z : ZoneIx) (f : Zone → Zone)
    (hf : SameZone (s.zone z) (f (s.zone z))) : ClaimStep s (s.modZone z f) := by
  refine ⟨{ Ripple.refl s with
    ports := SamePorts.kept (by constructor <;> rfl), zones := fun z' => ?_ }, fun _ => rfl⟩
  rw [State.zone_modZone]
  split
  · rename_i h; subst h; exact hf
  · rfl

theorem modCoil_claimStep (s : State) (c : CoilIx) (f : Coil → Coil)
    (hf : SameCoil (s.coil c) (f (s.coil c))) : ClaimStep s (s.modCoil c f) := by
  refine ⟨{ Ripple.refl s with
    ports := SamePorts.kept (by constructor <;> rfl), coils := fun c' => ?_ }, fun _ => rfl⟩
  rw [State.coil_modCoil]
  split
  · rename_i h; subst h; exact hf
  · rfl

theorem modShuttle_claimStep (s : State) (u : ShuttleIx) (f : Shuttle → Shuttle)
    (hf : SameShuttle (s.shuttle u) (f (s.shuttle u))) : ClaimStep s (s.modShuttle u f) := by
  refine ⟨{ Ripple.refl s with
    ports := SamePorts.kept (by constructor <;> rfl), shuttles := fun u' => ?_ }, fun _ => rfl⟩
  rw [State.shuttle_modShuttle]
  split
  · rename_i h; subst h; exact hf
  · rfl

/-- A change of a room portal is a ripple when it leaves no claim under a set hold. -/
theorem modRoom_ripple (s : State) (r : RoomIx) (f : Room → Room)
    (hf : ((s.room r).hold = .set → (s.room r).claims = []) →
      (f (s.room r)).hold = .set → (f (s.room r)).claims = []) : Ripple s (s.modRoom r f) := by
  refine { Ripple.refl s with
    ports := SamePorts.kept (by constructor <;> rfl), holds := fun h r' => ?_ }
  rw [State.room_modRoom]
  split
  · rename_i e; subst e; exact hf (h r)
  · exact h r'

theorem modRoom_claimStep (s : State) (r : RoomIx) (f : Room → Room)
    (hold : (f (s.room r)).hold = (s.room r).hold)
    (hf : ((s.room r).hold = .set → (s.room r).claims = []) →
      (s.room r).hold = .set → (f (s.room r)).claims = []) : ClaimStep s (s.modRoom r f) := by
  refine ⟨modRoom_ripple s r f (fun h e => hf h (hold ▸ e)), fun r' => ?_⟩
  rw [State.room_modRoom]
  split
  · rename_i e; subst e; exact hold
  · rfl

/-- A change of a room portal that touches neither its hold nor its claims. -/
theorem modRoom_aside (s : State) (r : RoomIx) (f : Room → Room)
    (hold : (f (s.room r)).hold = (s.room r).hold) (claims : (f (s.room r)).claims = (s.room r).claims) :
    ClaimStep s (s.modRoom r f) :=
  modRoom_claimStep s r f hold (fun h e => claims.trans (h e))

theorem forEach_claimStep {α : Type} (l : List α) (f : α → State → State)
    (step : ∀ a ∈ l, ∀ s, ClaimStep s (f a s)) (s : State) : ClaimStep s (forEach l f s) :=
  forEach_rel ClaimStep ClaimStep.refl ClaimStep.trans l f step s

theorem forEach_ripple {α : Type} (l : List α) (f : α → State → State)
    (step : ∀ a ∈ l, ∀ s, Ripple s (f a s)) (s : State) : Ripple s (forEach l f s) :=
  forEach_rel Ripple Ripple.refl Ripple.trans l f step s

/-! ## Travel -/

theorem setShuttleState_claimStep (u : ShuttleIx) (st : ShuttleState) (s : State) :
    ClaimStep s (setShuttleState u st s) := modShuttle_claimStep s u _ (by rfl)

theorem beginTravel_claimStep (u : ShuttleIx) (p : RailPos) (q : Requester) (s : State) :
    ClaimStep s (beginTravel u p q s) :=
  (modShuttle_claimStep s u _ (by rfl)).trans (originateOrder_portStep ..).claimStep

theorem beginHandling_claimStep (u : ShuttleIx) (o : Order) (st : ShuttleState) (step : Step) (s : State) :
    ClaimStep s (beginHandling u o st step s) :=
  (modShuttle_claimStep s u _ (by rfl)).trans (originateOrder_portStep ..).claimStep

theorem beginHoming_claimStep (u : ShuttleIx) (s : State) : ClaimStep s (beginHoming u s) :=
  (modShuttle_claimStep s u _ (by rfl)).trans (originateOrder_portStep ..).claimStep

theorem testArmed_claimStep (u : ShuttleIx) (s : State) : ClaimStep s (testArmed u s) := by
  unfold testArmed
  split
  · split
    · exact beginTravel_claimStep ..
    · exact ClaimStep.refl s
  · exact ClaimStep.refl s

theorem testHoming_claimStep (u : ShuttleIx) (s : State) : ClaimStep s (testHoming u s) := by
  unfold testHoming
  simp only
  split
  · exact beginHoming_claimStep u s
  · exact ClaimStep.refl s

theorem testWaiting_claimStep (u : ShuttleIx) (s : State) : ClaimStep s (testWaiting u s) :=
  (testArmed_claimStep u s).trans (testHoming_claimStep u _)

/-! ## Claims -/

theorem tellReady_claimStep (r : RoomIx) (u : ShuttleIx) (s : State) : ClaimStep s (tellReady r u s) :=
  (modShuttle_claimStep s u _ (by rfl)).trans (testWaiting_claimStep u _)

theorem tellNotReady_claimStep (r : RoomIx) (u : ShuttleIx) (s : State) :
    ClaimStep s (tellNotReady r u s) := modShuttle_claimStep s u _ (by rfl)

theorem tellAllReady_claimStep (r : RoomIx) (s : State) : ClaimStep s (tellAllReady r s) :=
  forEach_claimStep _ _ (fun u _ s => tellReady_claimStep r u s) s

theorem tellAllNotReady_claimStep (r : RoomIx) (s : State) : ClaimStep s (tellAllNotReady r s) :=
  forEach_claimStep _ _ (fun u _ s => tellNotReady_claimStep r u s) s

theorem askOpen_claimStep (r : RoomIx) (s : State) : ClaimStep s (askOpen r s) :=
  (originateDoor_portStep r .doorOpen s).claimStep.trans (modRoom_aside _ r _ (by rfl) (by rfl))

theorem openForClaims_claimStep (r : RoomIx) (s : State) : ClaimStep s (openForClaims r s) :=
  (askOpen_claimStep r s).trans (modRoom_aside _ r _ (by rfl) (by rfl))

theorem openForEntry_claimStep (r : RoomIx) (s : State) : ClaimStep s (openForEntry r s) :=
  (askOpen_claimStep r s).trans (modRoom_aside _ r _ (by rfl) (by rfl))

theorem actOnEntry_claimStep (r : RoomIx) (u : ShuttleIx) (s : State) : ClaimStep s (actOnEntry r u s) := by
  unfold actOnEntry
  split
  · exact openForEntry_claimStep r s
  · exact openForEntry_claimStep r s
  · exact openForEntry_claimStep r s
  · split
    · exact ClaimStep.refl s
    · exact askOpen_claimStep r s
  · exact tellReady_claimStep r u s
  · exact ClaimStep.refl s

theorem withdrawCommands_claimStep (r : RoomIx) (a : Action) (reason : GateReason) (s : State) :
    ClaimStep s (withdrawCommands r a reason s) := (withdrawCommands_portStep r a reason s).claimStep

/-- An entry forms at a portal whose hold is not set. -/
theorem formEntry_claimStep (r : RoomIx) (u : ShuttleIx) (h : Holder) (s : State)
    (free : (s.room r).hold ≠ .set) : ClaimStep s (formEntry r u h s) :=
  (modRoom_claimStep s r _ (by rfl) (fun _ e => absurd e free)).trans
    ((withdrawCommands_claimStep ..).trans
      ((modRoom_aside _ r _ (by rfl) (by rfl)).trans
        ((actOnEntry_claimStep ..).trans (testWaiting_claimStep ..))))

theorem joinEntry_claimStep (r : RoomIx) (u : ShuttleIx) (h : Holder) (s : State) :
    ClaimStep s (joinEntry r u h s) := by
  have step := modRoom_claimStep s r
    (fun p => { p with claims := p.claims.map fun c =>
        if c.shuttle == u then { c with holders := c.holders ++ [h] } else c }) rfl
    (fun h e => by simp [h e])
  unfold joinEntry
  simp only
  split
  · exact step.trans (tellReady_claimStep ..)
  · exact step

theorem grantClaim_claimStep (r : RoomIx) (u : ShuttleIx) (h : Holder) (s : State)
    (free : (s.room r).hold ≠ .set) : ClaimStep s (grantClaim r u h s) := by
  unfold grantClaim
  split
  · exact joinEntry_claimStep ..
  · exact formEntry_claimStep r u h s free

theorem requestClaim_claimStep (r : RoomIx) (u : ShuttleIx) (h : Holder) (s : State) :
    ClaimStep s (requestClaim r u h s) := by
  unfold requestClaim
  simp only
  split
  · exact ClaimStep.refl s
  · split
    · exact joinEntry_claimStep ..
    · split
      · exact modRoom_aside s r _ (by rfl) (by rfl)
      · rename_i hw
        refine formEntry_claimStep r u h s fun e => hw ?_
        simp [Room.mustWait, e]

theorem requestClaims_claimStep (u : ShuttleIx) (h : Holder) (doors : List RoomIx) (s : State) :
    ClaimStep s (requestClaims u h doors s).1 := by
  induction doors generalizing s with
  | nil => exact ClaimStep.refl s
  | cons r rest ih =>
    unfold requestClaims
    split
    · exact ClaimStep.refl s
    · exact (requestClaim_claimStep r u h s).trans (ih _)

/-- The waiting list is granted at a portal whose hold is not set. -/
theorem grantWaiting_claimStep (r : RoomIx) (s : State) (free : (s.room r).hold ≠ .set) :
    ClaimStep s (grantWaiting r s) := by
  unfold grantWaiting
  generalize (s.room r).waiting = l
  induction l generalizing s with
  | nil => exact ClaimStep.refl s
  | cons w l ih =>
    rw [forEach_cons]
    have h1 : ClaimStep s (s.modRoom r fun p => { p with waiting := p.waiting.tail }) :=
      modRoom_aside s r _ (by rfl) (by rfl)
    have h2 := grantClaim_claimStep r w.shuttle w.holder _ (by rw [h1.hold r]; exact free)
    exact (h1.trans h2).trans (ih _ (by rw [(h1.trans h2).hold r]; exact free))

theorem releaseHold_ripple (r : RoomIx) (s : State) : Ripple s (releaseHold r s) := by
  unfold releaseHold
  split
  · have h1 : Ripple s (s.modRoom r fun p =>
        { p with hold := .clear, holdForced := false, openDuringHold := false }) :=
      modRoom_ripple s r _ (fun _ e => by simp at e)
    exact h1.trans (grantWaiting_claimStep r _ (by simp)).toRipple
  · exact Ripple.refl s

theorem expireHoldOpen_claimStep (r : RoomIx) (s : State) : ClaimStep s (expireHoldOpen r s) := by
  have h1 : ClaimStep s (s.modRoom r fun p => { p with holdOpenTimer := none }) :=
    modRoom_aside s r _ (by rfl) (by rfl)
  unfold expireHoldOpen
  simp only
  split
  · exact h1.trans ((originateDoor_portStep ..).claimStep.trans (modRoom_aside _ r _ (by rfl) (by rfl)))
  · exact h1

theorem startHoldOpen_claimStep (r : RoomIx) (s : State) : ClaimStep s (startHoldOpen r s) := by
  unfold startHoldOpen
  simp only
  split
  · exact expireHoldOpen_claimStep r s
  · exact modRoom_aside s r _ (by rfl) (by rfl)

theorem handBackDoor_claimStep (r : RoomIx) (s : State) : ClaimStep s (handBackDoor r s) := by
  unfold handBackDoor
  split
  · exact startHoldOpen_claimStep r s
  · exact modRoom_aside s r _ (by rfl) (by rfl)
  · exact ClaimStep.refl s

/-- The hold is set at a portal without claims. -/
theorem setHold_ripple (r : RoomIx) (s : State) (empty : (s.room r).claims = []) :
    Ripple s (setHold r s) :=
  (modRoom_ripple s r _ (fun _ _ => empty)).trans
    ((dropOriginatedDoor_portStep ..).claimStep.toRipple.trans (withdrawCommands_claimStep ..).toRipple)

/-! ## Defrost phases -/

theorem commandCoil_claimStep (c : CoilIx) (p : CmdPhase) (s : State) : ClaimStep s (commandCoil c p s) :=
  (originateCoil_portStep c p s).claimStep.trans (modCoil_claimStep _ c _ (by rfl))

theorem openWindow_claimStep (z : ZoneIx) (s : State) : ClaimStep s (openWindow z s) :=
  modZone_claimStep s z _ (by rfl)

theorem reportCompletion_claimStep (z : ZoneIx) (c : CoilIx) (s : State) :
    ClaimStep s (reportCompletion z c s) := by
  unfold reportCompletion
  split
  · exact ClaimStep.refl s
  · refine modZone_claimStep s z _ ?_
    split <;> rfl

theorem raiseNotice_claimStep (k : NoticeKind) (o : NoticeObj) (v : Quad) (s : State) :
    ClaimStep s (raiseNotice k o v s) := (raiseNotice_portStep k o v s).claimStep

theorem completeCoil_claimStep (c : CoilIx) (s : State) : ClaimStep s (completeCoil c s) :=
  (modCoil_claimStep s c _ (by rfl)).trans (raiseNotice_claimStep ..)

theorem endFanDelay_claimStep (c : CoilIx) (s : State) : ClaimStep s (endFanDelay c s).1 := by
  have h0 : ClaimStep s (reportCompletion (s.coil c).zone c
      ((commandCoil c .cool s).modCoil c fun k => { k with phase := .cool, phaseTimer := none })) :=
    (commandCoil_claimStep ..).trans ((modCoil_claimStep _ c _ (by rfl)).trans (reportCompletion_claimStep ..))
  unfold endFanDelay
  simp only
  split
  · split
    · refine h0.trans (forEach_claimStep _ _ (fun d _ s => ?_) _)
      exact (modCoil_claimStep s d _ (by rfl)).trans (completeCoil_claimStep ..)
    · exact h0
  · exact h0.trans (completeCoil_claimStep ..)

theorem enterFanDelay_ripple (c : CoilIx) (s : State) : Ripple s (enterFanDelay c s).1 := by
  unfold enterFanDelay
  extract_lets z due m1 m2 m3
  have h1 : Ripple s m1 := (modCoil_claimStep s c _ (by rfl)).toRipple
  have h2 : Ripple m1 m2 := by
    show Ripple m1 (match zoneRoom? z with
      | some r => if due then releaseHold r m1 else m1
      | none => m1)
    split
    · split
      · exact releaseHold_ripple _ m1
      · exact Ripple.refl m1
    · exact Ripple.refl m1
  have h3 : Ripple m2 m3 := (commandCoil_claimStep ..).toRipple
  split
  · exact (h1.trans (h2.trans h3)).trans (endFanDelay_claimStep ..).toRipple
  · exact h1.trans (h2.trans h3)

theorem enterDrip_ripple (c : CoilIx) (s : State) : Ripple s (enterDrip c s).1 := by
  have h1 : ClaimStep s ((commandCoil c .drip s).modCoil c fun k =>
      { k with phase := .drip, phaseTimer := some k.drip }) :=
    (commandCoil_claimStep ..).trans (modCoil_claimStep _ c _ (by rfl))
  unfold enterDrip
  simp only
  split
  · exact h1.toRipple.trans (enterFanDelay_ripple ..)
  · exact h1.toRipple

theorem enterHeat_ripple (c : CoilIx) (s : State) : Ripple s (enterHeat c s).1 := by
  have h1 : ClaimStep s ((commandCoil c .heat s).modCoil c fun k =>
      { k with phase := .heat, phaseTimer := some k.maxHeat }) :=
    (commandCoil_claimStep ..).trans (modCoil_claimStep _ c _ (by rfl))
  unfold enterHeat
  simp only
  split
  · exact h1.toRipple.trans (enterDrip_ripple ..)
  · exact h1.toRipple

theorem enterPumpDown_claimStep (c : CoilIx) (s : State) : ClaimStep s (enterPumpDown c s) :=
  (commandCoil_claimStep c .pumpDown s).trans
    ((modCoil_claimStep _ c _ (by rfl)).trans
      ((openWindow_claimStep ..).trans (raiseNotice_claimStep ..)))

theorem forEachCoil_ripple (f : CoilIx → State → State × Bool) (l : List CoilIx)
    (step : ∀ c s, Ripple s (f c s).1) (s : State) : Ripple s (forEachCoil f l s).1 := by
  induction l generalizing s with
  | nil => exact Ripple.refl s
  | cons c rest ih => exact (step c s).trans (ih _)

theorem startPumpDown_ripple (cs : List CoilIx) (s : State) : Ripple s (startPumpDown cs s).1 := by
  refine (forEach_claimStep _ _ (fun c _ s => enterPumpDown_claimStep c s) s).toRipple.trans
    (forEachCoil_ripple _ _ (fun c s => ?_) _)
  split
  · exact enterHeat_ripple c s
  · exact Ripple.refl s

/-! ## The hold -/

theorem grantHold_ripple (r : RoomIx) (s : State) (empty : (s.room r).claims = []) :
    Ripple s (grantHold r s).1 := (setHold_ripple r s empty).trans (startPumpDown_ripple ..)

theorem Room.holdGrantable_claims {p : Room} (h : p.holdGrantable = true) : p.claims = [] := by
  simp [Room.holdGrantable] at h; exact h.1

theorem examineHold_ripple (r : RoomIx) (s : State) : Ripple s (examineHold r s).1 := by
  unfold examineHold
  simp only
  split
  · rename_i h; exact grantHold_ripple r s (Room.holdGrantable_claims h.2)
  · exact Ripple.refl s

theorem requestHold_ripple (r : RoomIx) (mark : Bool) (s : State) : Ripple s (requestHold r mark s).1 := by
  unfold requestHold
  simp only
  split
  · split
    · rename_i h
      have h1 : ClaimStep s (s.modRoom r fun p => { p with holdForced := mark }) :=
        modRoom_aside s r _ (by rfl) (by rfl)
      exact h1.toRipple.trans (grantHold_ripple r _ (by simpa using Room.holdGrantable_claims h))
    · have h1 : Ripple s (s.modRoom r fun p => { p with hold := .waiting, holdForced := mark }) :=
        modRoom_ripple s r _ (fun _ e => by simp at e)
      simp only
      split
      · exact h1.trans (expireHoldOpen_claimStep ..).toRipple
      · exact h1
  · exact (modRoom_aside s r _ (by rfl) (by rfl)).toRipple
  · exact (modRoom_aside s r _ (by rfl) (by rfl)).toRipple

theorem reportMark_ripple (z : ZoneIx) (s : State) : Ripple s (reportMark z s).1 := by
  unfold reportMark
  split
  · exact Ripple.refl s
  · rename_i r _
    simp only
    split
    · exact Ripple.refl s
    · have h1 : ClaimStep s (s.modRoom r fun p => { p with holdForced := requestMark s z }) :=
        modRoom_aside s r _ (by rfl) (by rfl)
      split
      · rename_i hw
        split
        · rename_i h
          exact h1.toRipple.trans (grantHold_ripple r _ (by simpa using Room.holdGrantable_claims h))
        · simp only
          split
          · exact h1.toRipple
          · exact h1.toRipple.trans (grantWaiting_claimStep r _ (by simp [hw])).toRipple
      · exact h1.toRipple

/-! ## Selection and the owed count -/

theorem beginDefrost_ripple (z : ZoneIx) (cs : List CoilIx) (s : State) :
    Ripple s (beginDefrost z cs s).1 := by
  unfold beginDefrost
  split
  · exact startPumpDown_ripple cs s
  · exact (forEach_claimStep _ _ (fun c _ s => modCoil_claimStep s c _ (by rfl)) s).toRipple.trans
      (requestHold_ripple ..)

theorem selectStaggered_ripple (z : ZoneIx) (s : State) : Ripple s (selectStaggered z s).1 := by
  unfold selectStaggered
  split
  · exact Ripple.refl s
  · simp only
    split
    · exact Ripple.refl s
    · exact (modCoil_claimStep s _ _ (by rfl)).toRipple.trans
        ((modZone_claimStep _ z _ (by rfl)).toRipple.trans (beginDefrost_ripple ..))

theorem selectAll_ripple (z : ZoneIx) (s : State) : Ripple s (selectAll z s).1 := by
  unfold selectAll
  simp only
  split
  · exact (forEach_claimStep _ _ (fun c _ s => modCoil_claimStep s c _ (by rfl)) s).toRipple.trans
      (beginDefrost_ripple ..)
  · exact Ripple.refl s

theorem selectOnce_ripple (z : ZoneIx) (s : State) : Ripple s (selectOnce z s).1 := by
  unfold selectOnce
  split
  · split
    · exact selectStaggered_ripple z s
    · exact selectAll_ripple z s
  · exact Ripple.refl s

/-- What a renewed hold request can do (R91). -/
theorem renewHold_ripple (z : ZoneIx) (s : State) : Ripple s (renewHold z s) := by
  unfold renewHold
  split
  · exact Ripple.refl s
  · split
    · exact requestHold_ripple ..
    · exact Ripple.refl s

theorem selectLoop_ripple (n : Nat) (z : ZoneIx) (s : State) : Ripple s (selectLoop n z s) := by
  induction n generalizing s with
  | zero => exact Ripple.refl s
  | succ n ih =>
    have h := selectOnce_ripple z s
    unfold selectLoop
    simp only
    split
    · exact h.trans ((renewHold_ripple z _).trans (ih _))
    · exact h

theorem selectZone_ripple (z : ZoneIx) (s : State) : Ripple s (selectZone z s) := selectLoop_ripple _ z s

theorem thenSelect_ripple {s : State} (z : ZoneIx) (p : State × Bool) (h : Ripple s p.1) :
    Ripple s (thenSelect z p) := by
  unfold thenSelect
  split
  · exact h.trans ((renewHold_ripple z _).trans (selectZone_ripple z _))
  · exact h

theorem examineRoom_ripple (r : RoomIx) (s : State) : Ripple s (examineRoom r s) :=
  thenSelect_ripple _ _ (examineHold_ripple r s)

theorem raiseOwed_claimStep (n : Nat) (c : CoilIx) (s : State) : ClaimStep s (raiseOwed n c s) := by
  unfold raiseOwed
  simp only
  split
  · exact ClaimStep.refl s
  · split
    · exact (modCoil_claimStep s c _ (by rfl)).trans (raiseNotice_claimStep ..)
    · exact modCoil_claimStep s c _ (by rfl)

theorem owedChanged_ripple (z : ZoneIx) (s : State) : Ripple s (owedChanged z s) :=
  (reportMark_ripple z s).trans (selectZone_ripple z _)

theorem raiseZoneOwed_ripple (n : Nat) (z : ZoneIx) (s : State) : Ripple s (raiseZoneOwed n z s) :=
  (forEach_claimStep _ _ (fun c _ s => raiseOwed_claimStep n c s) s).toRipple.trans (owedChanged_ripple z _)

theorem testPhaseEnd_ripple (c : CoilIx) (s : State) : Ripple s (testPhaseEnd c s).1 := by
  unfold testPhaseEnd
  split
  · split
    · exact enterDrip_ripple c s
    · exact Ripple.refl s
  · split
    · exact (endFanDelay_claimStep c s).toRipple
    · exact Ripple.refl s
  all_goals exact Ripple.refl s

theorem expireInterval_ripple (c : CoilIx) (s : State) :
    Ripple (s.modCoil c fun k => { k with intervalTimer := some (k.interval * 60) }) (expireInterval c s) := by
  unfold expireInterval
  simp only
  split
  · exact Ripple.refl _
  · split
    · exact (modCoil_claimStep _ c _ (by rfl)).toRipple.trans (selectZone_ripple ..)
    · split
      · exact (raiseOwed_claimStep ..).toRipple.trans (owedChanged_ripple ..)
      · exact (raiseNotice_claimStep ..).toRipple

theorem expireSpacing_ripple (c : CoilIx) (s : State) : Ripple s (expireSpacing c s) :=
  (modCoil_claimStep s c _ (by rfl)).toRipple.trans (selectZone_ripple ..)

theorem expirePhase_ripple (c : CoilIx) (s : State) : Ripple s (expirePhase c s) := by
  have h1 : Ripple s (s.modCoil c fun k => { k with phaseTimer := none }) :=
    (modCoil_claimStep s c _ (by rfl)).toRipple
  unfold expirePhase
  extract_lets m z
  split
  · exact thenSelect_ripple _ _ (h1.trans (enterHeat_ripple ..))
  · exact thenSelect_ripple _ _ (h1.trans ((raiseNotice_claimStep ..).toRipple.trans (enterDrip_ripple ..)))
  · exact thenSelect_ripple _ _ (h1.trans (enterFanDelay_ripple ..))
  · exact thenSelect_ripple _ _ (h1.trans (endFanDelay_claimStep ..).toRipple)
  · exact h1
  · exact h1

theorem expireFollow_claimStep (c : CoilIx) (s : State) : ClaimStep s (expireFollow c s) := by
  have h1 : ClaimStep s (s.modCoil c fun k => { k with followTimer := none }) :=
    modCoil_claimStep s c _ (by rfl)
  unfold expireFollow
  extract_lets m k
  split
  · exact h1
  · exact h1.trans ((raiseNotice_claimStep ..).trans (modCoil_claimStep _ c _ (by rfl)))

/-! ## Releases and hand-overs -/

theorem dropHolder_nil (u : ShuttleIx) (h : Holder) : dropHolder u h [] = [] := rfl

theorem releaseClaim_ripple (r : RoomIx) (u : ShuttleIx) (h : Holder) (s : State) :
    Ripple s (releaseClaim r u h s) := by
  unfold releaseClaim
  extract_lets p m1 m2
  split
  · exact (modRoom_aside s r _ (by rfl) (by rfl)).toRipple
  · split
    · have h1 : ClaimStep s m1 := modRoom_claimStep s r _ (by rfl) (fun k e => by simp [k e, dropHolder_nil])
      have h2 : ClaimStep m1 m2 := by
        show ClaimStep m1 (if hasEntry m1 r u = true then m1 else tellNotReady r u m1)
        split
        · exact ClaimStep.refl _
        · exact tellNotReady_claimStep ..
      split
      · exact (h1.trans (h2.trans (handBackDoor_claimStep ..))).toRipple.trans (examineRoom_ripple ..)
      · exact (h1.trans h2).toRipple
    · exact Ripple.refl s

theorem releaseAllClaims_ripple (u : ShuttleIx) (h : Holder) (s : State) :
    Ripple s (releaseAllClaims u h s) :=
  forEach_ripple _ _ (fun r _ s => releaseClaim_ripple r u h s) s

theorem releaseOtherClaims_ripple (u : ShuttleIx) (h : Holder) (keep : List RoomIx) (s : State) :
    Ripple s (releaseOtherClaims u h keep s) :=
  forEach_ripple _ _ (fun r _ s => releaseClaim_ripple r u h s) s

theorem handOverClaims_ripple (u : ShuttleIx) (m : MoveId) (s : State) :
    Ripple s (handOverClaims u m s) :=
  forEach_ripple _ _ (fun r _ s =>
    (modRoom_claimStep s r _ (by rfl) (fun h e => by simp [h e])).toRipple) s

/-! ## Room doors -/

theorem enterOpen_claimStep (r : RoomIx) (s : State) : ClaimStep s (enterOpen r s) :=
  (modRoom_aside s r _ (by rfl) (by rfl)).trans (tellAllReady_claimStep ..)

theorem enterClosed_ripple (r : RoomIx) (s : State) : Ripple s (enterClosed r s) :=
  (modRoom_aside s r _ (by rfl) (by rfl)).toRipple.trans (examineRoom_ripple ..)

theorem noteOpenInDefrost_claimStep (r : RoomIx) (pos : DoorPos) (s : State) :
    ClaimStep s (noteOpenInDefrost r pos s) := by
  unfold noteOpenInDefrost
  simp only
  split
  · exact (modRoom_aside s r _ (by rfl) (by rfl)).trans (raiseNotice_claimStep ..)
  · exact ClaimStep.refl s

theorem closedOnClaim_claimStep (r : RoomIx) (s : State) : ClaimStep s (closedOnClaim r s) :=
  (tellAllNotReady_claimStep r s).trans ((openForClaims_claimStep ..).trans (raiseNotice_claimStep ..))

theorem roomClosedReport_ripple (r : RoomIx) (s : State) : Ripple s (roomClosedReport r s) := by
  unfold roomClosedReport
  simp only
  split
  · exact enterClosed_ripple r s
  · exact Ripple.refl s
  · split
    · exact Ripple.refl s
    · exact enterClosed_ripple r s
  · split
    · exact enterClosed_ripple r s
    · exact (closedOnClaim_claimStep r s).toRipple
  · exact enterClosed_ripple r s
  · split
    · exact enterClosed_ripple r s
    · exact (openForClaims_claimStep r s).toRipple

theorem roomMovingReport_ripple (r : RoomIx) (s : State) : Ripple s (roomMovingReport r s) := by
  unfold roomMovingReport
  simp only
  split
  · exact Ripple.refl s
  · exact ((modRoom_aside s r _ (by rfl) (by rfl)).trans (noteOpenInDefrost_claimStep ..)).toRipple
  · exact Ripple.refl s
  · split
    · exact (modRoom_aside s r _ (by rfl) (by rfl)).toRipple
    · exact (closedOnClaim_claimStep r s).toRipple
  · exact Ripple.refl s
  · split
    · exact (modRoom_aside s r _ (by rfl) (by rfl)).toRipple
    · exact (openForClaims_claimStep r s).toRipple

theorem roomOpenReport_ripple (r : RoomIx) (s : State) : Ripple s (roomOpenReport r s) := by
  unfold roomOpenReport
  simp only
  split
  · exact (enterOpen_claimStep r s).toRipple
  · exact ((modRoom_aside s r _ (by rfl) (by rfl)).trans
      ((enterOpen_claimStep ..).trans (noteOpenInDefrost_claimStep ..))).toRipple
  · exact (enterOpen_claimStep r s).toRipple
  · exact Ripple.refl s
  · split
    · exact Ripple.refl s
    · exact (enterOpen_claimStep r s).toRipple
  · exact (enterOpen_claimStep r s).toRipple

theorem alarmRoom_claimStep (r : RoomIx) (k : LatchKind) (v : Quad) (s : State) :
    ClaimStep s (alarmRoom r k v s) := by
  unfold alarmRoom
  split
  · exact ClaimStep.refl s
  · exact (modRoom_aside s r _ (by rfl) (by rfl)).trans (raiseNotice_claimStep ..)

theorem roomFaultReport_ripple (r : RoomIx) (s : State) : Ripple s (roomFaultReport r s) := by
  unfold roomFaultReport
  extract_lets p m1 m2
  split
  · exact Ripple.refl s
  · have h1 : ClaimStep s m1 := modRoom_aside s r _ (by rfl) (by rfl)
    have h2 : ClaimStep m1 m2 := by
      show ClaimStep m1 (if p.state = .opened then tellAllNotReady r m1 else m1)
      split
      · exact tellAllNotReady_claimStep r m1
      · exact ClaimStep.refl m1
    exact (h1.trans (h2.trans (alarmRoom_claimStep ..))).toRipple

theorem roomReport_ripple (r : RoomIx) (pos : DoorPos) (truck : Byte) (s : State) :
    Ripple s (roomReport r pos truck s) := by
  have h1 : Ripple s (s.modRoom r fun p => { p with position := some pos, truck := some truck }) :=
    (modRoom_aside s r _ (by rfl) (by rfl)).toRipple
  unfold roomReport
  cases pos
  · exact h1.trans (roomClosedReport_ripple ..)
  · exact h1.trans (roomMovingReport_ripple ..)
  · exact h1.trans (roomOpenReport_ripple ..)
  · exact h1.trans (roomFaultReport_ripple ..)

theorem expireDoor_claimStep (r : RoomIx) (s : State) : ClaimStep s (expireDoor r s) := by
  have h1 : ClaimStep s (s.modRoom r fun p => { p with doorTimer := none }) :=
    modRoom_aside s r _ (by rfl) (by rfl)
  unfold expireDoor
  extract_lets m
  split
  · exact h1.trans (raiseNotice_claimStep ..)
  · exact h1

end Sys2Proof.Machine
end

