-- ==== Sys2Proof/Laws/Wave.lean ====
section
/-! SUPPORT. What the moves, the shuttles and the pallets they carry can change in one handling: `Wave` says it once, and
each operation of Moves and Shuttles has one lemma saying that it is one. -/

namespace Sys2Proof.Machine

/-- A pallet record but for where it stands: location and status. -/
def Pallet.core (p : Pallet) : Pallet := { p with location := .unplaced, status := .dock }

/-- A lane but for its pallets and its reservations. -/
def SameLane (a b : Lane) : Prop := b = { a with pallets := b.pallets, reserved := b.reserved }

/-- A shuttle's configuration. -/
def SameLayout (a b : Shuttle) : Prop :=
  a = { b with
    state := a.state, position := a.position, deck := a.deck, slotA := a.slotA, slotB := a.slotB
    faultReason := a.faultReason, step := a.step, armed := a.armed, readyA := a.readyA
    readyB := a.readyB, stepTimer := a.stepTimer, parkTimer := a.parkTimer }

theorem SameLane.trans {a b c : Lane} (h : SameLane a b) (k : SameLane b c) : SameLane a c := by
  cases a; cases b; cases c; simp_all [SameLane]

theorem SameLayout.trans {a b c : Shuttle} (h : SameLayout a b) (k : SameLayout b c) : SameLayout a c := by
  cases a; cases b; cases c; simp_all [SameLayout]

theorem SameShuttle.layout {a b : Shuttle} (h : SameShuttle a b) : SameLayout a b := by
  cases a; cases b; simp_all [SameLayout, SameShuttle]

/-- What may change between two states when a move, a shuttle and the pallets act in one handling. -/
structure Wave (s t : State) : Prop where
  ports : PortsKept s t
  mode : t.mode = s.mode
  strap : t.strap = s.strap
  count : t.count = s.count
  exposureTimer : t.exposureTimer = s.exposureTimer
  trunkReady : t.trunkReady = s.trunkReady
  fieldReady : t.fieldReady = s.fieldReady
  policy : t.policy = s.policy
  classTable : t.classTable = s.classTable
  conditions : t.conditions = s.conditions
  probes : t.probes = s.probes
  docks : t.docks = s.docks
  classes : t.classes = s.classes
  departed : t.departed = s.departed
  lastMove : t.lastMove = s.lastMove
  pending : t.pending = s.pending
  zones : ∀ z, SameZone (s.zone z) (t.zone z)
  coils : ∀ c, SameCoil (s.coil c) (t.coil c)
  lanes : ∀ l, SameLane (s.lane l) (t.lane l)
  pallets : ∀ i, (t.pallet i).map Pallet.core = (s.pallet i).map Pallet.core
  shuttles : ∀ u, SameLayout (s.shuttle u) (t.shuttle u)
  holds : HoldsExcludeClaims s → HoldsExcludeClaims t

theorem Ripple.wave {s t : State} (h : Ripple s t) : Wave s t where
  ports := h.ports
  mode := h.mode
  strap := h.strap
  count := h.count
  exposureTimer := h.exposureTimer
  trunkReady := h.trunkReady
  fieldReady := h.fieldReady
  policy := h.policy
  classTable := h.classTable
  conditions := h.conditions
  probes := h.probes
  docks := h.docks
  classes := h.classes
  departed := h.departed
  lastMove := h.lastMove
  pending := h.pending
  zones := h.zones
  coils := h.coils
  lanes l := by
    have : t.lane l = s.lane l := by simp [State.lane, h.lanes]
    rw [this]; rfl
  pallets i := by simp [State.pallet, h.pallets]
  shuttles u := (h.shuttles u).layout
  holds := h.holds

theorem Wave.refl (s : State) : Wave s s := (Ripple.refl s).wave

theorem Wave.trans {a b c : State} (h : Wave a b) (k : Wave b c) : Wave a c where
  ports := h.ports.trans k.ports
  mode := k.mode.trans h.mode
  strap := k.strap.trans h.strap
  count := k.count.trans h.count
  exposureTimer := k.exposureTimer.trans h.exposureTimer
  trunkReady := k.trunkReady.trans h.trunkReady
  fieldReady := k.fieldReady.trans h.fieldReady
  policy := k.policy.trans h.policy
  classTable := k.classTable.trans h.classTable
  conditions := k.conditions.trans h.conditions
  probes := k.probes.trans h.probes
  docks := k.docks.trans h.docks
  classes := k.classes.trans h.classes
  departed := k.departed.trans h.departed
  lastMove := k.lastMove.trans h.lastMove
  pending := k.pending.trans h.pending
  zones z := (h.zones z).trans (k.zones z)
  coils i := (h.coils i).trans (k.coils i)
  lanes l := (h.lanes l).trans (k.lanes l)
  pallets i := (k.pallets i).trans (h.pallets i)
  shuttles u := (h.shuttles u).trans (k.shuttles u)
  holds := k.holds ∘ h.holds

theorem ClaimStep.wave {s t : State} (h : ClaimStep s t) : Wave s t := h.toRipple.wave

/-- Identifiers stay in their records. -/
theorem Wave.distinct {s t : State} (h : Wave s t) (d : PalletsDistinct s) : PalletsDistinct t := by
  intro i j p q hp hq e
  have hi := h.pallets i
  have hj := h.pallets j
  rw [hp] at hi; rw [hq] at hj
  obtain ⟨p', hp', ep⟩ : ∃ x, s.pallet i = some x ∧ x.core = p.core := by
    cases hs : s.pallet i <;> simp [hs] at hi ⊢; exact hi.symm
  obtain ⟨q', hq', eq⟩ : ∃ x, s.pallet j = some x ∧ x.core = q.core := by
    cases hs : s.pallet j <;> simp [hs] at hj ⊢; exact hj.symm
  refine d i j p' q' hp' hq' ?_
  have h1 : p'.core.id = p.core.id := congrArg Pallet.id ep
  have h2 : q'.core.id = q.core.id := congrArg Pallet.id eq
  exact h1.trans (e.trans h2.symm)

/-! ## The elementary steps -/

theorem modShuttle_wave (s : State) (u : ShuttleIx) (f : Shuttle → Shuttle)
    (hf : SameLayout (s.shuttle u) (f (s.shuttle u))) : Wave s (s.modShuttle u f) := by
  refine { Wave.refl s with
    ports := SamePorts.kept (by constructor <;> rfl), shuttles := fun u' => ?_ }
  rw [State.shuttle_modShuttle]
  split
  · rename_i h; subst h; exact hf
  · rfl

theorem modLane_wave (s : State) (l : LaneIx) (f : Lane → Lane)
    (hf : SameLane (s.lane l) (f (s.lane l))) : Wave s (s.modLane l f) := by
  refine { Wave.refl s with
    ports := SamePorts.kept (by constructor <;> rfl), lanes := fun l' => ?_ }
  rw [State.lane_modLane]
  split
  · rename_i h; subst h; exact hf
  · rfl

theorem modPallet_wave (s : State) (i : PalletIx) (f : Pallet → Pallet) (hf : ∀ p, (f p).core = p.core) :
    Wave s (s.modPallet i f) := by
  refine { Wave.refl s with
    ports := SamePorts.kept (by constructor <;> rfl), pallets := fun j => ?_ }
  rw [State.pallet_modPallet]
  split
  · rename_i h; subst h
    cases s.pallet i <;> simp [hf]
  · rfl

theorem moves_wave (s : State) (ms : List Move) : Wave s { s with moves := ms } :=
  { Wave.refl s with ports := SamePorts.kept (by constructor <;> rfl) }

theorem modMove_wave (s : State) (m : MoveId) (f : Move → Move) : Wave s (s.modMove m f) := moves_wave s _

theorem forEach_wave {α : Type} (l : List α) (f : α → State → State)
    (step : ∀ a ∈ l, ∀ s, Wave s (f a s)) (s : State) : Wave s (forEach l f s) :=
  forEach_rel Wave Wave.refl Wave.trans l f step s

/-! ## Pallets -/

theorem locatePallet_wave (id : PalletId) (loc : Location) (st : PalletStatus) (s : State) :
    Wave s (locatePallet id loc st s) := by
  unfold locatePallet
  split
  · exact modPallet_wave s _ _ (fun _ => rfl)
  · exact Wave.refl s

theorem appendToLane_wave (l : LaneIx) (id : PalletId) (s : State) : Wave s (appendToLane l id s) :=
  (modLane_wave s l _ (by rfl)).trans (locatePallet_wave ..)

theorem releaseReservation_wave (l : LaneIx) (s : State) : Wave s (releaseReservation l s) :=
  modLane_wave s l _ (by rfl)

theorem takeReservation_wave (l : LaneIx) (s : State) : Wave s (takeReservation l s) :=
  modLane_wave s l _ (by rfl)

theorem pickFromLane_wave (l : LaneIx) (u : ShuttleIx) (s : State) : Wave s (pickFromLane l u s).1 := by
  unfold pickFromLane
  split
  · exact (modLane_wave s l _ (by rfl)).trans
      ((modShuttle_wave _ u _ (by rfl)).trans (locatePallet_wave ..))
  · exact Wave.refl s

theorem placeFromDeck_wave (l : LaneIx) (u : ShuttleIx) (s : State) : Wave s (placeFromDeck l u s) := by
  unfold placeFromDeck
  extract_lets m
  have h1 : Wave s m := releaseReservation_wave l s
  split
  · exact h1.trans ((modShuttle_wave _ u _ (by rfl)).trans (appendToLane_wave ..))
  · exact h1

theorem setDeckStatus_wave (u : ShuttleIx) (st : PalletStatus) (s : State) :
    Wave s (setDeckStatus u st s) := by
  unfold setDeckStatus
  split
  · exact locatePallet_wave ..
  · exact Wave.refl s

theorem holdDeck_wave (u : ShuttleIx) (s : State) : Wave s (holdDeck u s) := setDeckStatus_wave ..

theorem carryDeck_wave (u : ShuttleIx) (s : State) : Wave s (carryDeck u s) := setDeckStatus_wave ..

theorem returnToLane_wave (l : LaneIx) (u : ShuttleIx) (s : State) : Wave s (returnToLane l u s) := by
  unfold returnToLane
  split
  · exact (modShuttle_wave _ u _ (by rfl)).trans (appendToLane_wave ..)
  · exact Wave.refl s

theorem unplaceDeck_wave (u : ShuttleIx) (s : State) : Wave s (unplaceDeck u s) := by
  unfold unplaceDeck
  split
  · exact (modShuttle_wave _ u _ (by rfl)).trans (locatePallet_wave ..)
  · exact Wave.refl s

/-! ## Moves -/

theorem raiseNotice_wave (k : NoticeKind) (o : NoticeObj) (v : Quad) (s : State) :
    Wave s (raiseNotice k o v s) := (raiseNotice_claimStep k o v s).wave

theorem dropMove_wave (m : Move) (s : State) : Wave s (dropMove m s) := by
  have h1 : Wave s { s with moves := s.moves.filter fun r => r.id != m.id } := moves_wave s _
  unfold dropMove
  simp only
  split
  · exact h1
  · exact h1.trans (modShuttle_wave _ _ _ (by rfl))

theorem reportEnd_wave (m : Move) (a : MoveResult) (b : MoveReason) (s : State) :
    Wave s (reportEnd m a b s) := (raiseNotice_wave ..).trans (dropMove_wave ..)

theorem endMove_wave (m : Move) (a : MoveResult) (b : MoveReason) (reserved : Bool) (s : State) :
    Wave s (endMove m a b reserved s) := by
  unfold endMove
  extract_lets m1 m2
  have h1 : Wave s m1 := by
    show Wave s (match m.shuttle with
      | some u => releaseAllClaims u (.move m.id) s
      | none => s)
    split
    · exact (releaseAllClaims_ripple ..).wave
    · exact Wave.refl s
  have h2 : Wave m1 m2 := by
    show Wave m1 (if reserved = true then releaseReservation m.dest m1 else m1)
    split
    · exact releaseReservation_wave ..
    · exact Wave.refl _
  exact h1.trans (h2.trans (reportEnd_wave ..))

theorem stopMove_wave (m : Move) (b : MoveReason) (reserved : Bool) (s : State) :
    Wave s (stopMove m b reserved s) := endMove_wave ..

theorem askEarlyClaims_wave (u : ShuttleIx) (s : State) : Wave s (askEarlyClaims u s) := by
  unfold askEarlyClaims
  split
  · exact Wave.refl s
  · split
    · exact Wave.refl s
    · exact (forEach_claimStep _ _ (fun r _ s => requestClaim_claimStep r u _ s) s).wave

theorem askPick_wave (u : ShuttleIx) (m : Move) (s : State) : Wave s (askPick u m s) := by
  unfold askPick
  split
  · exact (beginHandling_claimStep ..).wave
  · exact Wave.refl s

theorem askPlace_wave (u : ShuttleIx) (m : Move) (s : State) : Wave s (askPlace u m s) := by
  unfold askPlace
  split
  · exact (beginHandling_claimStep ..).wave
  · exact Wave.refl s

theorem moveArrived_wave (u : ShuttleIx) (id : MoveId) (s : State) : Wave s (moveArrived u id s) := by
  unfold moveArrived
  split
  · exact Wave.refl s
  · split
    · split
      · exact endMove_wave ..
      · exact (modMove_wave ..).trans (askPick_wave ..)
    · simp only
      split
      · exact (modMove_wave ..).trans ((askEarlyClaims_wave ..).trans (askPlace_wave ..))
      · exact (modMove_wave ..).trans (askPlace_wave ..)
    all_goals exact Wave.refl s

theorem askTravel_wave (u : ShuttleIx) (id : MoveId) (p : RailPos) (s : State) :
    Wave s (askTravel u id p s) := by
  unfold askTravel
  simp only
  split
  · exact Wave.refl s
  · split
    · exact moveArrived_wave ..
    · split
      · exact (beginTravel_claimStep ..).wave
      · exact modShuttle_wave s u _ (by rfl)

theorem moveTravel_wave (u : ShuttleIx) (m : Move) (p : RailPos) (s : State) :
    Wave s (moveTravel u m p s) := by
  unfold moveTravel
  simp only
  have h1 := (requestClaims_claimStep u (.move m.id)
    ((s.shuttle u).crossed (s.shuttle u).position p) s).wave
  split
  · exact h1.trans ((releaseOtherClaims_ripple ..).wave.trans (askTravel_wave ..))
  · exact h1.trans (stopMove_wave ..)

theorem goToSource_wave (u : ShuttleIx) (m : Move) (p : PalletId) (s : State) :
    Wave s (goToSource u m p s) := by
  unfold goToSource
  extract_lets m1
  have h1 : Wave s m1 := modMove_wave ..
  split
  · exact h1.trans (moveTravel_wave ..)
  · exact h1

theorem goToDest_wave (u : ShuttleIx) (m : Move) (p : PalletId) (s : State) :
    Wave s (goToDest u m p s) := by
  unfold goToDest
  extract_lets m1
  have h1 : Wave s m1 := modMove_wave ..
  split
  · exact h1.trans (moveTravel_wave ..)
  · exact h1

theorem readDest_wave (m : Move) (s : State) : Wave s (readDest m s) := modMove_wave ..

/-- After `readDest` the move's record holds the destination's quarantine lane field of that moment, and is otherwise
as it was. -/
theorem readDest_move? {m r : Move} {s : State} (h : s.move? m.id = some r) :
    (readDest m s).move? m.id = some { r with destQuarantine := (s.lane m.dest).quarantine } := by
  have e : r.id = m.id := by simpa using List.find?_some h
  rw [readDest, State.move?_modMove (h := by exact fun _ => rfl), h, Option.map_some, if_pos e]

@[simp] theorem readDest_lane (m : Move) (s : State) (l : LaneIx) : (readDest m s).lane l = s.lane l := rfl
@[simp] theorem readDest_pallet (m : Move) (s : State) (i : PalletIx) : (readDest m s).pallet i = s.pallet i := rfl
@[simp] theorem readDest_room (m : Move) (s : State) (r : RoomIx) : (readDest m s).room r = s.room r := rfl
@[simp] theorem readDest_shuttle (m : Move) (s : State) (u : ShuttleIx) :
    (readDest m s).shuttle u = s.shuttle u := rfl

theorem pickUpDecision_wave (u : ShuttleIx) (m : Move) (s : State) : Wave s (pickUpDecision u m s) := by
  unfold pickUpDecision
  split
  · split
    · exact stopMove_wave ..
    · exact (readDest_wave ..).trans ((takeReservation_wave ..).trans (goToDest_wave ..))
  · split
    · exact stopMove_wave ..
    · split
      · exact stopMove_wave ..
      · exact (readDest_wave ..).trans ((takeReservation_wave ..).trans (goToSource_wave ..))

theorem enterSlotA_wave (u : ShuttleIx) (id : MoveId) (s : State) : Wave s (enterSlotA u id s) :=
  (modShuttle_wave s u _ (by rfl)).trans (modMove_wave ..)

theorem enterSlotB_wave (u : ShuttleIx) (id : MoveId) (s : State) : Wave s (enterSlotB u id s) :=
  (modShuttle_wave s u _ (by rfl)).trans (modMove_wave ..)

theorem fillSlotA_wave (u : ShuttleIx) (s : State) : Wave s (fillSlotA u s) := by
  unfold fillSlotA
  split
  · exact (modShuttle_wave s u _ (by rfl)).trans (enterSlotA_wave ..)
  · split
    · split
      · exact enterSlotA_wave ..
      · exact Wave.refl s
    · exact Wave.refl s

theorem beginQueued_wave (u : ShuttleIx) (s : State) : Wave s (beginQueued u s) := by
  unfold beginQueued
  split
  · exact Wave.refl s
  · split
    · exact Wave.refl s
    · split
      · exact pickUpDecision_wave ..
      · exact Wave.refl s

theorem fillSlotB_wave (u : ShuttleIx) (s : State) : Wave s (fillSlotB u s) := by
  unfold fillSlotB
  simp only
  split
  · split
    · exact enterSlotB_wave ..
    · exact Wave.refl s
  · exact Wave.refl s

theorem settleLoop_wave (n : Nat) (u : ShuttleIx) (s : State) : Wave s (settleLoop n u s) := by
  induction n generalizing s with
  | zero => exact Wave.refl s
  | succ n ih =>
    unfold settleLoop
    split
    · exact fillSlotB_wave ..
    · extract_lets m1 m2
      have h1 : Wave s m1 := fillSlotA_wave ..
      have h2 : Wave s m2 := h1.trans (beginQueued_wave ..)
      split
      · exact h1
      · split
        · exact h2.trans (ih _)
        · exact h2.trans (fillSlotB_wave ..)

theorem settleRail_wave (u : ShuttleIx) (s : State) : Wave s (settleRail u s) := settleLoop_wave ..

theorem startPark_wave (u : ShuttleIx) (s : State) : Wave s (startPark u s) := by
  unfold startPark
  simp only
  split
  · exact modShuttle_wave s u _ (by rfl)
  · exact Wave.refl s

theorem retryStep_wave (u : ShuttleIx) (s : State) : Wave s (retryStep u s) := by
  unfold retryStep
  simp only
  split
  · split
    · exact Wave.refl s
    · split
      · exact moveTravel_wave ..
      · exact askPick_wave ..
      · exact moveTravel_wave ..
      · exact askPlace_wave ..
      · exact Wave.refl s
      · exact Wave.refl s
  · exact Wave.refl s

theorem enteredIdle_wave (u : ShuttleIx) (s : State) : Wave s (enteredIdle u s) :=
  (testArmed_claimStep u s).wave.trans
    ((retryStep_wave ..).trans ((beginQueued_wave ..).trans ((settleRail_wave ..).trans (startPark_wave ..))))

theorem movePicked_wave (u : ShuttleIx) (id : MoveId) (a : Option PalletId) (s : State) :
    Wave s (movePicked u id a s) := by
  unfold movePicked
  split
  · exact Wave.refl s
  · split
    · exact stopMove_wave ..
    · split
      · exact stopMove_wave ..
      · split
        · exact stopMove_wave ..
        · exact goToDest_wave ..

theorem movePlaced_wave (u : ShuttleIx) (id : MoveId) (s : State) : Wave s (movePlaced u id s) := by
  unfold movePlaced
  extract_lets m1
  have h1 : Wave s m1 := modMove_wave ..
  split
  · exact h1
  · split
    · exact h1.trans (pickUpDecision_wave ..)
    · exact h1.trans (endMove_wave ..)

theorem failMove_wave (u : ShuttleIx) (m : Move) (s : State) : Wave s (failMove u m s) := by
  unfold failMove
  extract_lets m1 m2
  have h1 : Wave s m1 := (handOverClaims_ripple ..).wave
  have h2 : Wave m1 m2 := by
    show Wave m1 (if m.state.reserves = true then releaseReservation m.dest m1 else m1)
    split
    · exact releaseReservation_wave ..
    · exact Wave.refl _
  exact h1.trans (h2.trans (reportEnd_wave ..))

theorem returnToQueue_wave (u : ShuttleIx) (id : MoveId) (s : State) : Wave s (returnToQueue u id s) := by
  have h1 := (releaseAllClaims_ripple u (.move id) s).wave
  unfold returnToQueue
  generalize releaseAllClaims u (.move id) s = m at h1 ⊢
  exact h1.trans ((modShuttle_wave m u _ (by rfl)).trans (modMove_wave ..))

theorem movesOnFault_wave (u : ShuttleIx) (s : State) : Wave s (movesOnFault u s) := by
  unfold movesOnFault
  extract_lets m1
  have h1 : Wave s m1 := by
    show Wave s (match (s.shuttle u).slotA.bind s.move? with
      | some m => if m.state = .queued then returnToQueue u m.id s else failMove u m s
      | none => s)
    split
    · split
      · exact returnToQueue_wave ..
      · exact failMove_wave ..
    · exact Wave.refl s
  split
  · exact h1.trans (returnToQueue_wave ..)
  · exact h1

theorem cancelMove_wave (m : Move) (s : State) : Wave s (cancelMove m s) := by
  have hend : Wave s (match moveRail? s m with
      | some u => settleRail u (endMove m .cancelled .none false s)
      | none => endMove m .cancelled .none false s) := by
    split
    · exact (endMove_wave ..).trans (settleRail_wave ..)
    · exact endMove_wave ..
  unfold cancelMove
  split
  · exact Wave.refl s
  · split
    · exact hend
    · exact hend
    · split
      · exact Wave.refl s
      · rename_i u _
        split
        · exact modMove_wave ..
        · refine (modShuttle_wave s u _ ?_).trans ((endMove_wave ..).trans (settleRail_wave ..))
          split <;> rfl
    all_goals exact modMove_wave ..

/-! ## Shuttles -/

theorem enterFault_wave (u : ShuttleIx) (reason : FaultReason) (s : State) :
    Wave s (enterFault u reason s) :=
  (modShuttle_wave s u _ (by rfl)).trans
    ((holdDeck_wave ..).trans ((raiseNotice_wave ..).trans (movesOnFault_wave ..)))

theorem endStep_wave (u : ShuttleIx) (s : State) : Wave s (endStep u s) := modShuttle_wave s u _ (by rfl)

theorem afterMoveStep_wave (u : ShuttleIx) (s : State) : Wave s (afterMoveStep u s) :=
  (settleRail_wave ..).trans (startPark_wave ..)

theorem arrive_wave (u : ShuttleIx) (p : RailPos) (q : Requester) (s : State) : Wave s (arrive u p q s) := by
  have h1 : Wave s ((endStep u s).modShuttle u fun v => { v with position := some p }) :=
    (endStep_wave u s).trans (modShuttle_wave _ u _ (by rfl))
  unfold arrive
  cases q
  · exact h1.trans ((moveArrived_wave ..).trans (afterMoveStep_wave ..))
  · exact h1.trans ((releaseAllClaims_ripple ..).wave.trans (enteredIdle_wave ..))

theorem picked_wave (u : ShuttleIx) (l : LaneIx) (m : MoveId) (s : State) : Wave s (picked u l m s) := by
  have h1 := (endStep_wave u s).trans (pickFromLane_wave l u (endStep u s))
  unfold picked
  generalize pickFromLane l u (endStep u s) = p at h1 ⊢
  exact h1.trans ((movePicked_wave ..).trans (afterMoveStep_wave ..))

theorem placed_wave (u : ShuttleIx) (l : LaneIx) (m : MoveId) (s : State) : Wave s (placed u l m s) :=
  (endStep_wave u s).trans
    ((placeFromDeck_wave l u _).trans ((movePlaced_wave ..).trans (afterMoveStep_wave ..)))

theorem homed_wave (u : ShuttleIx) (b : Byte) (s : State) : Wave s (homed u b s) := by
  unfold homed
  extract_lets m1 m2 m3 m4 m5
  have h1 : Wave s m1 := modShuttle_wave s u _ (by rfl)
  split
  · exact h1.trans (enterFault_wave ..)
  · exact h1.trans ((endStep_wave u _).trans ((modShuttle_wave _ u _ (by rfl)).trans
      ((releaseAllClaims_ripple ..).wave.trans ((carryDeck_wave ..).trans
        ((raiseNotice_wave ..).trans (enteredIdle_wave ..))))))

theorem shuttleReport_wave (u : ShuttleIx) (rep : Report) (p : RailPos) (b : Byte) (s : State) :
    Wave s (shuttleReport u rep p b s) := by
  unfold shuttleReport
  simp only
  split
  · split
    · split
      · exact arrive_wave ..
      · exact Wave.refl s
    all_goals exact Wave.refl s
  · split
    · exact picked_wave ..
    all_goals exact Wave.refl s
  · split
    · exact placed_wave ..
    all_goals exact Wave.refl s
  · split
    · split
      · exact homed_wave ..
      · exact Wave.refl s
    all_goals exact Wave.refl s
  · split
    · exact enterFault_wave ..
    · exact Wave.refl s
  · split
    · exact (setShuttleState_claimStep ..).wave.trans (raiseNotice_wave ..)
    · split
      · exact enterFault_wave ..
      · exact Wave.refl s
  · split
    · exact (setShuttleState_claimStep ..).wave.trans ((raiseNotice_wave ..).trans (enteredIdle_wave ..))
    · exact Wave.refl s

theorem expireStep_wave (u : ShuttleIx) (s : State) : Wave s (expireStep u s) := enterFault_wave ..

theorem startHoming_wave (u : ShuttleIx) (s : State) : Wave s (startHoming u s) :=
  (setShuttleState_claimStep ..).wave.trans
    ((forEach_claimStep _ _ (fun r _ s => requestClaim_claimStep r u _ s) _).wave.trans
      (testHoming_claimStep ..).wave)

theorem clearShuttle_wave (u : ShuttleIx) (d : Clearing) (s : State) : Wave s (clearShuttle u d s) := by
  unfold clearShuttle
  extract_lets m1 m2 m3
  have h1 : Wave s m1 := modShuttle_wave s u _ (by rfl)
  have h2 : Wave m1 m2 := by
    show Wave m1 (match d.deck, d.lane with
      | some _, some l => returnToLane l u m1
      | some _, none => carryDeck u m1
      | none, _ => unplaceDeck u m1)
    split
    · exact returnToLane_wave ..
    · exact carryDeck_wave ..
    · exact unplaceDeck_wave ..
  have h3 : Wave s m3 := h1.trans (h2.trans (releaseAllClaims_ripple ..).wave)
  split
  · exact h3.trans ((setShuttleState_claimStep ..).wave.trans (enteredIdle_wave ..))
  · exact h3.trans (setShuttleState_claimStep ..).wave

theorem startParking_wave (u : ShuttleIx) (s : State) : Wave s (startParking u s) := by
  unfold startParking
  simp only
  have h1 := (requestClaims_claimStep u .shuttle
    ((s.shuttle u).crossed (s.shuttle u).position (s.shuttle u).parkPos) s).wave
  split
  · exact h1.trans (releaseAllClaims_ripple ..).wave
  · refine h1.trans ((setShuttleState_claimStep u .parking _).wave.trans (Wave.trans ?_ (settleRail_wave ..)))
    split
    · exact arrive_wave ..
    · split
      · exact (beginTravel_claimStep ..).wave
      · exact modShuttle_wave _ u _ (by rfl)

theorem expirePark_wave (u : ShuttleIx) (s : State) : Wave s (expirePark u s) := by
  unfold expirePark
  extract_lets m1
  have h1 : Wave s m1 := modShuttle_wave s u _ (by rfl)
  split
  · exact h1.trans (startParking_wave ..)
  · exact h1

end Sys2Proof.Machine
end

