-- ==== Sys2Proof/Tests/Slice0.lean ====
section
/-! SUPPORT. Tests: the checks of Instr.wf, worked examples of spec/, and for each obligation with hypotheses a named
witness that meets them together. The expected values come from the rule a docstring names. -/

open Sys2Proof Sys2Proof.Machine

namespace Sys2Proof.Tests

set_option Elab.async false

/-! ## A small plant -/

/-- An upward entry of a node, any kind, bound to an object. -/
def upEntry (node : Byte) (b : Bound) : ClassEntry :=
  { ClassEntry.reset with loaded := true, valid := true, node := node, kind := none, object := b }

/-- A downward entry of a node, any kind, bound to an object. -/
def downEntry (node : Byte) (b : Bound) : ClassEntry := { upEntry node b with direction := .down }

/-- The table's first records replaced by those of a list. -/
def table {α : Type} {n : Nat} (x : α) (l : List α) : Vector α n := Vector.ofFn fun i => l.getD i.val x

/-- A frame that keeps a transmitter busy. -/
def other : Frame := { dest := 0x70#8, src := 0xF1#8, kind := 0x20#8, tag := 9#8, payload := [0#8, 0#8] }

/-- A frame to a destination, of a kind, with a payload of zeros. -/
def plainFrame (dest kind : Byte) (n : Nat) : Frame :=
  { dest := dest, src := 0x50#8, kind := kind, tag := 0#8, payload := List.replicate n 0#8 }

def notice (k : NoticeKind) (o : NoticeObj) (sv : Severity) : Notice :=
  { kind := k, obj := o, value := 0#32, time := 0#32, severity := sv }

/-- The header of a frame from a field node to the manager. -/
def from_ (node : Byte) : Header := { dest := 0xFE#8, src := node, tag := 5#8 }

/-- The header of a frame from the manager to a field node. -/
def to_ (node : Byte) : Header := { dest := node, src := 0xFE#8, tag := 6#8 }

/-- The manager, and a sender that is not. -/
def manager : Sender := { src := 0xFE#8, tag := 3#8 }
def stranger : Sender := { src := 0x42#8, tag := 3#8 }

def pallet (id : PalletId) (l : Location) (st : PalletStatus) : Pallet :=
  { id := id, cls := 0, location := l, status := st, quarantine := false, released := false, exposure := 0
    arrival := 0#32, portal := 0, departure := none }

def move (id : MoveId) (st : MoveState) (u : Option ShuttleIx) : Move :=
  { id := id, reqTag := 0#16, source := 0, dest := 1, named := none, priority := .normal, remaining := 1
    doneCount := 0, cancelling := false, state := st, shuttle := u, iteration := none, destQuarantine := false }

def zoneInUse : Zone :=
  { Zone.reset with loaded := true, inUse := true, limit := 100, warn := 160, alarm := 200, hysteresis := 10
                    eWarn := 500, eAlarm := 1000, recovery := 2, wOpen := 3, wSealed := 1, wBreach := 4
                    wUnsealed := 5, frostThreshold := 4 }

def dockLoaded : Dock :=
  { Dock.reset with loaded := true, sealOk := 100, sealLow := 50, receiveLane := 0, dispatchLane := 1
                    inflateTime := 20, deflateTime := 10, state := .idle, position := some .closed }

def coilOf (z : ZoneIx) : Coil :=
  { Coil.reset with loaded := true, zone := z, limit := 3, start := 3, pumpDown := 30, maxHeat := 600
                    terminate := 80, drip := 60, fanTemp := -40, fanMax := 120, minSpacing := 300
                    follow := 10 }

def laneOf (z : ZoneIx) (p : RailPos) : Lane :=
  { Lane.reset with loaded := true, zone := z, rail := some 0, position := p, depth := 4 }

def shuttleLoaded : Shuttle :=
  { Shuttle.reset with loaded := true, dockLow := 5, dockHigh := 20, roomA := some 0, homePos := 6
                       parkPos := 7, pitch := 3, settle := 2, handling := 8, parkTime := 60
                       state := .idle, position := some 10 }

/-- An ACTIVE part with both transmitters busy: zones 0 and 1, dock portal 0, room portal 0, coils 0 (zone 0) and
1 (zone 1), lanes 0 and 1 on the rail of shuttle 0, and the entries that bind their nodes. -/
def plant : State :=
  { State.reset with
    mode := .active, count := 1000#32, exposureTimer := some 0, trunkReady := true, fieldReady := true
    trunkTx := some other, fieldTx := some other
    classTable := table ClassEntry.reset
      [upEntry 0x01 (.probe 0), upEntry 0x02 (.coil 0), upEntry 0x03 (.door 0), upEntry 0x04 (.seal 0),
        upEntry 0x05 (.reader 0), upEntry 0x06 (.shuttle 0), upEntry 0x07 (.door 16),
        { upEntry 0x08 .none with forward := .onChange, refresh := 60 }, downEntry 0x21 (.door 0),
        downEntry 0x22 (.seal 0), downEntry 0x23 (.door 16), downEntry 0x24 (.coil 0),
        downEntry 0x25 (.shuttle 0), downEntry 0x26 (.actuator 7)]
    probes := table Probe.reset [{ Probe.reset with loaded := true, shift := 2, timeout := 30 }]
    zones := table Zone.reset [zoneInUse, zoneInUse]
    docks := table Dock.reset [dockLoaded]
    rooms := table Room.reset
      [{ Room.reset with loaded := true, openTime := 15, holdOpenTime := 40, state := .closed
                         position := some .closed }]
    coils := table Coil.reset [coilOf 0, coilOf 1]
    lanes := table Lane.reset [laneOf 0 8, laneOf 0 12]
    shuttles := table Shuttle.reset [shuttleLoaded] }

/-- The plant with records changed. -/
def withProbe (p : Probe) (s : State) : State := { s with probes := tset s.probes 0 p }
def withZone (z : ZoneIx) (f : Zone → Zone) (s : State) : State := s.modZone z f
def withDock (f : Dock → Dock) (s : State) : State := s.modDock 0 f
def withRoom (f : Room → Room) (s : State) : State := s.modRoom 0 f
def withCoil (c : CoilIx) (f : Coil → Coil) (s : State) : State := s.modCoil c f
def withShuttle (f : Shuttle → Shuttle) (s : State) : State := s.modShuttle 0 f
def withPallet (i : PalletIx) (p : Pallet) (s : State) : State := { s with pallets := tset s.pallets i (some p) }
def withLane (l : LaneIx) (ids : List PalletId) (s : State) : State :=
  s.modLane l fun n => { n with pallets := ids }

/-- The decision that a matched upward frame meets the premises of a report's statement. -/
theorem bound_up {s : State} {h : Header} {kind : Byte} {len : Nat} {e : Fin 128} {b : Bound}
    (w : (s.mode == .active && h.dest != 0#8 && decide (len ≤ 64)
      && matching? s .up h.src kind == some e && (s.entry e).object == b
      && ((s.entry e).maxPayload == 0 || decide (len ≤ (s.entry e).maxPayload))) = true := by decide +kernel) :
    BoundUp s h kind len e b := by
  simp only [Bool.and_eq_true, Bool.or_eq_true, beq_iff_eq, bne_iff_ne, decide_eq_true_eq] at w
  obtain ⟨⟨⟨⟨⟨a, b⟩, c⟩, d⟩, e⟩, f⟩ := w
  exact ⟨a, b, c, d, e, f⟩

/-- The same of a command toward the field. -/
theorem bound_down {s : State} {h : Header} {len : Nat} {e : Fin 128} {b : Bound}
    (w : (s.mode == .active && h.dest != 0#8 && h.dest != s.address && decide (len ≤ 64)
      && matching? s .down h.dest kindActCommand == some e && (s.entry e).object == b
      && ((s.entry e).maxPayload == 0 || decide (len ≤ (s.entry e).maxPayload))) = true := by decide +kernel) :
    BoundDown s h len e b := by
  simp only [Bool.and_eq_true, Bool.or_eq_true, beq_iff_eq, bne_iff_ne, decide_eq_true_eq] at w
  obtain ⟨⟨⟨⟨⟨⟨a, b⟩, g⟩, c⟩, d⟩, e⟩, f⟩ := w
  exact ⟨a, b, g, c, d, e, f⟩

/-- The manager may ask while fewer than four replies wait. -/
theorem manager_asks {s : State} (w : replyCount s < 4 := by decide +kernel) : FromManager manager s := ⟨rfl, w⟩

/-! ## The checks of Instr.wf refuse ill-formed terms -/

theorem test_wf_refuses_empty_run : (Instr.frameCompletion .trunk [] false).wf = false := by decide
theorem test_wf_refuses_long_sample :
    (Instr.sample (from_ 1) 0#8 0#16 0#8 (List.replicate 61 0#8)).wf = false := by decide
theorem test_wf_refuses_long_door_report :
    (Instr.doorReport (from_ 1) 0#8 0#8 (List.replicate 63 0#8)).wf = false := by decide
theorem test_wf_refuses_long_pressure :
    (Instr.pressure (from_ 1) 0#16 (List.replicate 63 0#8)).wf = false := by decide
theorem test_wf_refuses_long_tag_read :
    (Instr.tagRead (from_ 1) 1#32 0#8 0#8 (List.replicate 59 0#8)).wf = false := by decide
theorem test_wf_refuses_long_shuttle_report :
    (Instr.shuttleReport (from_ 1) 0#8 0#8 0#8 (List.replicate 62 0#8)).wf = false := by decide
theorem test_wf_refuses_long_coil_report :
    (Instr.coilReport (from_ 1) 0#16 0#8 (List.replicate 62 0#8)).wf = false := by decide
theorem test_wf_refuses_long_act_command :
    (Instr.actCommand (to_ 1) 0#8 0#8 (List.replicate 63 0#8)).wf = false := by decide
theorem test_wf_refuses_long_load :
    (Instr.loadEntry manager 1#8 0#8 (List.replicate 62 0#8)).wf = false := by decide
theorem test_wf_refuses_wide_read_key : (Instr.readObject manager 1#8 256#32 0#8).wf = false := by decide
theorem test_wf_refuses_wide_ack_key : (Instr.ackAlarm manager 3#8 256#32).wf = false := by decide

/-! ## Worked examples of the manual -/

/-- R3: the remainder of "123456789". -/
theorem test_crc_check_value :
    crc [0x31#8, 0x32#8, 0x33#8, 0x34#8, 0x35#8, 0x36#8, 0x37#8, 0x38#8, 0x39#8] = 0x29B1#16 := by decide +kernel

/-- Table 4-5: the filter from −4864 by two samples of −250 with offset 3 and shift 2, and the zone values. -/
theorem test_filter_of_table_4_5 :
    filterStep .valid (-4864) (-247) 2 = -4636 ∧ roundTemp (-4636) = -290
      ∧ filterStep .valid (-4636) (-247) 2 = -4465 ∧ roundTemp (-4465) = -279
      ∧ filterStep .valid (-3955) (-247) 2 = -3955 ∧ filterStep .valid (-3949) (-247) 2 = -3949 := by decide

/-- The zone of 4.13.2 at a value, a window and an alarm state. -/
def zone3 (t : Int) (w : Window) (a : AlarmState) (e : Nat) : Zone :=
  { zoneInUse with limit := -288, warn := -256, alarm := -224, hysteresis := 16, eWarn := 2000, eAlarm := 6000
                   recovery := 4, allowance := 80, value := t, status := .valid, window := w, alarmState := a
                   exposure := e }

/-- Table 4-5: the two expiries, E from 20 to 16 and from 16 to 25. -/
theorem test_exposure_of_table_4_5 :
    exposureStep (zone3 (-290) .closed .normal 20) = 16 ∧ exposureStep (zone3 (-279) .closed .normal 16) = 25 := by
  decide

/-- Table 4-6: expiries b, c, d, e, f and g. -/
theorem test_alarm_steps_of_table_4_6 :
    exposureStep (zone3 (-200) .openDefrost .normal 8) = 16
      ∧ alarmStep (zone3 (-200) .openDefrost .normal 16) = (.normal, none)
      ∧ alarmStep (zone3 (-170) .openDefrost .normal 54) = (.warning, some .zoneWarning)
      ∧ alarmStep (zone3 (-190) .openRecovery .warning 72) = (.warning, none)
      ∧ alarmStep (zone3 (-200) .openRecovery .warning 80) = (.normal, some .zoneNormal)
      ∧ alarmStep (zone3 (-250) .closed .normal 118) = (.warning, some .zoneWarning)
      ∧ alarmStep (zone3 (-290) .closed .warning 114) = (.normal, some .zoneNormal) := by decide

/-- 4.13.4: one expiry charges a pallet of a class of limit −240 in a zone at 64 with 304. -/
theorem test_pallet_account_of_4_13_4 :
    let s := { withPallet 0 { pallet 7#32 .unplaced .dock with cls := 2 }
        (withZone 0 (fun z => { z with value := 64, status := .valid }) plant) with
      classes := tset plant.classes 2 { loaded := true, limit := -240, budget := 54720, zones := 0#8 } }
    (match exec .exposureIntervalExpiry s with
      | .next t => (t.pallet 0).map Pallet.exposure
      | _ => none) = some 304 := by decide +kernel

/-- Table 1-13, choices 1 to 3: the refusal, then the ALARM notice with sequence 17, then U1. -/
theorem test_trunk_choices_of_table_1_13 :
    let s := { plant with
      answers := [.refusal other], sequence := 17#8, uplink := [plainFrame 0xFE 0x11 1, plainFrame 0xFE 0x11 2]
      notices := [notice .probeStale (.probe 0) .warning, notice .zoneAlarm (.zone 0) .alarm] }
    let step1 (o : Host.Outcome State Fault Refusal) : Option State :=
      match o with
      | .next t => some t
      | _ => none
    ((step1 (exec (.endOfTransmission .trunk) s)).bind fun t => step1 (exec (.endOfTransmission .trunk) t)).map
        (fun t => (t.trunkTx.map Frame.tag, t.notices.length, t.uplink.length, t.run))
      = some (some 17#8, 1, 2, 0) := by decide +kernel

/-- Table 2-5, frame 2: the same payload at age 30 below 60 is not placed; its hit is counted. -/
theorem test_thinning_of_table_2_5 :
    let s := plant.modEntry 7 fun n =>
      { n with object := .door 0, stored := some { payload := [0#8, 0#8], time := 100#32, age := 30 } }
    (match exec (.doorReport (from_ 8) 0#8 0#8 []) s with
      | .next t => (t.uplink.length, (t.entry 7).hits, (t.entry 7).stored.map Stored.time)
      | _ => (9, 9, none)) = (0, 1, some 100#32) := by decide +kernel

/-- R139, R146: the step of a PICK is given with its order and the lane it names, behind the presence byte. -/
theorem test_pick_step_names_its_lane :
    ((shuttleObject { shuttleLoaded with step := some (.pick 33 2) }).drop 12).take 3 = [1#8, 1#8, 33#8] := by
  decide +kernel

/-- R73, R167: a stopped staleness timer is four bytes of 0 in READ_ENTRY, without a presence byte. -/
theorem test_stopped_stale_timer_has_no_presence_byte :
    Probe.reset.runtime = [0#8, 0#8, 0#8, 0#8, 0#8, 0#8, 0#8, 0#8, 0#8, 0#8, 0#8, 0#8] := by decide +kernel

/-- R55: a sample taken first restarts the staleness timer, and the expiry that was due does not happen. -/
theorem test_sample_before_expiry :
    let s := withProbe { plant.probe 0 with staleTimer := some 0 } plant
    (match exec (.sample (from_ 1) 0#8 10#16 0#8 []) s with
      | .next t => match exec (.stalenessTimerExpiry 0) t with
        | .next v => ((v.probe 0).state, (v.probe 0).staleTimer)
        | _ => (.none, none)
      | _ => (.none, none)) = (.valid, some 30) := by decide +kernel

/-- The pallet table of no pallet, and of one. -/
def noPallets : Vector (Option Pallet) 256 := Vector.replicate 256 none
def onePallet (k : PalletIx) (p : Pallet) : Vector (Option Pallet) 256 := tset noPallets k (some p)

theorem none_used {s : State} (h : s.pallets = noPallets) {i : PalletIx} {p : Pallet} (w : s.pallet i = some p) :
    False := by
  simp [State.pallet, h, noPallets] at w

/-- A record in use is the only one. -/
theorem only_pallet {s : State} {k : PalletIx} {p : Pallet} (h : s.pallets = onePallet k p) {i : PalletIx}
    {q : Pallet} (w : s.pallet i = some q) : i = k ∧ q = p := by
  simp only [State.pallet, h, onePallet, tget_tset, noPallets, tget_replicate] at w
  split at w
  · exact ⟨by simp_all, by simp_all⟩
  · simp at w

theorem distinct_none {s : State} (h : s.pallets = noPallets) : PalletsDistinct s :=
  fun _ _ _ _ w _ _ => (none_used h w).elim

theorem distinct_one {s : State} {k : PalletIx} {p : Pallet} (h : s.pallets = onePallet k p) :
    PalletsDistinct s := fun _ _ _ _ a b _ => (only_pallet h a).1.trans (only_pallet h b).1.symm

/-! ## Witnesses: the queue, the receivers, the arbiters -/

theorem witness_StepTakesTheFrontCommand :
    ({ plant with pending := [.timeBaseTick, .activate manager] } : State).pending
        = .timeBaseTick :: [.activate manager]
      ∧ plant.pending = [] := ⟨rfl, rfl⟩

/-- A frame's bytes with another LEN and its CRC. -/
def rawBytes (f : Frame) (len : Byte) : List Byte := f.body.set 4 len ++ halfBytes (crc (f.body.set 4 len))

/-- Check 1 at 6, 7, 71 and 72 bytes, check 2 at LEN 65 and at LEN 0 for one byte, checks 3 and 4 after both. -/
theorem witness_ReceiveChecksDiscardInOrder :
    State.reset.ready .trunk = false ∧ plant.ready .trunk = true ∧ plant.ready .field = true
      ∧ (List.replicate 6 (0#8 : Byte)).length < 7 ∧ 71 < (List.replicate 72 (0#8 : Byte)).length
      ∧ (∀ b ∈ [rawBytes (plainFrame 1 1 64) 65#8, rawBytes (plainFrame 1 1 1) 0#8],
          (b.length = 71 ∨ b.length = 8) ∧ computedCrc b = receivedCrc b
            ∧ (64 < lenByte b ∨ lenByte b ≠ b.length - 7))
      ∧ (∀ b ∈ [(plainFrame 0 0x10 0).bytes, (plainFrame 0xFE 0x30 64).bytes],
          (b.length = 7 ∨ b.length = 71) ∧ computedCrc b = receivedCrc b ∧ lenByte b ≤ 64
            ∧ lenByte b = b.length - 7 ∧ (b.getD 0 1#8 = 0#8 ∨ b.getD 2 0#8 = 0x30#8))
      ∧ plant.mode = .active := by decide +kernel

/-- A TAG_READ whose payload fills 64 bytes, and an ACK_ALARM of the largest one-byte index. -/
theorem witness_EveryFrameCommandIsItsBytes :
    let i : Instr := .tagRead (from_ 5) 7#32 0#8 0#8 (List.replicate 58 1#8)
    let j : Instr := .ackAlarm manager 3#8 255#32
    i.wf = true ∧ (wireForm? plant.address i).isSome = true ∧ j.wf = true
      ∧ (wireForm? plant.address j).isSome = true ∧ plant.ready .field = true
      ∧ plant.ready .trunk = true := by decide +kernel

/-- The part in CONFIG with its receivers ready and its transmitters idle. -/
def configIdle : State := { State.reset with trunkReady := true, fieldReady := true }

def waitingFrame : Forwarded := { frame := other, target := none }

theorem witness_ConfigFramesPassThrough :
    let full := { configIdle with uplink := List.replicate 16 other, trunkTx := some other }
    let near := { configIdle with uplink := List.replicate 15 other, trunkTx := some other }
    let fullDown := { configIdle with forwarded := List.replicate 16 waitingFrame, fieldTx := some other }
    let nearDown := { configIdle with forwarded := List.replicate 15 waitingFrame, fieldTx := some other }
    configIdle.mode = .config ∧ configIdle.fieldReady = true ∧ configIdle.trunkReady = true
      ∧ (plainFrame 9 9 64).payload.length ≤ 64 ∧ 16 ≤ full.uplink.length ∧ near.uplink.length < 16
      ∧ near.trunkTx ≠ none ∧ configIdle.trunkTx = none ∧ configIdle.answers = []
      ∧ configIdle.notices = [] ∧ configIdle.uplink = []
      ∧ (plainFrame 0xF0 0x20 0).dest = configIdle.address ∧ (plainFrame 0xF0 0x20 0).kind ≠ 0x30#8
      ∧ (plainFrame 0xFF 0x30 0).dest = 0xFF#8 ∧ (plainFrame 9 9 64).dest ≠ configIdle.address
      ∧ 16 ≤ fullDown.forwarded.length ∧ nearDown.forwarded.length < 16 ∧ nearDown.fieldTx ≠ none := by
  decide +kernel

def waitingOrder : Originated := { obj := .shuttle 0, frame := other }

theorem witness_FieldArbiterTakesOriginatedFirst :
    let both := { plant with originated := [waitingOrder], forwarded := [waitingFrame] }
    let one := { plant with forwarded := [waitingFrame] }
    both.fieldTx ≠ none ∧ both.originated = waitingOrder :: [] ∧ one.fieldTx ≠ none ∧ one.originated = []
      ∧ one.forwarded = waitingFrame :: [] ∧ plant.originated = [] ∧ plant.forwarded = [] := by decide +kernel

def infoNotice : Notice := notice .homed (.shuttle 0) .info
def warnNotice : Notice := notice .probeStale (.probe 0) .warning
def alarmNotice : Notice := notice .zoneAlarm (.zone 0) .alarm

/-- A run of 3 still takes a forwarded frame; a run of 4 takes the notice. -/
theorem witness_TrunkArbiterChoosesByClass :
    let ans := { plant with answers := [.reply other], notices := [alarmNotice], uplink := [other] }
    let mixed := { plant with notices := [infoNotice, alarmNotice, warnNotice], uplink := [other] }
    let run4 := { plant with notices := [infoNotice, warnNotice], uplink := [other], run := 4 }
    let run3 := { run4 with run := 3 }
    ans.answers = .reply other :: [] ∧ NoticesDistinct mixed
      ∧ mixed.notices = [infoNotice] ++ alarmNotice :: [warnNotice] ∧ alarmNotice.severity = .alarm
      ∧ NoticesDistinct run4 ∧ run4.answers = [] ∧ run4.notices = infoNotice :: [warnNotice] ∧ run4.run = 4
      ∧ run3.uplink = other :: [] ∧ plant.answers = [] ∧ plant.notices = [] ∧ plant.uplink = []
      ∧ ans.trunkTx ≠ none ∧ infoNotice.severity ≠ .alarm ∧ (∀ m ∈ run4.notices, m.severity ≠ .alarm)
      ∧ (run3.run ≠ 4 ∨ run3.notices = []) :=
  ⟨rfl, by unfold NoticesDistinct; decide +kernel, rfl, rfl, by unfold NoticesDistinct; decide +kernel, rfl,
    rfl, rfl, rfl, rfl, rfl, rfl, by decide +kernel⟩

/-- Four replies and three, beside a refusal; the requests of each mode; the empty payload, names 00H and 16H, and
short fields of each kind, an object key and an entry's bytes among them. -/
theorem witness_AnswersJoinTheirQueue :
    let full := { plant with answers := List.replicate 8 (.refusal other) }
    let near := { plant with answers := List.replicate 7 (.refusal other) }
    let holding (n : Nat) : State := { plant with answers := .refusal other :: List.replicate n (.reply other) }
    let asked (payload : List Byte) : Frame := { plainFrame plant.address 0x30 0 with payload := payload }
    8 ≤ refusalCount full ∧ refusalCount near < 8 ∧ near.trunkTx ≠ none
      ∧ configIdle.answers = [] ∧ configIdle.trunkTx = none ∧ configIdle.mode = .config ∧ plant.mode = .active
      ∧ 4 ≤ replyCount (holding 4) ∧ replyCount (holding 3) < 4 ∧ manager.src = 0xFE#8
      ∧ (∀ i ∈ ([.clearTable manager 10#8, .activate manager, .deactivate manager, .homeShuttle manager 3#8,
            .moveOrder manager 1#16 0#8 1#8 0#32 0#8 0#8, .cancelMove manager 23#8, .defrostNow manager 15#8 0#8,
            .clearShuttle manager 3#8 0#8 0#8 0#32 0#8 0#8, .quietEnter manager 7#8, .quietExit manager 1#8]
            : List Instr), (requestPayload? i).map Prod.fst = some manager)
      ∧ plant.trunkReady = true ∧ (asked []).dest = plant.address ∧ (asked []).kind = 0x30#8
      ∧ (∀ p ∈ ([[], [0#8], 0x16#8 :: List.replicate 63 0#8, [3#8], 10#8 :: List.replicate 9 0#8,
            [4#8, 6#8, 0#8, 0#8, 0#8, 7#8], [0x12#8, 6#8, 0#8, 0#8, 7#8], 1#8 :: 4#8 :: 0#8 :: List.replicate 29 0#8,
            1#8 :: 4#8 :: 7#8 :: List.replicate 28 0#8] : List (List Byte)), (asked p).payload.length ≤ 64)
      ∧ Table.code .zone = 4 ∧ Table.zone.entries = 8 := by decide +kernel

/-- 32 pending notices of 24 moves and 8 probes, with or without an INFO among them. -/
def fullNotices (sv : Severity) : List Notice :=
  ((List.finRange 24).map fun m => notice .moveResult (.move m) sv)
    ++ (List.finRange 8).map fun z => notice .zoneStale (.zone z) .alarm

theorem witness_NoticesCoalesceOrDisplace :
    let same := { plant with notices := [infoNotice, warnNotice] }
    let near := { plant with notices := (fullNotices .info).drop 1 }
    let infos := { plant with notices := fullNotices .info }
    let warns := { plant with notices := fullNotices .warning }
    (∃ m ∈ same.notices, m.kind = warnNotice.kind ∧ m.obj = warnNotice.obj)
      ∧ (∀ m ∈ near.notices, ¬(m.kind = alarmNotice.kind ∧ m.obj = alarmNotice.obj))
      ∧ near.notices.length = 31 ∧ infos.notices.length = 32
      ∧ (∀ m ∈ infos.notices, ¬(m.kind = warnNotice.kind ∧ m.obj = warnNotice.obj))
      ∧ infos.notices = [] ++ notice .moveResult (.move 0) .info :: infos.notices.drop 1
      ∧ (∀ m ∈ warns.notices, ¬(m.kind = alarmNotice.kind ∧ m.obj = alarmNotice.obj))
      ∧ (∀ m ∈ warns.notices, m.severity ≠ .info)
      ∧ warns.notices = [] ++ notice .moveResult (.move 0) .warning :: warns.notices.drop 1
      ∧ (∀ m ∈ { plant with notices := fullNotices .alarm }.notices, m.severity = .alarm) := by
  decide +kernel

/-- Entry 12 names SHUTTLE 0; nothing names coil 15. -/
theorem witness_OriginatedFramesAreAddressed :
    let names (o : OrigObj) (e : Fin 128) : Prop :=
      (plant.entry e).valid = true ∧ (plant.entry e).direction = .down
        ∧ ((plant.entry e).kind = none ∨ (plant.entry e).kind = some 0x21#8) ∧ (plant.entry e).object = o.bound
    names (.shuttle 0) 12 ∧ (∀ e' < 12, ¬names (.shuttle 0) e') ∧ (∀ e, ¬names (.coil 15) e)
      ∧ plant.fieldTx ≠ none ∧ (∀ p ∈ plant.originated, p.obj ≠ .shuttle 0)
      ∧ (∃ p ∈ { plant with originated := [waitingOrder] }.originated, p.obj = .shuttle 0) := by
  decide +kernel

/-! ## Witnesses: what every step keeps -/

/-- The exposure interval has run out; shuttle 0 travels to the source of its move, which has its reservation. -/
def underWay : State :=
  { plant with
    pending := [.exposureIntervalExpiry], moves := [move 2 .toSource (some 0)]
    lanes := tset plant.lanes 1 { plant.lane 1 with reserved := 1 }
    shuttles := tset plant.shuttles 0
      { shuttleLoaded with state := .travelling, slotA := some 2, step := some (.travel 8 (.move 2)) } }

theorem underWay_serves (u : ShuttleIx) : ShuttleServes underWay u := by
  by_cases h : u = 0
  · subst h
    refine ⟨by decide +kernel, ?_, ?_, ?_, ?_, by decide +kernel, fun _ m w => ?_, fun _ m w => ?_⟩
    · rintro x ⟨⟩
      decide +kernel
    · rintro x m ⟨⟩ ⟨⟩
      exact ⟨rfl, _, List.mem_singleton.2 rfl, rfl, rfl, .inl rfl⟩
    · rintro p m ⟨⟩
    · rintro p ⟨⟩
    · obtain rfl : (2 : MoveId) = m := by injection w
      exact ⟨_, List.mem_singleton.2 rfl, rfl, rfl, by decide⟩
    · cases w
  · have e : underWay.shuttle u = Shuttle.reset := by revert h; revert u; decide +kernel
    constructor <;> simp [e, Shuttle.reset]

/-- A state that meets the rules of PortsStayWithinBounds, HoldsAlwaysExcludeClaims, IdentifiersStayUnique,
ValuesStayInRange and LanesNeverOverfill together, and that has a next state. -/
theorem witness_invariants :
    let s := underWay
    QueuesBounded s ∧ NoticesDistinct s ∧ s.trunkCounters.inRange ∧ s.fieldCounters.inRange
      ∧ TransmittersServe s ∧ HoldsExcludeClaims s ∧ PalletsDistinct s ∧ MovesBounded s ∧ FilteredInRange s
      ∧ AccountsInRange s ∧ OwedInRange s ∧ LanesHold s ∧ (∀ u, ShuttleServes s u) ∧ s.notices.length ≤ 32
      ∧ (∃ t, step s = .next t) := by
  refine ⟨?_, ?_, ?_, ?_, ?_, ?_, distinct_none rfl, ?_, ?_, ?_, ?_, ?_, underWay_serves, ?_, _, rfl⟩
  case refine_9 => exact ⟨by decide +kernel, fun _ _ w => (none_used rfl w).elim⟩
  all_goals
    first
    | decide +kernel
    | constructor <;> decide +kernel
    | unfold HoldsExcludeClaims; decide +kernel
    | unfold FilteredInRange; decide +kernel

/-! ## Witnesses: classification and the gate -/

theorem witness_MatchedFramesGoByForwardMode :
    let f := headerFrame (from_ 0x08) 0x10#8 [0#8, 0#8, 1#8, 0#8]
    let other : Frame := { f with kind := 0x40#8 }
    let i : Instr := .sample (from_ 0x08) 0#8 1#16 0#8 []
    let held (p : List Byte) (age : Nat) : State := plant.modEntry 7 fun n =>
      { n with stored := some { payload := p, time := 0#32, age := age } }
    let idle := { plant with trunkTx := none }
    BoundUp plant ⟨f.dest, f.src, f.tag⟩ f.kind f.payload.length 7 .none
      ∧ BoundUp (held [0#8, 0#8, 1#8, 0#8] 59) ⟨f.dest, f.src, f.tag⟩ f.kind f.payload.length 7 .none
      ∧ BoundUp idle ⟨other.dest, other.src, other.tag⟩ other.kind other.payload.length 7 .none
      ∧ rowFrame? i = some (.field, f) ∧ (plant.entry 7).stored = none ∧ plant.uplink.length < 16
      ∧ plant.fieldReady = true ∧ other.kind ≠ 0x30#8 ∧ idle.trunkTx = none ∧ idle.answers = [] ∧ idle.notices = []
      ∧ idle.uplink = []
      ∧ plant.trunkTx ≠ none ∧ ((held [0#8, 0#8, 1#8, 0#8] 59).entry 7).refresh = 60
      ∧ 16 ≤ ({ plant with uplink := List.replicate 16 Tests.other } : State).uplink.length :=
  ⟨bound_up, bound_up, bound_up, by decide +kernel⟩

/-- Upward frames and commands that no entry matches, or that their entry turns away; downward frames of the part's own
kinds and of others, at an entry that forwards, suppresses or thins, with the queue full, near and empty. -/
theorem witness_FramesThatReachNoUnitAreCounted :
    let i (n : Byte) : Instr := .pressure (from_ n) 1#16 []
    let f (n : Byte) := headerFrame (from_ n) 0x12#8 [0#8, 1#8]
    let c (n a : Byte) : Instr := .actCommand (to_ n) a 0#8 []
    let d (n k : Byte) : Frame := plainFrame n k 64
    let entry9 (g : ClassEntry → ClassEntry) : ClassEntry := (plant.modEntry 9 g).entry 9
    plant.mode = .active ∧ (f 0x60).dest ≠ 0#8 ∧ (f 0x60).payload.length ≤ 64
      ∧ rowFrame? (i 0x60) = some (.field, f 0x60) ∧ matching? plant .up 0x60 0x12#8 = none
      ∧ plant.fieldReady = true ∧ matching? plant .up 0x60 0x40#8 = none ∧ matching? plant .up 0x01 0x40#8 = some 0
      ∧ plant.policy = .forward ∧ matching? plant .up 0x01 0x12#8 = some 0
      ∧ (plant.entry 0).object = .probe 0 ∧ (plant.entry 0).maxPayload = 0
      ∧ ((plant.modEntry 0 fun n => { n with maxPayload := 1 }).entry 0).maxPayload < (f 1).payload.length
      ∧ rowFrame? (c 0x60 0) = some (.trunk, headerFrame (to_ 0x60) 0x20#8 [0#8, 0#8])
      ∧ (to_ 0x60).dest ≠ plant.address ∧ matching? plant .down 0x60 0x20#8 = none
      ∧ rowFrame? (c 0x22 6) = some (.trunk, headerFrame (to_ 0x22) 0x20#8 [6#8, 0#8]) ∧ 5 < (6#8 : Byte).toNat
      ∧ (to_ 0x22).dest ≠ plant.address ∧ matching? plant .down 0x22 0x20#8 = some 9
      ∧ (entry9 id).maxPayload = 0 ∧ (entry9 fun n => { n with maxPayload := 1 }).maxPayload < [6#8, 0#8].length
      ∧ (entry9 fun n => { n with object := .none }).object = .none
      ∧ (Bound.seal 1).inService plant = false
      ∧ plant.trunkReady = true ∧ (d 0x22 0x10).dest ≠ plant.address ∧ (d 0x22 0x10).payload.length ≤ 64
      ∧ (∀ k ∈ [0x10#8, 0x21#8, 0x22#8, 0x30#8], matching? plant .down 0x22 k = some 9
          ∧ matching? plant .down 0x99 k = none ∧ k ≠ 0x20#8)
      ∧ (entry9 fun n => { n with maxPayload := 63 }).maxPayload < (d 0x22 0x10).payload.length
      ∧ (entry9 id).forward = .forward ∧ (entry9 fun n => { n with forward := .suppress }).forward = .suppress
      ∧ (entry9 fun n => { n with forward := .onChange }).stored = none
      ∧ 16 ≤ ({ plant with forwarded := List.replicate 16 waitingFrame } : State).forwarded.length
      ∧ plant.forwarded = [] ∧ plant.fieldTx ≠ none ∧ plant.originated = []
      ∧ ({ plant with fieldTx := none } : State).fieldTx = none := by decide +kernel

/-- Each row of Table 3-2 at a refusing and at a passing state, and the targets of the part's own. -/
theorem witness_BuiltInChecksRefuseCommands :
    let heating := withCoil 1 (fun k => { k with phase := .pumpDown }) plant
    let dock (st : DockState) (pos : DoorPos) := withDock (fun d => { d with state := st, position := some pos }) plant
    (∀ x ∈ ([(0x21#8, 2, 8, .door (dockPortal 0)), (0x22#8, 64, 9, .seal 0), (0x23#8, 2, 10, .door (roomPortal 0)),
          (0x24#8, 2, 11, .coil 0), (0x25#8, 64, 12, .shuttle 0), (0x26#8, 2, 13, .actuator 7)]
          : List (Byte × Nat × Fin 128 × Bound)), BoundDown plant (to_ x.1) x.2.1 x.2.2.1 x.2.2.2)
      ∧ (plant.dock 0).loaded = true ∧ (plant.dock 0).state ≠ .sealed
      ∧ ((dock .sealed .closed).dock 0).state = .sealed ∧ ((dock .sealed .moving).dock 0).position = some .moving
      ∧ (plant.dock 0).position = some .closed ∧ (plant.zone (roomZone 0)).inUse = true
      ∧ (heating.coil 1).loaded = true ∧ (heating.coil 1).zone = roomZone 0 ∧ (plant.room 0).hold ≠ .set
      ∧ (∀ c, ¬((plant.coil c).loaded = true ∧ (plant.coil c).zone = roomZone 0 ∧ (plant.coil c).phase ≠ .cool))
      ∧ ((withZone 1 (fun z => { z with quiet := true }) plant).zone (roomZone 0)).quiet = true
      ∧ (plant.zone (roomZone 0)).quiet = false ∧ (plant.room 0).claims = []
      ∧ ((withRoom (fun r => { r with claims := [⟨0, [.shuttle]⟩] }) plant).room 0).claims ≠ []
      ∧ (5#8 : Byte).toNat ≤ 5 ∧ (plant.coil 0).loaded = true ∧ (plant.shuttle 0).loaded = true
      ∧ (∀ i, (plant.condition i).enabled = false) ∧ plant.forwarded.length < 16 ∧ plant.fieldTx ≠ none := by
  refine ⟨fun x w => ?_, by decide +kernel⟩
  simp only [List.mem_cons, List.not_mem_nil, or_false] at w
  rcases w with rfl | rfl | rfl | rfl | rfl | rfl <;> exact bound_down

/-- The condition "zone 0 not warmer than 5": its subject is unavailable while the zone is STALE. -/
def notWarm : Condition :=
  { Condition.reset with loaded := true, enabled := true, action := none, target := .actuator none
                         subject := .zone 0 .temperature, cmp := .le, reference := 5, reason := 200#8 }

theorem witness_ConditionsAdmitCommandsToTheShare :
    let s := plant.modCondition 63 fun _ => notWarm
    BoundDown s (to_ 0x26) 2 13 (.actuator 7) ∧ BoundDown plant (to_ 0x22) 2 9 (.seal 0)
      ∧ (Bound.actuator 7).target? = some .actuator ∧ action? (4#8 : Byte).toNat = some .coilPhase
      ∧ (Bound.actuator 7).inService s = true ∧ builtInRefusal? s .actuator .coilPhase = none
      ∧ (s.condition 63).enabled = true ∧ subjectValue? s notWarm.subject = none
      ∧ subjectValue? (withZone 0 (fun z => { z with value := 5, status := .valid }) s) notWarm.subject = some 5
      ∧ (∀ j < 63, (s.condition j).enabled = false) ∧ (Bound.seal 0).target? = some (.dock 0)
      ∧ builtInRefusal? plant (.dock 0) .sealInflate = none ∧ (∀ i, (plant.condition i).enabled = false)
      ∧ plant.fieldTx ≠ none ∧ (plant.dock 0).state = .idle ∧ plant.forwarded.length < 16
      ∧ 16 ≤ ({ plant with forwarded := List.replicate 16 waitingFrame } : State).forwarded.length :=
  ⟨bound_down, bound_down, by decide +kernel⟩

/-! ## Witnesses: reports from the field nodes -/

/-- A probe of coil 0 while the coil heats, at a reading of exactly the terminate temperature. -/
def coilProbe : State :=
  withCoil 0 (fun k => { k with phase := .heat, phaseTimer := some 60 })
    (withProbe { Probe.reset with loaded := true, binding := .coil 0, timeout := 30, state := .stale } plant)

/-- A sample of each kind at its bound, loaded probe; the extra bytes fill the payload. The coil heats, without a drip
time, or waits for its fans; its readings are exactly the terminate and the fan temperature. -/
theorem witness_SamplesUpdateTheirProbe :
    let short := withCoil 0 (fun k => { k with drip := 0 }) coilProbe
    let fans := withCoil 0 (fun k => { k with phase := .fanDelay }) coilProbe
    BoundUp plant (from_ 1) 0x10#8 (4 + 60) 0 (.probe 0) ∧ BoundUp coilProbe (from_ 1) 0x10#8 4 0 (.probe 0)
      ∧ BoundUp fans (from_ 1) 0x10#8 4 0 (.probe 0) ∧ CoilAlone fans 0 ∧ CoilAlone short 0
      ∧ HoldReleased short 0 plant.rooms
      ∧ (plant.probe 0).loaded = true ∧ (plant.probe 0).binding = .zone 0 ∧ (plant.zone 0).status = .stale
      ∧ (coilProbe.probe 0).loaded = true ∧ (coilProbe.probe 0).binding = .coil 0
      ∧ (coilProbe.coil 0).phase = .heat ∧ (coilProbe.coil 0).drip ≠ 0 ∧ (short.coil 0).drip = 0
      ∧ (coilProbe.coil 0).terminate ≤ (16 * (80#16 : Half).toInt + 8) / 16
      ∧ (coilProbe.coil 0).probeState = .none ∧ (fans.coil 0).phase = .fanDelay
      ∧ (16 * (-40#16 : Half).toInt + 8) / 16 ≤ (fans.coil 0).fanTemp :=
  ⟨bound_up, bound_up, bound_up, by unfold CoilAlone; decide +kernel, by unfold CoilAlone; decide +kernel,
    .inl (by decide +kernel), by decide +kernel⟩

def heatingCoil : State := withCoil 0 (fun k => { k with phase := .heat, phaseTimer := some 60 }) plant

/-- An unknown echo 5, a known echo 4, a reading of exactly the terminate temperature in HEAT, with and without a drip
time, and one of exactly the fan temperature in FAN_DELAY. -/
theorem witness_CoilReportsAreKept :
    let short := withCoil 0 (fun k => { k with drip := 0 }) heatingCoil
    let fans := withCoil 0 (fun k => { k with phase := .fanDelay }) heatingCoil
    BoundUp plant (from_ 2) 0x15#8 3 1 (.coil 0) ∧ BoundUp plant (from_ 2) 0x10#8 4 1 (.coil 0)
      ∧ BoundUp heatingCoil (from_ 2) 0x15#8 3 1 (.coil 0) ∧ BoundUp fans (from_ 2) 0x10#8 4 1 (.coil 0)
      ∧ CoilAlone fans 0 ∧ CoilAlone short 0 ∧ HoldReleased short 0 plant.rooms ∧ (plant.coil 0).loaded = true
      ∧ 4 < (5#8 : Byte).toNat ∧ (4#8 : Byte).toNat = CmdPhase.fanDelay.code ∧ (plant.coil 0).phase ≠ .heat
      ∧ (plant.coil 0).phase ≠ .fanDelay ∧ (heatingCoil.coil 0).phase = .heat ∧ hasProbe heatingCoil 0 = false
      ∧ (heatingCoil.coil 0).terminate ≤ (80#16 : Half).toInt ∧ (heatingCoil.coil 0).reported ≠ .valid
      ∧ (heatingCoil.coil 0).drip ≠ 0 ∧ (short.coil 0).drip = 0 ∧ (fans.coil 0).phase = .fanDelay
      ∧ (-40#16 : Half).toInt ≤ (fans.coil 0).fanTemp ∧ hasProbe fans 0 = false :=
  ⟨bound_up, bound_up, bound_up, bound_up, by unfold CoilAlone; decide +kernel, by unfold CoilAlone; decide +kernel,
    .inl (by decide +kernel), by decide +kernel⟩

/-- A door position 4 is unknown; pressures of exactly the OK and the low threshold, and one below it. -/
theorem witness_DockPortalsFollowTheirReports :
    BoundUp plant (from_ 3) 0x11#8 2 2 (.door (dockPortal 0)) ∧ BoundUp plant (from_ 4) 0x12#8 2 3 (.seal 0)
      ∧ (plant.dock 0).loaded = true ∧ 3 < (4#8 : Byte).toNat ∧ (plant.dock 0).state ≠ .unknown
      ∧ (plant.dock 0).state ≠ .fault ∧ (plant.dock 0).sealOk ≤ (100#16 : Half).toNat
      ∧ (49#16 : Half).toNat < (plant.dock 0).sealLow ∧ (plant.dock 0).sealLow ≤ (50#16 : Half).toNat
      ∧ ((withDock (fun d => { d with state := .fault }) plant).dock 0).state = .fault :=
  ⟨bound_up, bound_up, by decide +kernel⟩

/-- Room portal 0 claimed by shuttle 0, whose travel into room A is armed. -/
def claimed (st : RoomState) : State :=
  withRoom (fun p => { p with state := st, claims := [⟨0, [.move 2]⟩] })
    (withShuttle (fun v => { v with armed := some ⟨4, .move 2⟩ }) plant)

theorem witness_DoorReportsMoveRoomPortals :
    let waits := withRoom (fun p => { p with state := .opening, hold := .waiting }) plant
    let held := withRoom (fun p => { p with hold := .set }) plant
    BoundUp plant (from_ 7) 0x11#8 2 6 (.door (roomPortal 0)) ∧ (plant.zone (roomZone 0)).inUse = true
      ∧ (plant.room 0).claims = [] ∧ (plant.room 0).hold = .clear ∧ (plant.room 0).state = .closed
      ∧ (waits.room 0).state = .opening ∧ (waits.room 0).request ≠ .opening ∧ (waits.room 0).hold = .waiting
      ∧ (held.room 0).hold = .set ∧ (held.room 0).openDuringHold = false ∧ (held.room 0).state = .closed
      ∧ ((claimed .opened).room 0).claims ≠ [] ∧ ((claimed .opened).room 0).state = .opened
      ∧ ((claimed .fault).room 0).state = .fault ∧ ((claimed .fault).room 0).latch.fault = false
      ∧ ((claimed .opening).room 0).claims = [⟨0, [.move 2]⟩] ∧ ((claimed .opening).room 0).state = .opening
      ∧ ((claimed .opening).shuttle 0).armed = some ⟨4, .move 2⟩ ∧ ((claimed .opening).shuttle 0).state = .idle
      ∧ ((claimed .opening).shuttle 0).crossed (some 10) 4 = [0]
      ∧ ((claimed .opening).shuttle 0).position = some 10 ∧ 3 < (4#8 : Byte).toNat :=
  ⟨bound_up, by decide +kernel⟩

def openDock : State := withDock (fun d => { d with state := .openSealed, position := some .opened }) plant

/-- A plant with one pallet at the head of lane 0, and one with it on the deck. -/
def inLane : State :=
  withLane 0 [7#32] (withPallet 0 { pallet 7#32 (.lane 0) .dock with quarantine := true } openDock)
def onDeck : State :=
  withShuttle (fun v => { v with deck := some 7#32 }) (withPallet 0 (pallet 7#32 (.deck 0) .carried) openDock)

/-- An identifier of 0, a class 8, an unknown direction, and the bounds of each; a closed door. -/
theorem witness_TagReadsArriveAndDepart :
    BoundUp plant (from_ 5) 0x13#8 6 4 (.reader 0) ∧ (plant.dock 0).loaded = true
      ∧ ¬((0#32 : Quad) ≠ 0#32) ∧ ¬((8#8 : Byte).toNat ≤ 7) ∧ ¬((2#8 : Byte).toNat ≤ 1)
      ∧ (1#32 : Quad) ≠ 0#32 ∧ (7#8 : Byte).toNat = (7 : ClassIx).val ∧ (plant.dock 0).state = .idle :=
  ⟨bound_up, by decide +kernel⟩

/-- Records all in use: with the oldest departure at record 255, and with none. -/
def fullTable : State :=
  { openDock with
    departed := [255], pallets := Vector.replicate 256 (some (pallet 7#32 .none .departed)) }

/-- IN reads: an arrival into a lane of depth 4 that holds 3, one at a full lane, one into the record of the oldest
departure, one at a full table, one of a departed pallet, and three of live pallets. -/
theorem witness_arrivals :
    let three := withLane 0 [1#32, 2#32, 3#32] openDock
    let four := withLane 0 [1#32, 2#32, 3#32, 4#32] openDock
    let gone := { withPallet 0 (pallet 7#32 .none .departed) openDock with departed := [0] }
    BoundUp three (from_ 5) 0x13#8 6 4 (.reader 0) ∧ BoundUp fullTable (from_ 5) 0x13#8 6 4 (.reader 0)
      ∧ (∀ j q, three.pallet j = some q → q.id ≠ 9#32) ∧ PalletsDistinct gone ∧ PalletsDistinct inLane
      ∧ PalletsDistinct onDeck ∧ (three.dock 0).loaded = true ∧ (three.dock 0).state = .openSealed
      ∧ three.pallet 0 = none ∧ (three.lane 0).pallets.length + (three.lane 0).reserved < (three.lane 0).depth
      ∧ (four.lane 0).depth ≤ (four.lane 0).pallets.length + (four.lane 0).reserved
      ∧ (∀ j, fullTable.pallet j ≠ none) ∧ fullTable.departed = 255 :: []
      ∧ ({ fullTable with departed := [] } : State).departed = []
      ∧ gone.pallet 0 = some (pallet 7#32 .none .departed)
      ∧ inLane.pallet 0 = some { pallet 7#32 (.lane 0) .dock with quarantine := true }
      ∧ (inLane.dock 0).receiveLane = 0 ∧ onDeck.pallet 0 = some (pallet 7#32 (.deck 0) .carried) :=
  ⟨bound_up, bound_up, fun _ _ w => (none_used rfl w).elim, distinct_one rfl,
    distinct_one rfl, distinct_one rfl, by decide +kernel⟩

/-- OUT reads: of a pallet in no record, on the deck, departed, in a lane and from nowhere. -/
theorem witness_departures :
    let nowhere := withPallet 0 (pallet 7#32 .unplaced .dock) openDock
    let out := withDock (fun d => { d with dispatchLane := 0 }) inLane
    BoundUp onDeck (from_ 5) 0x13#8 6 4 (.reader 0) ∧ BoundUp inLane (from_ 5) 0x13#8 6 4 (.reader 0)
      ∧ (∀ i q, onDeck.pallet i = some q → q.id ≠ 8#32) ∧ PalletsDistinct onDeck ∧ PalletsDistinct inLane
      ∧ PalletsDistinct nowhere ∧ (onDeck.dock 0).state = .openSealed
      ∧ onDeck.pallet 0 = some (pallet 7#32 (.deck 0) .carried)
      ∧ nowhere.pallet 0 = some (pallet 7#32 .unplaced .dock) ∧ (inLane.dock 0).dispatchLane ≠ 0
      ∧ (out.dock 0).dispatchLane = 0 ∧ (out.lane 0).pallets.head? = some 7#32 :=
  ⟨bound_up, bound_up,
    fun _ _ w => by rw [(only_pallet rfl w).2]; decide, distinct_one rfl, distinct_one rfl, distinct_one rfl,
    by decide +kernel⟩

/-- A shuttle on its way to the source of the move in slot A, with slot B taken. -/
def toSource : State :=
  withShuttle (fun v => { v with
    state := .travelling, slotA := some 2, slotB := some 3, step := some (.travel 63 (.move 2))
    stepTimer := some 90 })
    { plant with moves := [{ move 2 .toSource (some 0) with iteration := some 7#32 }, move 3 .staged (some 0)] }

/-- Shuttle 0 homing, its order sent, and in NOT_READY. -/
def homing : State :=
  withShuttle (fun v => { v with
    state := .homing, step := some .homing, stepTimer := some 600, position := none }) plant
def resting (f : Shuttle → Shuttle) : State := withShuttle (fun v => f { v with state := .notReady }) plant

/-- A report with no step under way, NOT_READY in IDLE, READY with nothing to do and with a travel armed in the dock
segment, FAULT and HOMED while homing, ARRIVED at the park position and at the source of a move. -/
theorem witness_ShuttleReportsEndTheirStep :
    let armed := resting fun v => { v with armed := some ⟨12, .move 2⟩, slotA := some 2, slotB := some 3 }
    let parking := withShuttle (fun v => { v with state := .parking, step := some (.travel 7 .shuttle) }) plant
    let stops := withShuttle (fun v => { v with slotB := none })
      { toSource with moves := [{ move 2 .toSource (some 0) with cancelling := true }] }
    BoundUp plant (from_ 6) 0x14#8 3 5 (.shuttle 0) ∧ BoundUp toSource (from_ 6) 0x14#8 64 5 (.shuttle 0)
      ∧ BoundUp stops (from_ 6) 0x14#8 3 5 (.shuttle 0) ∧ OnlyMove stops 0 2 ∧ NoClaims stops
      ∧ (plant.shuttle 0).loaded = true ∧ 6 < (7#8 : Byte).toNat ∧ 63 < (64#8 : Byte).toNat
      ∧ (plant.shuttle 0).step = none ∧ (plant.shuttle 0).state = .idle ∧ plant.moves = []
      ∧ ((resting id).shuttle 0).state = .notReady ∧ ((resting id).shuttle 0).step = none
      ∧ (armed.shuttle 0).armed = some ⟨12, .move 2⟩ ∧ (armed.shuttle 0).crossed (some 10) 12 = []
      ∧ (armed.shuttle 0).position = some 10 ∧ (armed.shuttle 0).slotA ≠ none ∧ (armed.shuttle 0).slotB ≠ none
      ∧ (homing.shuttle 0).state = .homing ∧ (homing.shuttle 0).step = some .homing
      ∧ (6#8 : Byte).toNat = (homing.shuttle 0).homePos.val ∧ (homing.shuttle 0).deck = none
      ∧ (∀ r, (homing.room r).claims = [] ∧ (homing.room r).waiting = [])
      ∧ (parking.shuttle 0).step = some (.travel 7 .shuttle)
      ∧ (toSource.shuttle 0).loaded = true ∧ (toSource.shuttle 0).step = some (.travel 63 (.move 2))
      ∧ (63#8 : Byte).toNat = (63 : RailPos).val
      ∧ toSource.move? 2 = some { move 2 .toSource (some 0) with iteration := some 7#32 }
      ∧ (toSource.shuttle 0).slotA = some 2 ∧ (toSource.shuttle 0).slotB = some 3
      ∧ (stops.move? 2).map Move.cancelling = some true ∧ (stops.shuttle 0).slotB = none
      ∧ (stops.shuttle 0).armed = none :=
  ⟨bound_up, bound_up, bound_up, by unfold OnlyMove; decide +kernel, by unfold NoClaims; decide +kernel,
    by decide +kernel⟩

/-- A move of shuttle 0 in a state, with its step under way, beside lane 0 or lane 1 and with one reservation; it
decided for a quarantine lane, or not. -/
def serving (st : MoveState) (x : Step) (pos : RailPos) (s : State) (bound : Bool := false) : State :=
  withShuttle (fun v => { v with step := some x, slotA := some 2, position := some pos
                                 state := match x with
                                   | .pick _ _ => .lifting
                                   | .place _ _ => .lowering
                                   | .travel _ _ => .travelling
                                   | .homing => .homing })
    ({ s with
        moves := [{ move 2 st (some 0) with iteration := some 7#32, remaining := 2, destQuarantine := bound }]
      }.modLane 1 fun n => { n with reserved := 1 })

/-- At PICKED a pallet held back from the lane decided for, or not held back from it; at PLACED a placement
that is the last and one that is not. -/
theorem witness_PicksAndPlacementsMovePallets :
    let pick := serving .picking (.pick 0 2) 8 inLane
    let bound := serving .picking (.pick 0 2) 8 inLane true
    let place := serving .placing (.place 1 2) 12 (withLane 0 [9#32] onDeck)
    BoundUp pick (from_ 6) 0x14#8 3 5 (.shuttle 0) ∧ BoundUp bound (from_ 6) 0x14#8 3 5 (.shuttle 0)
      ∧ BoundUp place (from_ 6) 0x14#8 64 5 (.shuttle 0)
      ∧ PalletsDistinct pick ∧ PalletsDistinct place ∧ (pick.shuttle 0).loaded = true ∧ (63#8 : Byte).toNat ≤ 63
      ∧ (∀ r, (pick.room r).claims = [] ∧ (pick.room r).waiting = [])
      ∧ (∀ r ∈ pick.moves, r.id = 2) ∧ (pick.move? 2).isSome = true ∧ (place.move? 2).isSome = true
      ∧ (pick.shuttle 0).slotA = some 2 ∧ (pick.shuttle 0).slotB = none ∧ (pick.shuttle 0).armed = none
      ∧ (pick.shuttle 0).step = some (.pick 0 2) ∧ (pick.shuttle 0).position = some 8 ∧ (pick.shuttle 0).deck = none
      ∧ (pick.lane 0).pallets = 7#32 :: [] ∧ (pick.lane 1).position ≠ 8
      ∧ (pick.move? 2).map Move.destQuarantine = some false ∧ (pick.move? 2).bind Move.iteration = some 7#32
      ∧ (bound.move? 2).map Move.destQuarantine = some true ∧ (bound.lane 1).quarantine = false
      ∧ (pick.shuttle 0).crossed (some 8) (pick.lane 1).position = []
      ∧ pick.pallet 0 = some { pallet 7#32 (.lane 0) .dock with quarantine := true }
      ∧ (place.shuttle 0).step = some (.place 1 2) ∧ (place.shuttle 0).deck = some 7#32
      ∧ place.pallet 0 = some (pallet 7#32 (.deck 0) .carried) ∧ 0 < (place.lane 1).reserved
      ∧ (place.lane 1).pallets.length + (place.lane 1).reserved < (place.lane 1).depth
      ∧ (place.shuttle 0).crossed (some 12) (place.lane 0).position = [] :=
  ⟨bound_up, bound_up, bound_up, distinct_one rfl, distinct_one rfl, by decide +kernel⟩

/-- A move that decided for a quarantine lane carries the held-back pallet on, although a load has made the lane an
ordinary one before PICKED (R120, R154). -/
theorem test_picked_goes_on_as_decided :
    (match exec (.shuttleReport (from_ 6) 1#8 8#8 1#8 []) (serving .picking (.pick 0 2) 8 inLane true) with
      | .next t => t.moves.map Move.state
      | .fault _ | .refused _ => []) = [.carrying] := by decide +kernel

/-- A move that decided for an ordinary lane ends STOPPED with QUARANTINE, although a load has made the lane a quarantine
lane before PICKED (R120, R154, Table 9-3). -/
theorem test_picked_stops_as_decided :
    (match exec (.shuttleReport (from_ 6) 1#8 8#8 1#8 [])
        (serving .picking (.pick 0 2) 8 (inLane.modLane 1 fun n => { n with quarantine := true })) with
      | .next t => (t.moves.map Move.state, t.notices.map Notice.value)
      | .fault _ | .refused _ => ([], [])) = ([], [0x00020300#32]) := by decide +kernel

/-! ## Witnesses: requests -/

theorem witness_TimeBaseCountsRunningSeconds :
    FromManager manager plant ∧ configIdle.mode = .config ∧ plant.mode = .active ∧ plant.exposureTimer = some 0
      ∧ ({ plant with exposureTimer := some 1, count := 0xFFFFFFFF#32 } : State).exposureTimer ≠ some 0 :=
  ⟨manager_asks, by decide +kernel⟩

def entryFields : List Byte := [1#8, 0#8, 0xEF#8, 0#8, 0xFF#8, 7#8, 0#8, 2#8, 60#8, 64#8]
def conditionFields : List Byte :=
  [1#8, 0xFF#8, 0xFF#8, 0#8, 0#8, 22#8, 1#8, 31#8, 0#8, 3#8, 0xFF#8, 0xFF#8, 0xFF#8, 0xFE#8, 255#8]
def probeFields : List Byte := [0#8, 0#8, 0x80#8, 7#8, 0x02#8, 0x58#8]
def zoneFields (kind inUse : Byte) : List Byte :=
  [kind, inUse, 0x07#8, 0xD0#8, 0x07#8, 0xD0#8, 0x07#8, 0xD0#8, 160#8, 0#8, 0xFF#8, 0xFF#8, 0xFF#8, 0#8, 0xFF#8,
    0xFF#8, 0xFF#8, 255#8, 0x01#8, 0x40#8, 0x0E#8, 0x10#8, 0#8, 4#8, 1#8, 2#8, 3#8, 4#8, 1#8, 1#8]
def dockFields (lane : Byte) : List Byte := [0#8, 0#8, lane, 1#8, 0#8, 99#8, 0#8, 98#8, 120#8, 1#8]
def roomFields : List Byte := [1#8, 1#8, 60#8, 0#8]
def coilFields (z : Byte) : List Byte :=
  [z, 0x05#8, 0xA0#8, 8#8, 8#8, 0#8, 0#8, 0#8, 60#8, 0xFC#8, 0x90#8, 0#8, 0#8, 0#8, 0#8, 0#8, 0#8, 0#8, 0#8, 60#8]
def laneFields (depth quarantine : Byte) : List Byte := [0#8, 0#8, 0#8, 8#8, depth, quarantine]
def classFields : List Byte := [0x07#8, 0xD0#8, 0#8, 0#8, 0#8, 1#8, 0xFE#8]
def shuttleFields (home : Byte) : List Byte :=
  [5#8, 20#8, 1#8, 1#8, 0#8, 0#8, home, 7#8, 255#8, 0#8, 60#8, 0x0E#8, 0x10#8]

/-- Fields at the ends of their ranges for every table, in CONFIG and in ACTIVE; a table 10, a table 0, an index
beyond the table, and an entry whose node address is 0. -/
theorem witness_LoadsStoreTheirFields :
    let s := { plant with mode := .config }
    FromManager manager s ∧ FromManager manager plant
      ∧ (∃ n, readLane (inLane.lane 0) [1#8, 0#8, 0#8, 8#8, 1#8, 0#8] = some n ∧ n.zone ≠ (inLane.lane 0).zone)
      ∧ s.mode = .config ∧ (readClassEntry entryFields).isSome = true ∧ entryFields.length = 10
      ∧ (readCondition conditionFields).isSome = true ∧ conditionFields.length = 15
      ∧ (readProbe (s.probe 31) probeFields).isSome = true
      ∧ (readZone 7 (s.zone 7) (zoneFields 1 0)).isSome = true
      ∧ (readZone 0 (s.zone 0) (zoneFields 0 1)).isSome = true ∧ (readPolicy (zoneFields 0 1)).isSome = true
      ∧ (readDock (s.dock 15) (dockFields 47)).isSome = true ∧ (readRoom 0 (s.room 0) roomFields).isSome = true
      ∧ (readCoilEntry (s.coil 15) (coilFields 7)).isSome = true
      ∧ (readLane (s.lane 47) (laneFields 16 1)).isSome = true ∧ (s.lane 47).pallets = []
      ∧ (readProductClass classFields).isSome = true
      ∧ (readShuttleEntry (s.shuttle 3) (shuttleFields 63)).isSome = true ∧ (inLane.lane 0).pallets ≠ []
      ∧ 9 < (10#8 : Byte).toNat ∧ Table.shuttle.entries ≤ (4#8 : Byte).toNat
      ∧ readClassEntry [1#8, 0#8, 0#8, 0#8, 0xFF#8, 7#8, 0#8, 2#8, 60#8, 64#8] = none :=
  ⟨manager_asks, manager_asks, ⟨_, rfl, by decide +kernel⟩,
    by decide +kernel⟩

/-- Loads in ACTIVE that change a structural field, that turn round an ordering pair, that change live fields alone,
and that name a record not loaded; coil 0 masked, its zone starting nothing; coil 1 heating under a SET hold, and
waiting for a WAITING hold that its new limit makes or leaves unforced, at a free door and at a claimed one. -/
theorem witness_StructuralFieldsAreFixedWhileActive :
    let masked := withCoil 0 (fun k => { k with mask := true, owed := 8 }) plant
    let held := withRoom (fun p => { p with hold := .set }) (withCoil 1 (fun k => { k with phase := .heat }) plant)
    let waits (owed : Int) (b : Bool) (claims : List Claim) : State :=
      withRoom (fun p => { p with hold := .waiting, holdForced := b, claims := claims })
        (withCoil 1 (fun k => { k with phase := .portalWait, owed := owed, forced := b }) plant)
    FromManager manager plant ∧ plant.mode = .active
      ∧ (∃ p, readProbe (plant.probe 0) probeFields = some p ∧ p.binding = (plant.probe 0).binding)
      ∧ (∃ n, readZone 1 (plant.zone 1) (zoneFields 1 0) = some n ∧ n.inUse ≠ (plant.zone 1).inUse)
      ∧ (∃ n, readZone 0 (masked.zone 0) (zoneFields 0 1) = some n ∧ n.inUse = (masked.zone 0).inUse
          ∧ n.warn ≤ n.alarm ∧ n.eWarn ≤ n.eAlarm)
      ∧ (∃ n, readZone 1 (plant.zone 1) ((zoneFields 1 1).set 5 0xD1#8 |>.set 4 0#8 |>.set 6 0#8) = some n
          ∧ n.alarm < n.warn)
      ∧ (∃ d, readDock (plant.dock 0) (dockFields 0) = some d ∧ d.receiveLane = (plant.dock 0).receiveLane
          ∧ d.dispatchLane = (plant.dock 0).dispatchLane ∧ d.sealLow < d.sealOk)
      ∧ (∃ d, readDock (plant.dock 0) ((dockFields 0).set 7 99#8) = some d ∧ d.sealOk ≤ d.sealLow)
      ∧ (∃ d, readDock (plant.dock 0) (dockFields 47) = some d ∧ d.receiveLane ≠ (plant.dock 0).receiveLane)
      ∧ (∃ k, readCoilEntry (plant.coil 0) (coilFields 7) = some k ∧ k.zone ≠ (plant.coil 0).zone)
      ∧ (∃ k, readCoilEntry (plant.coil 0) ((coilFields 0).set 3 7#8) = some k ∧ k.limit < k.start)
      ∧ (∃ k, readCoilEntry (masked.coil 0) (coilFields 0) = some k ∧ k.limit = (masked.coil 0).owed
          ∧ k.start ≤ k.limit ∧ k.zone = 0)
      ∧ (∃ k, readCoilEntry (held.coil 1) (coilFields 1) = some k ∧ k.zone = roomZone 0 ∧ (held.room 0).hold = .set)
      ∧ (∃ k, readCoilEntry ((waits 8 false []).coil 1) ((coilFields 1).set 6 30#8) = some k
          ∧ k.limit = ((waits 8 false []).coil 1).owed ∧ ((waits 8 false []).coil 1).limit ≠ k.limit
          ∧ ((waits 8 false []).room 0).holdForced = false ∧ k.pumpDown ≠ 0
          ∧ ∀ d, d ≠ 1 → ((waits 8 false []).coil d).loaded = true →
              ((waits 8 false []).coil d).zone ≠ roomZone 0)
      ∧ (∃ k, readCoilEntry ((waits 3 true []).coil 1) ((coilFields 1).set 6 30#8) = some k
          ∧ ((waits 3 true []).coil 1).owed < k.limit ∧ ((waits 3 true []).coil 1).limit ≠ k.limit
          ∧ ((waits 3 true []).room 0).holdForced = true ∧ ((waits 3 true []).room 0).state = .closed)
      ∧ ((waits 3 true [⟨0, [.shuttle]⟩]).room 0).claims ≠ []
      ∧ ((waits 8 false [⟨0, [.shuttle]⟩]).room 0).hold = .waiting
      ∧ (∃ n, readLane (plant.lane 0) (laneFields 4 1) = some n
          ∧ n = { plant.lane 0 with quarantine := n.quarantine })
      ∧ (∃ n, readLane (plant.lane 0) (laneFields 5 1) = some n ∧ n.depth ≠ (plant.lane 0).depth)
      ∧ (∃ v, readShuttleEntry (plant.shuttle 0) (shuttleFields 63) = some v
          ∧ v.homePos ≠ (plant.shuttle 0).homePos)
      ∧ (∃ v, readShuttleEntry (plant.shuttle 0) (shuttleFields 6) = some v
          ∧ v = { plant.shuttle 0 with
                  pitch := v.pitch, settle := v.settle, handling := v.handling, parkTime := v.parkTime })
      ∧ (plant.probe 31).loaded = false ∧ (readProbe (plant.probe 31) probeFields).isSome = true
      ∧ (∀ d, (masked.coil d).loaded = true → (masked.coil d).zone = 0 → (masked.coil d).mask = true)
      ∧ (held.coil 1).mask = false ∧ (held.coil 1).phase ≠ .cool := by
  and_intros
  all_goals
    first
    | rfl
    | exact ⟨_, rfl, by decide +kernel⟩
    | decide +kernel

/-- For each table fields with one value just beyond its range. -/
theorem witness_FieldRangesAreChecked :
    FromManager manager plant
      ∧ readClassEntry (entryFields.set 9 65#8) = none ∧ readClassEntry (entryFields.set 2 0xF0#8) = none
      ∧ readCondition (conditionFields.set 5 23#8) = none ∧ readCondition (conditionFields.set 7 32#8) = none
      ∧ readProbe (plant.probe 31) (probeFields.set 5 0x59#8) = none
      ∧ readZone 7 (plant.zone 7) ((zoneFields 1 0).set 8 161#8) = none
      ∧ readZone 0 (plant.zone 0) (zoneFields 1 1) = none ∧ readPolicy ((zoneFields 0 1).set 29 2#8) = none
      ∧ readDock (plant.dock 15) (dockFields 48) = none ∧ readRoom 6 (plant.room 6) roomFields = none
      ∧ readCoilEntry (plant.coil 15) (coilFields 8) = none ∧ readLane (plant.lane 47) (laneFields 17 1) = none
      ∧ readProductClass (classFields.set 6 0xFF#8) = none
      ∧ readShuttleEntry (plant.shuttle 3) (shuttleFields 64) = none ∧ (zoneFields 0 1).length = 30
      ∧ (15#8 : Byte).toNat = (15 : DockIx).val ∧ (22#8 : Byte).toNat = 16 + (6 : RoomIx).val :=
  ⟨manager_asks, by decide +kernel⟩

theorem witness_LoadedFieldsReadBack :
    (readClassEntry entryFields).isSome = true ∧ (readCondition conditionFields).isSome = true
      ∧ (readProbe Probe.reset probeFields).isSome = true
      ∧ (readZone 7 Zone.reset (zoneFields 1 0)).isSome = true
      ∧ (readZone 0 Zone.reset (zoneFields 0 1)).isSome = true ∧ (zoneFields 0 1).length = 30
      ∧ (readPolicy (zoneFields 0 1)).isSome = true ∧ (readDock Dock.reset (dockFields 47)).isSome = true
      ∧ (readRoom 0 Room.reset roomFields).isSome = true
      ∧ (readCoilEntry Coil.reset (coilFields 7)).isSome = true
      ∧ (readLane Lane.reset (laneFields 16 1)).isSome = true ∧ (readProductClass classFields).isSome = true
      ∧ (readShuttleEntry Shuttle.reset (shuttleFields 63)).isSome = true := by decide +kernel

theorem witness_CountersAreReadAndCleared :
    replyCount { plant with answers := [.reply other, .reply other, .reply other] } < 4
      ∧ manager.src = 0xFE#8 ∧ stranger.src ≠ 0xFE#8 := by decide +kernel

/-- An entry whose stored payload makes its content exceed 62 bytes, read at its last part and beyond; a pallet, a move
and indices beyond their tables. -/
theorem witness_ReadsReturnTheRecords :
    let s := inLane.modEntry 0 fun n =>
      { n with stored := some { payload := List.replicate 64 1#8, time := 0#32, age := 3 } }
    PalletsDistinct s
      ∧ (∃ content, tableContent .classification (0#8 : Byte).toNat s = some content ∧ 62 < content.length
          ∧ (1#8 : Byte).toNat < (content.length + 59) / 60 ∧ (content.length + 59) / 60 ≤ (2#8 : Byte).toNat)
      ∧ (∀ i p, s.pallet i = some p → p.id ≠ 8#32) ∧ replyCount s < 4 ∧ (s.pallet 0).isSome = true
      ∧ (toSource.move? 2).isSome = true ∧ toSource.move? 23 = none ∧ 9 < (10#8 : Byte).toNat
      ∧ Table.coil.entries ≤ (16#8 : Byte).toNat ∧ Table.lane.entries ≤ (48#32 : Quad).toNat
      ∧ 23 < (24#32 : Quad).toNat ∧ 8 < (9#8 : Byte).toNat :=
  ⟨distinct_one rfl, ⟨_, rfl, by decide +kernel⟩, fun _ _ w => by rw [(only_pallet rfl w).2]; decide,
    by decide +kernel⟩

theorem witness_ClearedTablesReturnToPowerOn :
    let s := { inLane with mode := .config }
    let t := { onDeck with mode := .config }
    FromManager manager plant ∧ FromManager manager s ∧ FromManager manager t ∧ PalletsDistinct s ∧ PalletsDistinct t
      ∧ (∃ p, s.pallet 0 = some p ∧ p.location = .lane 0 ∧ ∀ u, (s.shuttle u).deck ≠ some p.id)
      ∧ (∃ p, t.pallet 0 = some p ∧ (t.shuttle 0).deck = some p.id ∧ ∀ l, p.location ≠ .lane l)
      ∧ plant.mode = .active ∧ s.mode = .config ∧ t.mode = .config ∧ 10 < (11#8 : Byte).toNat ∧ s.pallet 1 = none :=
  ⟨manager_asks, manager_asks,
    manager_asks, distinct_one rfl, distinct_one rfl, ⟨_, rfl, by decide +kernel⟩,
    ⟨_, rfl, by decide +kernel⟩, by decide +kernel⟩

/-- A configuration that ACTIVATE takes: the plant back in CONFIG, each of its records loaded. -/
def ready : State :=
  withCoil 0 (fun k => { k with mask := true }) { plant with mode := .config, exposureTimer := none }

/-- A configuration that passes every check, and for each row of Table 11-5 one that fails it. -/
theorem witness_ActivationStartsEveryUnit :
    let p (b : Binding) (s : State) : State := withProbe { Probe.reset with loaded := true, binding := b } s
    let lane (z : ZoneIx) (u : ShuttleIx) (x : RailPos) : State :=
      ready.modLane 1 fun n => { n with zone := z, rail := some u, position := x }
    FromManager manager ready ∧ ready.mode = .config ∧ (ready.probe 0).loaded = true
      ∧ firstOffence ready = none ∧ firstOffence configIdle = some (4, 0)
      ∧ firstOffence (p (.zone 7) ready) = some (3, 0) ∧ firstOffence (p (.coil 15) ready) = some (3, 0)
      ∧ firstOffence { ready with probes := table Probe.reset (List.replicate 5 (ready.probe 0)) } = some (3, 4)
      ∧ firstOffence (withZone 1 (fun z => { z with warn := 201 }) ready) = some (4, 1)
      ∧ firstOffence (withDock (fun d => { d with sealLow := 100 }) ready) = some (5, 0)
      ∧ firstOffence (withDock (fun d => { d with dispatchLane := 2 }) ready) = some (5, 0)
      ∧ firstOffence (withRoom (fun r => { r with loaded := false }) ready) = some (5, 16)
      ∧ firstOffence (withCoil 1 (fun k => { k with zone := 7 }) ready) = some (6, 1)
      ∧ firstOffence (withCoil 1 (fun k => { k with start := 4 }) ready) = some (6, 1)
      ∧ firstOffence (lane 1 0 12) = some (5, 0) ∧ firstOffence (lane 0 1 12) = some (7, 1)
      ∧ firstOffence (lane 0 0 4) = some (7, 1) ∧ firstOffence (lane 0 0 12) = none
      ∧ firstOffence (withShuttle (fun v => { v with homePos := 4 }) ready) = some (9, 0)
      ∧ firstOffence (withShuttle (fun v => { v with roomA := some 6 }) ready) = some (9, 0) :=
  ⟨manager_asks, by decide +kernel⟩

theorem witness_DeactivationNeedsAnIdlePart :
    FromManager manager plant ∧ FromManager manager toSource ∧ plant.mode = .active ∧ plant.moves = []
      ∧ (∀ c, (plant.coil c).phase = .cool)
      ∧ (∀ r, (plant.room r).claims = [] ∧ (plant.room r).waiting = [] ∧ (plant.room r).hold = .clear)
      ∧ (∀ u, (plant.shuttle u).state = .idle ∨ (plant.shuttle u).state = .unhomed)
      ∧ (toSource.shuttle 0).state = .travelling ∧ toSource.mode = .active :=
  ⟨manager_asks, manager_asks, by decide +kernel⟩

/-- Moves, a travel under way, waiting notices, a coil out of COOL, and a quiet zone with a coil one below its limit. -/
theorem witness_RestartEmptiesAndReturns :
    let s := { withCoil 3 (fun _ => { coilOf 1 with owed := 2 })
        (withCoil 0 (fun k => { k with phase := .heat }) (withZone 1 (fun z => { z with quiet := true }) toSource)) with
      notices := [infoNotice] }
    FromManager manager s ∧ s.moves.length = 2 ∧ s.notices ≠ [] ∧ (s.coil 0).phase ≠ .cool ∧ s.mode = .active
      ∧ (s.coil 3).loaded = true ∧ (s.coil 3).mask = false ∧ (s.zone (s.coil 3).zone).quiet = true
      ∧ (s.zone (s.coil 3).zone).inUse = true ∧ (s.coil 3).owed + 1 = (s.coil 3).limit :=
  ⟨manager_asks, by decide +kernel⟩

/-- 15 repeats of a move of no named pallet; identifiers 0 and 1 are in use. The shuttle is not ready, IDLE or PARKING,
or has slot A filled, and no other move waits. -/
theorem witness_MoveOrdersJoinTheQueue :
    let s := { resting id with
      moves := [move 0 .queued none], notices := [notice .moveResult (.move 1) .info] }
    let parks := withShuttle (fun v => { v with state := .parking }) plant
    let active := withShuttle (fun v => { v with slotA := some 0 }) { plant with moves := [move 0 .toSource (some 0)] }
    FromManager manager s ∧ s.mode = .active ∧ (s.lane 0).loaded = true ∧ (s.lane 1).loaded = true
      ∧ (15#8 : Byte).toNat ≤ 15 ∧ priority? (1#8 : Byte).toNat = some .urgent ∧ (s.lane 0).rail = some 0
      ∧ (s.lane 1).rail = some 0 ∧ (s.shuttle 0).loaded = true ∧ (s.shuttle 0).state = .notReady
      ∧ (s.shuttle 0).slotA = none ∧ (s.shuttle 0).slotB = none ∧ (s.zone (s.lane 0).zone).quiet = false
      ∧ (s.zone (s.lane 1).zone).alarmState = .normal ∧ s.moves.length < 24 ∧ s.lastMove + 1 + 2 = (2 : MoveId)
      ∧ (∀ r ∈ s.moves, r.id ≠ 2) ∧ (∀ n ∈ s.notices, ¬(n.kind = .moveResult ∧ n.obj = .move 2))
      ∧ (∃ r ∈ s.moves, r.id = s.lastMove + 1 + 0)
      ∧ (∃ n ∈ s.notices, n.kind = .moveResult ∧ n.obj = .move (s.lastMove + 1 + 1))
      ∧ livePallet? inLane 7#32 = some (0, { pallet 7#32 (.lane 0) .dock with quarantine := true })
      ∧ plant.moves = [] ∧ (plant.shuttle 0).slotA = none ∧ (plant.shuttle 0).slotB = none
      ∧ (plant.shuttle 0).state = .idle ∧ (plant.shuttle 0).position = some 10
      ∧ (∀ r, (plant.room r).claims = [] ∧ (plant.room r).waiting = []) ∧ (parks.shuttle 0).state = .parking
      ∧ (active.shuttle 0).slotA ≠ none ∧ (active.shuttle 0).slotB = none ∧ (active.shuttle 0).state ≠ .notReady
      ∧ (∀ r ∈ active.moves, r.state ≠ .queued) :=
  ⟨manager_asks, by decide +kernel⟩

/-- An order that fails each check and passes those before it; for the last three an unknown pallet, a destination in
a zone its class may not enter, a full queue, and MOVE_RESULT notices that leave no identifier. -/
theorem witness_MoveOrdersAreCheckedInOrder :
    let quiet := withZone 0 (fun z => { z with quiet := true }) plant
    let alarm := withZone 0 (fun z => { z with alarmState := .acknowledged }) plant
    let far := inLane.modLane 1 fun n => { n with zone := 1 }
    let full := { plant with moves := (List.finRange 24).map fun m => move m .queued none }
    let told := { plant with notices := fullNotices .info }
    FromManager manager plant ∧ FromManager manager far ∧ PalletsDistinct far
      ∧ (∀ i p, far.pallet i = some p → p.id ≠ 8#32) ∧ plant.mode = .active
      ∧ (∀ l : LaneIx, ¬((48#8 : Byte).toNat = l.val))
      ∧ (plant.lane 2).loaded = false ∧ (1#8 : Byte).toNat = (1 : LaneIx).val ∧ (plant.lane 1).loaded = true
      ∧ 15 < (16#8 : Byte).toNat ∧ 1 < (2#8 : Byte).toNat
      ∧ ((plant.modLane 1 fun n => { n with rail := none }).lane 1).rail = none ∧ (plant.lane 0).rail = some 0
      ∧ (plant.lane 1).rail = some 0
      ∧ ((withShuttle (fun v => { v with state := .unhomed }) plant).shuttle 0).state = .unhomed
      ∧ (quiet.zone (quiet.lane 0).zone).quiet = true ∧ (plant.zone (plant.lane 0).zone).quiet = false
      ∧ (alarm.zone (alarm.lane 1).zone).alarmState = .acknowledged ∧ (alarm.lane 1).quarantine = false
      ∧ far.pallet 0 = some { pallet 7#32 (.lane 0) .dock with quarantine := true } ∧ (far.lane 1).zone ≠ 0
      ∧ (far.cls 0).zones.getLsbD (far.lane 1).zone.val = false ∧ 24 ≤ full.moves.length
      ∧ (∀ m : MoveId, ∃ n ∈ told.notices, n.kind = .moveResult ∧ n.obj = .move m)
      ∧ (far.zone (far.lane 1).zone).alarmState = .normal ∧ (far.zone (far.lane 1).zone).quiet = false :=
  ⟨manager_asks, manager_asks, distinct_one rfl,
    fun _ _ w => by rw [(only_pallet rfl w).2]; decide, by decide +kernel⟩

/-- Moves that are QUEUED in no slot and in slot A, STAGED beside a queued one, in TO_SOURCE with the travel armed, with
claims shared with the shuttle or waiting beside those of others. -/
theorem witness_CancelActsByTheMoveState :
    let queued := { resting id with moves := [move 23 .queued none] }
    let shared (l : List Holder) (s : State) : State :=
      withRoom (fun p => { p with claims := [⟨0, l⟩], waiting := [⟨1, .move 3⟩] }) s
    let inA := shared [.shuttle, .move 2]
      (withShuttle (fun v => { v with slotA := some 2 }) { plant with moves := [move 2 .queued (some 0)] })
    let inB := shared [.move 1, .move 2] (withShuttle (fun v => { v with slotA := some 1, slotB := some 2 })
      { plant with moves := [move 2 .staged (some 0), move 5 .queued none] })
    let armed := withRoom (fun p => { p with waiting := [⟨0, .move 2⟩] })
      (withShuttle (fun v => { v with slotA := some 2, armed := some ⟨4, .move 2⟩ })
        { plant with moves := [move 2 .toSource (some 0)] })
    FromManager manager toSource ∧ FromManager manager queued ∧ FromManager manager armed ∧ toSource.mode = .active
      ∧ 23 < (24#8 : Byte).toNat ∧ (∀ m ∈ toSource.moves, m.id.val ≠ (23#8 : Byte).toNat)
      ∧ (toSource.move? 2).isSome = true ∧ (move 2 .toSource (some 0)).cancelling = false
      ∧ (toSource.shuttle 0).step = some (.travel 63 (.move 2))
      ∧ ({ plant with moves := [move 2 .picking (some 0)] } : State).move? 2 = some (move 2 .picking (some 0))
      ∧ queued.move? 23 = some (move 23 .queued none) ∧ (queued.lane 0).rail = some 0
      ∧ (queued.shuttle 0).slotA = none ∧ (queued.shuttle 0).slotB = none ∧ (queued.shuttle 0).state ≠ .idle
      ∧ (queued.shuttle 0).state ≠ .parking
      ∧ inA.move? 2 = some (move 2 .queued (some 0)) ∧ (inA.shuttle 0).slotA = some 2
      ∧ (inA.room 0).claims = [⟨0, [.shuttle, .move 2]⟩] ∧ ⟨0, .move 2⟩ ∉ (inA.room 0).waiting
      ∧ inB.move? 2 = some (move 2 .staged (some 0)) ∧ (inB.shuttle 0).slotB = some 2 ∧ (inB.shuttle 0).slotA = some 1
      ∧ (inB.moves.filter fun r => decide (r.id ≠ 2 ∧ r.state = .queued ∧ r.shuttle = none
          ∧ (inB.lane r.source).rail = some 0)) = [move 5 .queued none] ∧ (inB.shuttle 0).state ≠ .notReady
      ∧ armed.move? 2 = some (move 2 .toSource (some 0)) ∧ (armed.shuttle 0).step = none
      ∧ (armed.shuttle 0).armed = some ⟨4, .move 2⟩ ∧ (armed.room 0).claims = [] :=
  ⟨manager_asks, manager_asks, manager_asks, by decide +kernel⟩

/-- A shuttle at fault with the pallet of record 0 on its deck. -/
def faulted : State :=
  withShuttle (fun v => { v with state := .fault, deck := some 7#32 })
    (withPallet 0 (pallet 7#32 (.deck 0) .held) plant)

/-- Homings that cross no door and door 0 (to a home position beyond it), where it is quiet, held, waited for, in each
of its states, or claimed by the shuttle. -/
theorem witness_homings :
    let far (f : Room → Room) : State := withRoom f (withShuttle (fun v => { v with position := some 2 }) plant)
    let quiet := withZone 1 (fun z => { z with quiet := true }) (far id)
    let asks (w : List Waiter) : State := far fun p => { p with waiting := w }
    let door (st : RoomState) (rq : DoorRequest) : State := far fun p => { p with state := st, request := rq }
    let mine (hs : List Holder) (b : Bool) : State :=
      withShuttle (fun v => { v with readyA := b }) (far fun p => { p with claims := [⟨0, hs⟩] })
    FromManager manager plant ∧ FromManager manager (far id) ∧ plant.mode = .active
      ∧ 3 < (4#8 : Byte).toNat ∧ (3#8 : Byte).toNat = (3 : ShuttleIx).val ∧ (plant.shuttle 3).loaded = false
      ∧ (toSource.shuttle 0).state = .travelling ∧ (plant.shuttle 0).loaded = true
      ∧ (plant.shuttle 0).state = .idle ∧ (plant.shuttle 0).slotA = none ∧ (plant.shuttle 0).step = none
      ∧ (plant.shuttle 0).crossed (plant.shuttle 0).position (plant.shuttle 0).homePos = []
      ∧ ((far id).shuttle 0).crossed ((far id).shuttle 0).position ((far id).shuttle 0).homePos = [0]
      ∧ (quiet.zone (roomZone 0)).quiet = true ∧ ((far id).zone (roomZone 0)).quiet = false
      ∧ ((far id).room 0).claims = [] ∧ ((far id).room 0).waiting = [] ∧ ((far id).room 0).hold = .clear
      ∧ ((far id).shuttle 0).readyAt 0 = false ∧ ((far id).room 0).state = .closed
      ∧ ((asks [⟨1, .shuttle⟩]).room 0).waiting.contains ⟨0, .shuttle⟩ = false
      ∧ ((far fun p => { p with hold := .set }).room 0).hold = .set
      ∧ ((far fun p => { p with hold := .waiting, holdForced := true }).room 0).holdForced = true
      ∧ ((door .opening .closing).room 0).request ≠ .opening ∧ ((door .opening .opening).room 0).request = .opening
      ∧ ((door .fault .none).room 0).state = .fault ∧ ((door .opened .none).room 0).state = .opened
      ∧ ((mine [.shuttle] true).room 0).claims = [⟨0, [.shuttle]⟩] ∧ ((mine [.shuttle] true).shuttle 0).readyAt 0 = true
      ∧ ((mine [.move 2] false).room 0).claims = [⟨0, [.move 2]⟩]
      ∧ ((mine [.move 2] false).shuttle 0).readyAt 0 = false :=
  ⟨manager_asks, manager_asks, by decide +kernel⟩

/-- A shuttle at fault with a deck empty or carrying, and its claim at a door that the part opened, that someone else
opened, or no one; the pallet returned to lane 1, or refused there. -/
theorem witness_ShuttlesAreHomedAndCleared :
    let empty := withShuttle (fun v => { v with state := .fault }) plant
    let claims (o : OpenedBy) : State :=
      withRoom (fun p => { p with claims := [⟨0, [.shuttle]⟩], openedBy := o, state := .opened }) faulted
    FromManager manager faulted ∧ FromManager manager (claims .part) ∧ PalletsDistinct faulted ∧ PalletsDistinct empty
      ∧ PalletsDistinct (claims .part)
      ∧ faulted.mode = .active ∧ (faulted.shuttle 0).loaded = true ∧ (faulted.shuttle 0).state = .fault
      ∧ declaredPosition? (faulted.shuttle 0) 20#8 = some (some 20)
      ∧ declaredPosition? (faulted.shuttle 0) 0xFF#8 = some none ∧ (faulted.shuttle 0).deck = some 7#32
      ∧ (faulted.shuttle 0).deck ≠ some 8#32 ∧ faulted.pallet 0 = some (pallet 7#32 (.deck 0) .held)
      ∧ (∀ r, (faulted.room r).claims = [] ∧ (faulted.room r).waiting = [])
      ∧ 47 < (48#8 : Byte).toNat ∧ (47#8 : Byte).toNat = (47 : LaneIx).val ∧ (faulted.lane 47).loaded = false
      ∧ (faulted.lane 1).loaded = true
      ∧ (faulted.lane 1).pallets.length + (faulted.lane 1).reserved < (faulted.lane 1).depth
      ∧ ((withLane 1 [1, 2, 3, 4] faulted).lane 1).depth ≤ ((withLane 1 [1, 2, 3, 4] faulted).lane 1).pallets.length
      ∧ faulted.moves = [] ∧ (faulted.shuttle 0).slotA = none ∧ (faulted.shuttle 0).slotB = none
      ∧ (faulted.shuttle 0).armed = none ∧ (empty.shuttle 0).deck = none ∧ (empty.shuttle 0).state = .fault
      ∧ ((claims .part).room 0).claims = [⟨0, [.shuttle]⟩] ∧ ((claims .part).room 0).holdOpenTime ≠ 0
      ∧ ((claims .part).room 0).openedBy = .part ∧ ((claims .outside).room 0).openedBy = .outside
      ∧ ((claims .none).room 0).openedBy = .none ∧ ((claims .none).room 0).hold ≠ .waiting
      ∧ (∀ r, r ≠ 0 → ((claims .part).room r).claims = [] ∧ ((claims .part).room r).waiting = []) :=
  ⟨manager_asks, manager_asks, distinct_one rfl, distinct_none rfl, distinct_one rfl,
    by decide +kernel⟩

/-- Coils 0 and 2 of zone 0, coil 2 under way: the selection of zone 0 starts nothing. -/
def staggered : State :=
  withCoil 2 (fun _ => { coilOf 0 with phase := .heat, phaseTimer := some 90 })
    (withCoil 0 (fun k => { k with owed := 2, intervalTimer := some 0, spacingTimer := some 0
                                   followTimer := some 0, reportTimer := some 0, reported := .valid
                                   reportedValue := some 5 }) plant)

theorem witness_DefrostRequestsMarkCoils :
    let s := withZone 1 (fun z => { z with inUse := false }) staggered
    FromManager manager staggered ∧ FromManager manager s ∧ FromManager manager configIdle
      ∧ staggered.mode = .active ∧ (staggered.zone 0).defrostMode = .staggered
      ∧ (staggered.coil 2).loaded = true ∧ (staggered.coil 2).zone = 0 ∧ (staggered.coil 2).phase ≠ .cool
      ∧ (staggered.coil 15).loaded = false ∧ (staggered.coil 0).phase = .cool ∧ (staggered.coil 0).zone = 0
      ∧ (staggered.coil 0).mask = false ∧ (staggered.zone 0).inUse = true ∧ 15 < (16#8 : Byte).toNat
      ∧ 7 < (8#8 : Byte).toNat ∧ (s.zone 1).inUse = false
      ∧ (∀ z, (s.zone z).inUse = true → (s.zone z).defrostMode = .staggered
          ∧ ∃ d, (s.coil d).loaded = true ∧ (s.coil d).zone = z ∧ (s.coil d).phase ≠ .cool)
      ∧ configIdle.mode = .config ∧ (0x8001#16 : Half).getLsbD 15 = true :=
  ⟨manager_asks, manager_asks,
    manager_asks, by decide +kernel⟩

/-- Room zone 1, idle; the same zone quiet with coil 1 under way and coil 3 one defrost below its limit. -/
def quietRoom : State :=
  withCoil 3 (fun _ => { coilOf 1 with owed := 2 })
    (withCoil 1 (fun k => { k with phase := .fanDelay }) (withZone 1 (fun z => { z with quiet := true }) plant))

/-- The last clause's withdrawals: a DOOR_OPEN for door 0 waits behind a frame of no target; behind it another stands
or none, the transmitter busy with a refusal queue one short of full, or idle. -/
theorem witness_QuietZonesAreEnteredAndLeft :
    let asked : Forwarded := { frame := other, target := some (.door (roomPortal 0)) }
    let matching (w : Forwarded) : Bool :=
      decide (w.target = some (.door (roomPortal 0)) ∧ w.frame.kind = 0x20#8 ∧ w.frame.payload.head? = some 0#8)
    let near := { plant with
      forwarded := [waitingFrame, asked, asked], answers := List.replicate 7 (.refusal other) }
    FromManager manager plant ∧ FromManager manager quietRoom ∧ plant.mode = .active ∧ 7 < (8#8 : Byte).toNat
      ∧ (7#8 : Byte).toNat = (6 : RoomIx).val + 1 ∧ (plant.zone (roomZone 6)).inUse = false
      ∧ (1#8 : Byte).toNat = (0 : RoomIx).val + 1 ∧ (plant.zone (roomZone 0)).inUse = true
      ∧ (plant.zone (roomZone 0)).quiet = false ∧ (plant.room 0).state = .closed ∧ (plant.room 0).claims = []
      ∧ (plant.room 0).waiting = [] ∧ (plant.room 0).hold = .clear
      ∧ (∀ c, (plant.coil c).loaded = true → (plant.coil c).zone = roomZone 0 → (plant.coil c).phase = .cool)
      ∧ ((withRoom (fun p => { p with state := .opening }) plant).room 0).state ≠ .closed
      ∧ quietRoom.mode = .active ∧ (quietRoom.zone (roomZone 0)).quiet = true
      ∧ (quietRoom.room 0).hold = .clear ∧ (quietRoom.zone (roomZone 0)).defrostMode = .staggered
      ∧ (∃ d, (quietRoom.coil d).loaded = true ∧ (quietRoom.coil d).zone = roomZone 0
          ∧ (quietRoom.coil d).phase ≠ .cool)
      ∧ (quietRoom.coil 3).owed + 1 = (quietRoom.coil 3).limit
      ∧ near.trunkTx ≠ none ∧ refusalCount near = 7 ∧ near.forwarded.filter matching = [asked, asked]
      ∧ ({ plant with forwarded := near.forwarded, trunkTx := none } : State).answers = []
      ∧ ({ plant with forwarded := [waitingFrame], trunkTx := none } : State).forwarded.filter matching = [] :=
  ⟨manager_asks, manager_asks, by decide +kernel⟩

theorem witness_AlarmsAreAcknowledged :
    let s := withZone 0 (fun z => { z with alarmState := .alarm })
      (withDock (fun d => { d with latch := ⟨false, false, true⟩ })
        (withRoom (fun r => { r with latch := ⟨false, false, true⟩ }) plant))
    FromManager manager s ∧ (0#32 : Quad).toNat = (0 : ZoneIx).val ∧ (s.zone 0).inUse = true
      ∧ (s.zone 0).alarmState = .alarm ∧ (s.zone 7).inUse = false ∧ (7#32 : Quad).toNat = (7 : ZoneIx).val
      ∧ (s.dock 0).latch ≠ ⟨false, false, false⟩ ∧ (s.dock 15).latch = ⟨false, false, false⟩
      ∧ (15#32 : Quad).toNat = (15 : DockIx).val ∧ (16#32 : Quad).toNat = 16 + (0 : RoomIx).val
      ∧ (s.room 0).latch ≠ ⟨false, false, false⟩ ∧ (22#32 : Quad).toNat = 16 + (6 : RoomIx).val
      ∧ (s.room 6).latch = ⟨false, false, false⟩ ∧ 7 < (8#32 : Quad).toNat ∧ 22 < (23#32 : Quad).toNat :=
  ⟨manager_asks, by decide +kernel⟩

theorem witness_PalletsAreCorrected :
    let nowhere := withPallet 0 (pallet 7#32 .unplaced .dock) plant
    let gone := { withPallet 0 (pallet 7#32 .none .departed) plant with departed := [0] }
    FromManager manager inLane ∧ PalletsDistinct inLane ∧ (∀ i p, inLane.pallet i = some p → p.id ≠ 8#32)
      ∧ FromManager manager nowhere ∧ PalletsDistinct nowhere ∧ FromManager manager onDeck
      ∧ PalletsDistinct onDeck ∧ FromManager manager gone ∧ PalletsDistinct gone ∧ 47 < (48#8 : Byte).toNat
      ∧ inLane.pallet 0 = some { pallet 7#32 (.lane 0) .dock with quarantine := true } ∧ 0 ∉ inLane.departed
      ∧ nowhere.pallet 0 = some (pallet 7#32 .unplaced .dock) ∧ (nowhere.lane 1).loaded = true
      ∧ (nowhere.lane 47).loaded = false
      ∧ (nowhere.lane 1).pallets.length + (nowhere.lane 1).reserved < (nowhere.lane 1).depth
      ∧ ((withLane 1 [1, 2, 3, 4] nowhere).lane 1).depth ≤ ((withLane 1 [1, 2, 3, 4] nowhere).lane 1).pallets.length
      ∧ onDeck.pallet 0 = some (pallet 7#32 (.deck 0) .carried)
      ∧ gone.pallet 0 = some (pallet 7#32 .none .departed) :=
  ⟨manager_asks, distinct_one rfl, fun _ _ w => by rw [(only_pallet rfl w).2]; decide,
    manager_asks, distinct_one rfl, manager_asks,
    distinct_one rfl, manager_asks, distinct_one rfl, by decide +kernel⟩

/-! ## Witnesses: timers and internal steps -/

/-- Zone 0 VALID just above its limit, zone 1 STALE, a zone not in use; a pallet and a record not in use. Zone 0 rising
to its alarm value, a pallet reaching the budget of its class, and no notice lost. -/
theorem witness_AccountsAccrue :
    let s := withZone 0 (fun z => { z with value := 101, status := .valid, exposure := 16777214 }) inLane
    let warm := { withZone 0 (fun z => { z with value := 200, status := .valid })
        (withLane 0 [7#32] (withPallet 0 (pallet 7#32 (.lane 0) .dock) plant)) with
      classes := tset plant.classes 0 { loaded := true, limit := 0, budget := 200, zones := 0#8 } }
    s.exposureTimer = some 0 ∧ (s.zone 0).inUse = true ∧ (s.zone 0).status = .valid
      ∧ (s.zone 1).inUse = true ∧ (s.zone 1).status = .stale ∧ (s.zone 7).inUse = false
      ∧ (s.pallet 0).isSome = true ∧ s.pallet 255 = none
      ∧ warm.exposureTimer = some 0 ∧ warm.trunkTx ≠ none ∧ warm.lost = false ∧ (warm.zone 0).alarmState = .normal
      ∧ (warm.pallet 0).map Pallet.quarantine = some false
      ∧ (match exec .exposureIntervalExpiry warm with
          | .next t => (t.lost, (t.zone 0).alarmState, (t.pallet 0).map Pallet.quarantine, t.notices.length)
          | _ => (true, .normal, none, 0)) = (false, .alarm, some true, 2) := by decide +kernel

theorem witness_FrostLoadPullsInDefrosts :
    let s := withZone 0 (fun z => { z with frost := 3 }) { staggered with docks := openDock.docks }
    s.exposureTimer = some 0 ∧ (s.zone 0).inUse = true ∧ (s.zone 0).defrostMode = .staggered
      ∧ (∃ d, (s.coil d).loaded = true ∧ (s.coil d).zone = 0 ∧ (s.coil d).phase ≠ .cool)
      ∧ (∀ r, (0 : ZoneIx) = roomZone r → (s.room r).hold = .clear)
      ∧ (s.coil 0).loaded = true ∧ (s.coil 0).zone = 0 ∧ (s.coil 0).owed < (s.coil 0).limit
      ∧ quietRoom.exposureTimer = some 0 ∧ (quietRoom.zone 1).quiet = true
      ∧ (∃ d, (quietRoom.coil d).loaded = true ∧ (quietRoom.coil d).zone = 1
          ∧ (quietRoom.coil d).phase ≠ .cool) := by decide +kernel

theorem witness_ProbeAndPortalTimersExpire :
    let s := withProbe { Probe.reset with loaded := true, staleTimer := some 0 }
      (withZone 0 (fun z => { z with window := .openRecovery, allowanceTimer := some 0 })
        (withDock (fun d => { d with state := .inflating, sealTimer := some 0 })
          (withRoom (fun r => { r with
            state := .opened, openedBy := .part, request := .opening, doorTimer := some 0
            holdOpenTimer := some 0 }) plant)))
    let onCoil := withProbe { coilProbe.probe 0 with staleTimer := some 0 } coilProbe
    (s.probe 0).staleTimer = some 0 ∧ (s.probe 0).binding = .zone 0 ∧ (plant.probe 0).staleTimer ≠ some 0
      ∧ (onCoil.probe 0).staleTimer = some 0 ∧ (onCoil.probe 0).binding = .coil 0
      ∧ (s.zone 0).allowanceTimer = some 0 ∧ (plant.zone 0).allowanceTimer ≠ some 0
      ∧ (s.dock 0).sealTimer = some 0 ∧ (s.dock 0).state = .inflating
      ∧ ((withDock (fun d => { d with state := .deflating, sealTimer := some 0 }) plant).dock 0).state = .deflating
      ∧ (s.room 0).doorTimer = some 0 ∧ (s.room 0).request = .opening ∧ (s.room 0).holdOpenTimer = some 0
      ∧ (s.room 0).state = .opened ∧ (s.room 0).openedBy = .part
      ∧ ((withRoom (fun r => { r with holdOpenTimer := some 0 }) plant).room 0).openedBy ≠ .part := by
  decide +kernel

/-- Coil 0 owes 2 of 3 with a coil of its zone under way. -/
theorem witness_CoilTimersExpire :
    (staggered.coil 0).intervalTimer = some 0 ∧ (staggered.coil 0).mask = false
      ∧ (staggered.zone 0).quiet = false ∧ (staggered.coil 0).owed + 1 = (staggered.coil 0).limit
      ∧ (staggered.zone 0).defrostMode = .staggered
      ∧ (∃ d, (staggered.coil d).loaded = true ∧ (staggered.coil d).zone = 0
          ∧ (staggered.coil d).phase ≠ .cool)
      ∧ (∀ r, (0 : ZoneIx) = roomZone r → (staggered.room r).hold = .clear)
      ∧ (staggered.coil 0).spacingTimer = some 0 ∧ (staggered.coil 0).followTimer = some 0
      ∧ (staggered.coil 0).notFollowing = false ∧ (staggered.coil 0).reportTimer = some 0
      ∧ (staggered.coil 0).reported = .valid
      ∧ ((withCoil 0 (fun k => { k with owed := 1 }) staggered).coil 0).owed + 1 < 3
      ∧ ((withCoil 0 (fun k => { k with owed := 3 }) staggered).coil 0).owed = 3
      ∧ (quietRoom.coil 3).mask = false ∧ (quietRoom.zone 1).quiet = true := by decide +kernel

/-- Coil 0 with its phase timer run out. -/
def phaseEnds (p : CoilPhase) : State :=
  withCoil 0 (fun k => { k with phase := p, phaseTimer := some 0, mask := true, owed := -8 }) plant

/-- A coil at the end of a phase with no times left to wait, reporting a temperature that ends HEAT or FAN_DELAY at its
entry; coil 0 in the dock zone, coil 1 in a room with its hold SET, or CLEAR, beside a masked coil in COOL. -/
def endsAtEntry (c : CoilIx) (p : CoilPhase) (h : Hold) : State :=
  withRoom (fun r => { r with hold := h })
    (withCoil 3 (fun _ => { coilOf 1 with mask := true })
      (withCoil c (fun k => { k with
        phase := p, phaseTimer := some 0, drip := 0, fanMax := 0, pumpDown := 0, reported := .valid
        reportedValue := some (if p = .pumpDown then 80 else -40) }) plant))

theorem witness_DefrostPhasesFollowAndComplete :
    (∀ p, coilTemp? (phaseEnds p) 0 = none) ∧ CoilAlone (phaseEnds .heat) 0 ∧ CoilAlone (endsAtEntry 1 .heat .set) 1
      ∧ HoldReleased (phaseEnds .heat) 0 plant.rooms
      ∧ HoldReleased (endsAtEntry 1 .heat .clear) 1 plant.rooms
      ∧ HoldReleased (endsAtEntry 1 .heat .set) 1
          (tset (endsAtEntry 1 .heat .set).rooms 0 ((endsAtEntry 1 .heat .set).room 0).unheld)
      ∧ ((phaseEnds .pumpDown).coil 0).phaseTimer = some 0
      ∧ ((phaseEnds .pumpDown).coil 0).phase = .pumpDown ∧ ((phaseEnds .heat).coil 0).drip ≠ 0
      ∧ ((phaseEnds .drip).coil 0).zone = 0 ∧ ((phaseEnds .drip).coil 0).fanMax ≠ 0
      ∧ (∀ d, ((phaseEnds .drip).coil d).zone = 0 → ((phaseEnds .drip).coil d).phase ≠ .portalWait)
      ∧ ((phaseEnds .fanDelay).coil 0).phase = .fanDelay
      ∧ coilTemp? (endsAtEntry 1 .pumpDown .set) 1 = some 80 ∧ ((endsAtEntry 1 .pumpDown .set).coil 1).terminate = 80
      ∧ coilTemp? (endsAtEntry 1 .drip .set) 1 = some (-40) ∧ ((endsAtEntry 1 .drip .set).coil 1).fanTemp = -40
      ∧ ((endsAtEntry 1 .heat .set).coil 1).drip = 0 ∧ ((endsAtEntry 1 .drip .set).coil 1).fanMax = 0 := by
  refine ⟨by intro p; cases p <;> decide +kernel, by unfold CoilAlone; decide +kernel,
    by unfold CoilAlone; decide +kernel, .inl (by decide +kernel), .inr ⟨0, ?_⟩, .inr ⟨0, ?_⟩, by decide +kernel⟩ <;>
    decide +kernel

/-- A loaded shuttle times out in a pick, with empty slots; with a move QUEUED in slot A while it parks, and with an
active move that shares a claim and waits for another, a second one staged. A shuttle whose park timer ends. -/
theorem witness_ShuttleTimersExpire :
    let alone :=
      withShuttle (fun v => { v with state := .lifting, step := some (.pick 0 1), stepTimer := some 0 }) onDeck
    let both (a : Move) (st : ShuttleState) (x : Step) : State :=
      (withShuttle (fun v => { v with
          state := st, step := some x, stepTimer := some 0, slotA := some 2, slotB := some 3 })
        { plant with moves := [a, move 3 .staged (some 0)] }).modLane 1 fun n => { n with reserved := 1 }
    let queued := both (move 2 .queued (some 0)) .parking (.travel 7 .shuttle)
    let active := withRoom (fun p => { p with claims := [⟨0, [.move 2]⟩], waiting := [⟨1, .move 2⟩] })
      (both (move 2 .placing (some 0)) .lowering (.place 1 2))
    let parked := withShuttle (fun v => { v with parkTimer := some 0 }) plant
    PalletsDistinct alone ∧ PalletsDistinct active
      ∧ (∀ i p, active.pallet i = some p → (active.shuttle 0).deck ≠ some p.id)
      ∧ (alone.shuttle 0).slotA = none ∧ (alone.shuttle 0).slotB = none ∧ (alone.shuttle 0).stepTimer = some 0
      ∧ (alone.shuttle 0).deck = some 7#32 ∧ (alone.pallet 0).isSome = true
      ∧ (queued.shuttle 0).slotA = some 2 ∧ queued.move? 2 = some (move 2 .queued (some 0))
      ∧ (queued.shuttle 0).slotB = some 3 ∧ (∀ r, (queued.room r).claims = [] ∧ (queued.room r).waiting = [])
      ∧ active.move? 2 = some (move 2 .placing (some 0)) ∧ (active.shuttle 0).slotA = some 2
      ∧ (∀ r, ∀ c ∈ (active.room r).claims, Holder.shuttle ∉ c.holders ∧ .move 3 ∉ c.holders)
      ∧ (∀ r, ⟨0, .shuttle⟩ ∉ (active.room r).waiting ∧ ⟨0, .move 3⟩ ∉ (active.room r).waiting)
      ∧ (active.room 0).claims ≠ [] ∧ (parked.shuttle 0).slotA = none ∧ (parked.shuttle 0).slotB = none
      ∧ (parked.shuttle 0).parkTimer = some 0 ∧ (parked.shuttle 0).state = .idle
      ∧ (parked.shuttle 0).position = some 10 ∧ (10 : RailPos) ≠ (parked.shuttle 0).parkPos
      ∧ (parked.shuttle 0).crossed (some 10) (parked.shuttle 0).parkPos = [] ∧ parked.moves = [] :=
  ⟨distinct_one rfl, distinct_none rfl, fun _ _ w => (none_used rfl w).elim, by decide +kernel⟩

def holdWaits : State :=
  withCoil 1 (fun k => { k with phase := .portalWait }) (withRoom (fun p => { p with hold := .waiting }) plant)
def claimWaits : State := withRoom (fun p => { p with waiting := [⟨0, .move 2⟩] }) plant

/-- The claim waits for a move's travel across the door, armed meanwhile. -/
def acrossDoor : State :=
  withShuttle (fun v => { v with slotA := some 2, armed := some ⟨4, .move 2⟩ })
    ({ claimWaits with moves := [move 2 .toSource (some 0)] }.modLane 0 fun n => { n with position := 4 })

/-- A hold waits at a closed door, with its coil alone in the zone or not; a claim waits there for a shuttle that waits
for nothing, for one whose travel is armed across the door, and for one that is homing across it. -/
theorem witness_HoldsAndWaitingClaimsAreGranted :
    let short := withCoil 1 (fun k => { k with pumpDown := 0 }) holdWaits
    let granted := holdSet 0 false short
    CoilAlone short 1 ∧ HoldReleased granted 1 (tset granted.rooms 0 (granted.room 0).unheld)
      ∧ (claimWaits.shuttle 0).waitsAt 0 ∧ (acrossDoor.shuttle 0).waitsAt 0
      ∧ ((withShuttle (fun v => { v with state := .homing, position := none }) claimWaits).shuttle 0).waitsAt 0
      ∧ (acrossDoor.room 0).waiting = [⟨0, .move 2⟩] ∧ (acrossDoor.shuttle 0).armed = some ⟨4, .move 2⟩
      ∧ (holdWaits.room 0).hold = .waiting ∧ (holdWaits.room 0).claims = [] ∧ (holdWaits.room 0).state = .closed
      ∧ (holdWaits.room 0).holdForced = false ∧ (short.coil 1).pumpDown = 0
      ∧ (holdWaits.coil 1).loaded = true ∧ (holdWaits.coil 1).zone = roomZone 0
      ∧ (holdWaits.coil 1).phase = .portalWait ∧ (holdWaits.coil 1).pumpDown ≠ 0
      ∧ (∀ d, d ≠ 1 → (holdWaits.coil d).loaded = true → (holdWaits.coil d).zone = roomZone 0 →
          (holdWaits.coil d).phase ≠ .portalWait)
      ∧ (claimWaits.room 0).hold = .clear ∧ (claimWaits.room 0).waiting = [⟨0, .move 2⟩]
      ∧ (claimWaits.room 0).claims = [] ∧ (claimWaits.room 0).state = .closed
      ∧ ((withRoom (fun p => { p with hold := .set }) claimWaits).room 0).hold = .set :=
  ⟨by unfold CoilAlone; decide +kernel, .inr ⟨0, by decide +kernel⟩, by unfold Shuttle.waitsAt; decide +kernel,
    by unfold Shuttle.waitsAt; decide +kernel, by unfold Shuttle.waitsAt; decide +kernel, by decide +kernel⟩

/-- Coils 0, 2 and 4 in zone 0 and 1, 3 and 5 in zone 1: the first spaced last, the second with a pull-in and forced,
the third at its start threshold; the pointers stand at the third. -/
def selecting (kind : DefrostMode) : State :=
  let pair (z : ZoneIx) (c : CoilIx) (s : State) : State :=
    withZone z (fun n => { n with defrostMode := kind, pointer := c + 4 })
      (withCoil (c + 4) (fun _ => { coilOf z with owed := 3 })
        (withCoil (c + 2) (fun _ => { coilOf z with pullIn := true, forced := true })
          (withCoil c (fun k => { k with spacingTimer := some 0 }) s)))
  pair 0 0 (pair 1 1 plant)

/-- Of the eligible coils the third is first from the pointer on; a coil under way, or none eligible, starts none; in
a room the door stands closed, or open. The three form a group, or are held up by one that is not spaced. A coil alone
in its zone starts with a pump-down time of 0, in the dock zone and in a room. -/
theorem witness_SelectionStartsDefrosts :
    let one := selecting .staggered
    let all := selecting .all
    let opened := withRoom (fun p => { p with state := .opened }) all
    let unspaced := withCoil 2 (fun k => { k with spacingTimer := some 1 }) all
    let lone (c : CoilIx) : State :=
      withCoil c (fun k => { k with spacingTimer := some 0, owed := 3, pumpDown := 0 }) plant
    let granted := holdSet 0 true (lone 1)
    CoilAlone (lone 0) 0 ∧ CoilAlone (lone 1) 1 ∧ HoldReleased (lone 0) 0 plant.rooms
      ∧ HoldReleased granted 1 (tset granted.rooms 0 (granted.room 0).unheld)
      ∧ ((lone 1).coil 1).pumpDown = 0 ∧ ((lone 1).coil 1).start ≤ ((lone 1).coil 1).owed
      ∧ (one.coil 0).spacingTimer = some 0 ∧ (one.coil 1).spacingTimer = some 0 ∧ one.mode = .active
      ∧ (one.zone 0).inUse = true ∧ (one.zone 0).defrostMode = .staggered ∧ (one.zone 0).pointer = 4
      ∧ (∀ e : CoilIx, (one.coil e).loaded = true → (one.coil e).phase = .cool ∧ (one.coil e).group = false)
      ∧ (one.coil 4).zone = 0 ∧ (one.coil 4).spacingTimer = none ∧ (one.coil 4).start ≤ (one.coil 4).owed
      ∧ (∀ e : CoilIx, 4 < e → (one.coil e).loaded = true → (one.coil e).zone ≠ 0)
      ∧ (staggered.coil 0).spacingTimer = some 0 ∧ (staggered.coil 2).phase ≠ .cool
      ∧ (one.room 0).hold = .clear ∧ (one.room 0).claims = [] ∧ (one.room 0).state = .closed
      ∧ (opened.room 0).state ≠ .closed ∧ (opened.room 0).holdOpenTimer = none ∧ (opened.coil 3).forced = true
      ∧ (all.zone 1).defrostMode = .all ∧ (∀ e : CoilIx, (all.coil e).loaded = true → (all.coil e).mask = false)
      ∧ (∀ e : CoilIx, e ≠ 0 → e ≠ 1 → (all.coil e).spacingTimer = none) ∧ (all.coil 2).pullIn = true
      ∧ (∀ e : CoilIx, (all.coil e).loaded = true → (all.coil e).pumpDown ≠ 0)
      ∧ (unspaced.coil 2).spacingTimer ≠ none ∧ (unspaced.coil 2).mask = false :=
  ⟨by unfold CoilAlone; decide +kernel, by unfold CoilAlone; decide +kernel, .inl (by decide +kernel),
    .inr ⟨0, by decide +kernel⟩, by decide +kernel⟩

/-- DRIP ends with a hold that is SET: another coil still heats, nothing waits, a shuttle with its travel armed waits at
the closed door. Of a group of two unmasked coils one is left in FAN_DELAY, or both are done, beside a coil that wants
no defrost and one that waits for its spacing. -/
theorem witness_HoldsAndGroupsEnd :
    let drip (s : State) : State := withCoil 1 (fun k => { k with phase := .drip, phaseTimer := some 0 }) s
    let held := drip (withRoom (fun p => { p with hold := .set, holdForced := true }) acrossDoor)
    let heats := withCoil 3 (fun _ => { coilOf 1 with phase := .heat }) held
    let group (p : CoilPhase) : State :=
      withCoil 3 (fun _ => { coilOf 1 with group := true, phase := p })
        (withCoil 1 (fun k => { k with phase := .fanDelay, phaseTimer := some 0, group := true })
          (withCoil 5 (fun _ => coilOf 1) (withCoil 7 (fun _ => { coilOf 1 with owed := 3, spacingTimer := some 9 })
            plant)))
    (held.shuttle 0).waitsAt 0 ∧ (held.shuttle 0).armed ≠ none
      ∧ (held.coil 1).phaseTimer = some 0 ∧ (held.coil 1).zone = roomZone 0 ∧ (held.coil 1).phase = .drip
      ∧ (held.coil 1).fanMax ≠ 0 ∧ coilTemp? held 1 = none ∧ (∀ d, (held.coil d).phase ≠ .portalWait)
      ∧ (heats.coil 3).loaded = true ∧ (heats.coil 3).zone = (heats.coil 1).zone ∧ (heats.coil 3).phase = .heat
      ∧ ((drip plant).room 0).hold ≠ .set ∧ (held.room 0).hold = .set ∧ (held.room 0).waiting = [⟨0, .move 2⟩]
      ∧ (held.room 0).claims = [] ∧ (held.room 0).state = .closed
      ∧ (∀ d, d ≠ 1 → (held.coil d).loaded = true → (held.coil d).zone = 1 → (held.coil d).phase = .cool)
      ∧ ((group .fanDelay).coil 1).group = true ∧ ((group .fanDelay).coil 1).loaded = true
      ∧ ((group .fanDelay).coil 3).group = true ∧ ((group .fanDelay).coil 3).phase ≠ .cool
      ∧ (∀ d, d ≠ 1 → ((group .cool).coil d).loaded = true → ((group .cool).coil d).phase = .cool)
      ∧ (∀ d, ((group .cool).coil d).zone = 1 → ((group .cool).coil d).loaded = true →
          ((group .cool).coil d).mask = false)
      ∧ (∀ d, ((group .cool).coil d).group = true → ((group .cool).coil d).minSpacing ≠ 0)
      ∧ ((group .cool).coil 5).pullIn = false ∧ ((group .cool).coil 5).owed < ((group .cool).coil 5).start
      ∧ ((group .cool).coil 7).spacingTimer ≠ none :=
  ⟨by unfold Shuttle.waitsAt; decide +kernel, by decide +kernel⟩

/-- Shuttle 0 waits in IDLE at position 10 with a move whose source lies beyond room door 0. -/
def asking (f : Room → Room) : State :=
  withRoom f (withShuttle (fun v => { v with slotA := some 2 })
    ({ plant with moves := [move 2 .toSource (some 0)] }.modLane 0 fun n => { n with position := 4 }))

/-- Shuttle 0 arrives at lane 1 with the last pallet of its move, a second move staged for the room beyond door 0. -/
def lastTravel (f : Room → Room) : State :=
  withRoom f (withShuttle (fun v => { v with
      slotA := some 2, slotB := some 3, deck := some 7#32, state := .travelling, step := some (.travel 12 (.move 2)) })
    ({ plant with moves := [move 2 .carrying (some 0), move 3 .staged (some 0)] }.modLane 0
      fun n => { n with position := 4 }))

/-- The door in each of its states, unclaimed, held, quiet, claimed by the shuttle alone, by its move too, or waited
for; an arrival before the last placement, and the end of a park travel by a door that the part opened. -/
theorem witness_ClaimsAreAskedAtCrossedDoors :
    let free := asking id
    let at_ (st : RoomState) (rq : DoorRequest) : State := asking fun p => { p with state := st, request := rq }
    let mine (l : List Holder) (b : Bool) : State :=
      withShuttle (fun v => { v with readyA := b }) (asking fun p => { p with claims := [⟨0, l⟩] })
    let quiet := withZone 1 (fun z => { z with quiet := true }) free
    let parks := withShuttle (fun v => { v with state := .parking, step := some (.travel 7 .shuttle), readyA := true })
      (withRoom (fun p => { p with claims := [⟨0, [.shuttle]⟩], openedBy := .part, state := .opened }) plant)
    BoundUp (lastTravel id) (from_ 6) 0x14#8 3 5 (.shuttle 0) ∧ BoundUp parks (from_ 6) 0x14#8 3 5 (.shuttle 0)
      ∧ (free.shuttle 0).slotA = some 2 ∧ (free.shuttle 0).state = .idle ∧ (free.shuttle 0).step = none
      ∧ (free.shuttle 0).armed = none ∧ (free.shuttle 0).position = some 10
      ∧ free.move? 2 = some (move 2 .toSource (some 0)) ∧ (free.lane 0).position = 4
      ∧ (free.shuttle 0).crossed (some 10) 4 = [0] ∧ (∀ q, (free.room q).claims = [] ∧ (free.room q).waiting = [])
      ∧ (free.zone (roomZone 0)).quiet = false ∧ (quiet.zone (roomZone 0)).quiet = true ∧ (free.shuttle 0).slotB = none
      ∧ (∀ r ∈ free.moves, r.id = 2) ∧ (free.room 0).hold = .clear ∧ (free.room 0).state = .closed
      ∧ ((asking fun p => { p with waiting := [⟨0, .move 2⟩] }).room 0).waiting = [⟨0, .move 2⟩]
      ∧ ((asking fun p => { p with hold := .set }).room 0).hold = .set
      ∧ ((asking fun p => { p with hold := .waiting, holdForced := true }).room 0).holdForced = true
      ∧ (free.shuttle 0).readyAt 0 = false ∧ ((at_ .opening .closing).room 0).request ≠ .opening
      ∧ ((at_ .opening .opening).room 0).request = .opening ∧ ((at_ .fault .none).room 0).state = .fault
      ∧ ((at_ .opened .none).room 0).state = .opened
      ∧ ((mine [.shuttle, .move 2] true).room 0).claims = [⟨0, [.shuttle, .move 2]⟩]
      ∧ ((mine [.shuttle, .move 2] true).shuttle 0).readyAt 0 = true
      ∧ ((mine [.shuttle] false).shuttle 0).readyAt 0 = false ∧ (12#8 : Byte).toNat = (12 : RailPos).val
      ∧ ((lastTravel id).shuttle 0).step = some (.travel 12 (.move 2))
      ∧ (lastTravel id).move? 3 = some (move 3 .staged (some 0))
      ∧ (lastTravel id).move? 2 = some (move 2 .carrying (some 0)) ∧ (move 2 .carrying (some 0)).remaining = 1
      ∧ ((lastTravel id).shuttle 0).crossed (some 12) ((lastTravel id).lane 0).position = [0]
      ∧ ((lastTravel fun p => { p with claims := [⟨0, [.shuttle]⟩] }).room 0).claims = [⟨0, [.shuttle]⟩]
      ∧ (parks.shuttle 0).step = some (.travel 7 .shuttle) ∧ (parks.room 0).claims = [⟨0, [.shuttle]⟩]
      ∧ (parks.room 0).openedBy = .part ∧ (parks.room 0).holdOpenTime ≠ 0 ∧ parks.moves = [] :=
  ⟨bound_up, bound_up, by decide +kernel⟩

/-- A travel into room A, armed across door 0, before and after the door is ready; a homing order. -/
def armedAcross (claims : List Claim) (isReady : Bool) : State :=
  withRoom (fun p => { p with claims := claims })
    (withShuttle (fun v => { v with armed := some ⟨4, .move 2⟩, readyA := isReady }) plant)

theorem witness_TravelsStartWhenClear :
    let parks (isReady : Bool) : State :=
      withShuttle (fun v => { v with armed := some ⟨4, .shuttle⟩, state := .parking })
        (armedAcross [⟨0, [.shuttle]⟩] isReady)
    ((armedAcross [] false).shuttle 0).armed = some ⟨4, .move 2⟩
      ∧ ((armedAcross [] false).shuttle 0).state = .idle
      ∧ ((armedAcross [] false).shuttle 0).position = some 10
      ∧ ((armedAcross [] false).shuttle 0).crossed (some 10) 4 = [0]
      ∧ ((armedAcross [⟨0, [.move 2]⟩] true).room 0).claims = [⟨0, [.move 2]⟩]
      ∧ ((armedAcross [⟨0, [.move 2]⟩] true).shuttle 0).readyA = true
      ∧ ((armedAcross [⟨0, [.move 2]⟩] true).shuttle 0).roomA = some 0
      ∧ ((parks true).shuttle 0).armed = some ⟨4, .shuttle⟩ ∧ ((parks true).shuttle 0).state = .parking
      ∧ ((parks true).room 0).claims = [⟨0, [.shuttle]⟩] ∧ ((parks true).shuttle 0).readyA = true
      ∧ ((parks false).shuttle 0).readyA = false
      ∧ ((withShuttle (fun v => { v with state := .homing }) plant).shuttle 0).step = none := by decide +kernel

/-- A NORMAL and then an URGENT move wait behind the move in slot A, and for a PARKING or an IDLE shuttle with empty
slots; a staged move stands alone in slot B. A pick-up decision at an empty lane, for a head held back or not, toward a
lane with room or none, with the pallet on the deck, and where the shuttle stands there already; a move in PICKING with
no step. -/
theorem witness_MovesAreAssignedAndBegun :
    let urgent := { move 4 .queued none with priority := .urgent }
    let s := withShuttle (fun v => { v with slotA := some 2 })
      { plant with moves := [move 2 .queued (some 0), move 3 .queued none, urgent] }
    let idle := { plant with moves := [move 3 .queued none, urgent] }
    let parks := withShuttle (fun v => { v with state := .parking }) idle
    let up := withShuttle (fun v => { v with slotB := some 3, state := .parking })
      { plant with moves := [move 3 .staged (some 0)] }
    let decides (m : Move) (t : State) : State :=
      withShuttle (fun v => { v with slotA := some 2 }) { t with moves := [m] }
    let m := { move 2 .queued (some 0) with named := some 7#32 }
    let head := withLane 0 [7#32] (withPallet 0 (pallet 7#32 (.lane 0) .dock) plant)
    let empty := decides m plant
    let goes := decides m head
    let back := decides m inLane
    let full := decides m (head.modLane 1 fun n => { n with reserved := 4 })
    let loaded := decides m onDeck
    PalletsDistinct empty ∧ PalletsDistinct goes ∧ PalletsDistinct back ∧ PalletsDistinct loaded
      ∧ NextEligible s 0 s.moves urgent ∧ NextEligible idle 0 idle.moves urgent
      ∧ NextEligible parks 0 parks.moves urgent
      ∧ NextEligible idle 0 (idle.movesBut 4) (move 3 .queued none)
      ∧ NextEligible parks 0 (parks.movesBut 4) (move 3 .queued none)
      ∧ (s.shuttle 0).slotA ≠ none ∧ (s.shuttle 0).slotB = none ∧ (s.shuttle 0).state ≠ .notReady
      ∧ (parks.shuttle 0).slotA = none ∧ (parks.shuttle 0).slotB = none ∧ (parks.shuttle 0).state = .parking
      ∧ (idle.shuttle 0).slotA = none ∧ (idle.shuttle 0).slotB = none ∧ (idle.shuttle 0).state = .idle
      ∧ (idle.shuttle 0).position = some 10 ∧ idle.move? 4 = some urgent
      ∧ (∀ r, (idle.room r).claims = [] ∧ (idle.room r).waiting = [])
      ∧ (up.shuttle 0).slotA = none ∧ (up.shuttle 0).slotB = some 3 ∧ up.move? 3 = some (move 3 .staged (some 0))
      ∧ (empty.shuttle 0).slotA = some 2 ∧ empty.move? 2 = some m ∧ (empty.shuttle 0).state = .idle
      ∧ (empty.shuttle 0).position = some 10 ∧ (∀ r, (empty.room r).claims = [] ∧ (empty.room r).waiting = [])
      ∧ (empty.shuttle 0).deck = none ∧ (empty.lane 0).pallets = [] ∧ (goes.lane 0).pallets.head? = some 7#32
      ∧ goes.pallet 0 = some (pallet 7#32 (.lane 0) .dock) ∧ (pallet 7#32 (.lane 0) .dock).quarantine = false
      ∧ (goes.lane 1).pallets.length + (goes.lane 1).reserved < (goes.lane 1).depth
      ∧ (full.lane 1).depth ≤ (full.lane 1).pallets.length + (full.lane 1).reserved ∧ (goes.lane 0).position ≠ 10
      ∧ (goes.shuttle 0).crossed (some 10) (goes.lane 0).position = [] ∧ (back.lane 1).quarantine = false
      ∧ back.pallet 0 = some { pallet 7#32 (.lane 0) .dock with quarantine := true }
      ∧ (loaded.shuttle 0).deck = some 7#32 ∧ (loaded.lane 1).position ≠ 10 ∧ m.cancelling = false
      ∧ (loaded.shuttle 0).crossed (some 10) (loaded.lane 1).position = [] ∧ (loaded.shuttle 0).slotB = none
      ∧ (goes.lane 0).position = 8
      ∧ ((withShuttle (fun v => { v with position := some 8 }) goes).shuttle 0).position = some 8
      ∧ (decides (move 2 .picking (some 0)) plant).move? 2 = some (move 2 .picking (some 0))
      ∧ (empty.shuttle 0).step = none ∧ (empty.shuttle 0).armed = none := by
  intro urgent s idle parks
  have first (t : State) (h : t.moves = idle.moves) : urgent.waitsFor t 0 → NextEligible t 0 t.moves urgent := fun w =>
    ⟨[move 3 .queued none], [], h, w, .inl ⟨rfl, fun x m _ => by
      rw [List.mem_singleton.mp m]; decide⟩⟩
  have second (t : State) (h : t.moves = idle.moves) (w : (move 3 .queued none).waitsFor t 0) :
      NextEligible t 0 (t.movesBut 4) (move 3 .queued none) :=
    ⟨[], [], by unfold State.movesBut; rw [h]; decide, w, .inr ⟨by decide, fun x m _ => by
      unfold State.movesBut at m; rw [h] at m
      rw [List.mem_singleton.mp m]; decide, fun _ m => absurd m List.not_mem_nil⟩⟩
  refine ⟨distinct_none rfl, distinct_one rfl, distinct_one rfl, distinct_one rfl, ?_, first idle rfl ⟨rfl, rfl, rfl⟩,
    first parks rfl ⟨rfl, rfl, rfl⟩, second idle rfl ⟨rfl, rfl, rfl⟩, second parks rfl ⟨rfl, rfl, rfl⟩,
    by decide +kernel⟩
  refine ⟨[move 2 .queued (some 0), move 3 .queued none], [], rfl, ⟨rfl, rfl, rfl⟩, .inl ⟨rfl, ?_⟩⟩
  intro x m _
  simp only [List.mem_cons, List.not_mem_nil, or_false] at m
  rcases m with rfl | rfl <;> decide

/-! ## Witnesses: whole-machine rules -/

theorem witness_OnlyTheManagerCommands :
    (∃ t, exec .timeBaseTick plant = .next t)
      ∧ (∃ t, exec (.frameCompletion .trunk (plainFrame 0xF1 0x30 1).bytes false) plant = .next t)
      ∧ requestPayload? .timeBaseTick = none ∧ (plainFrame 0xF1 0x30 1).dest ≠ plant.address
      ∧ stranger.src ≠ 0xFE#8 ∧ (requestPayload? (.activate stranger)).isSome = true
      ∧ (requestPayload? (.readCounters stranger 1#8)).isSome = true ∧ replyCount plant < 4 :=
  ⟨⟨_, rfl⟩, ⟨_, rfl⟩, rfl, by decide +kernel⟩

end Sys2Proof.Tests
end

section
/-! SUPPORT. Every command keeps the rules of the ports (R6, R8 to R14, R162, R169). The laws of Laws/ say it of the
operations of the portals, coils, shuttles and moves, for bounded queues; what is added here is the notice queue's own
bound, which holds whatever the other queues hold, and the rest of the commands. -/

namespace Sys2Proof.Machine

-- The lemmas below cite one another through `grind`, which waits for the cited proof: they are checked in turn.
set_option Elab.async false

/-! ## The notice queue's bound (R162) -/

/-- The notice queue lies within its capacity (R162). -/
def State.NoticesFit (s : State) : Prop := s.notices.length ≤ 32

section
variable {s : State}

theorem kickTrunk_fits (k : s.NoticesFit) : (kickTrunk s).NoticesFit :=
  (kickTrunk_taken s).notices.length_le.trans k

theorem offerNotice_fits (n : Notice) (k : s.NoticesFit) : (offerNotice n s).NoticesFit := by
  unfold offerNotice
  split
  · simpa [State.NoticesFit] using k
  split
  · refine kickTrunk_fits ?_
    simp [State.NoticesFit, Config.noticeDepth] at *; omega
  split
  · rename_i r hd
    obtain ⟨p, hp, rfl⟩ := displaced_sublist hd
    obtain ⟨x, hx, hpx⟩ := List.any_eq_true.mp hp
    refine kickTrunk_fits ?_
    have h1 := List.length_eraseP_of_mem hx hpx
    have h3 : 0 < s.notices.length := List.length_pos_of_mem hx
    simp [State.NoticesFit, h1] at *; omega
  · exact k

theorem raiseNotice_fits (a b v) (k : s.NoticesFit) : (raiseNotice a b v s).NoticesFit := offerNotice_fits _ k

theorem kickField_fits (k : s.NoticesFit) : (kickField s).NoticesFit := by
  rw [State.NoticesFit, (kickField_taken s).notices]; exact k

theorem fillPosition_fits (o f) (k : s.NoticesFit) : (fillPosition o f s).NoticesFit := by
  unfold fillPosition
  split
  · exact k
  · exact kickField_fits k

theorem originate_fits (o kind p) (k : s.NoticesFit) : (originate o kind p s).NoticesFit := by
  unfold originate
  split
  · exact fillPosition_fits _ _ k
  · exact raiseNotice_fits _ _ _ k

theorem originateDoor_fits (r a) (k : s.NoticesFit) : (originateDoor r a s).NoticesFit := originate_fits _ _ _ k

theorem originateCoil_fits (r a) (k : s.NoticesFit) : (originateCoil r a s).NoticesFit := originate_fits _ _ _ k

theorem originateOrder_fits (r a b) (k : s.NoticesFit) : (originateOrder r a b s).NoticesFit := originate_fits _ _ _ k

theorem dropOriginatedDoor_fits (r a) (k : s.NoticesFit) : (dropOriginatedDoor r a s).NoticesFit := k

theorem joinRefusal_fits (f) (k : s.NoticesFit) : (joinRefusal f s).NoticesFit := by
  unfold joinRefusal
  split
  · exact k
  · exact kickTrunk_fits k

theorem forEach_fits {α} {l : List α} {f : α → State → State}
    (step : ∀ a s, s.NoticesFit → (f a s).NoticesFit) (k : s.NoticesFit) : (forEach l f s).NoticesFit := by
  induction l generalizing s with
  | nil => exact k
  | cons a l ih => exact ih (step a s k)

theorem withdrawCommands_fits (r a w) (k : s.NoticesFit) : (withdrawCommands r a w s).NoticesFit :=
  forEach_fits (fun _ _ h => joinRefusal_fits _ h) k

theorem State.modZone_fits (i f) (k : s.NoticesFit) : (s.modZone i f).NoticesFit := k

theorem State.modRoom_fits (i f) (k : s.NoticesFit) : (s.modRoom i f).NoticesFit := k

theorem State.modCoil_fits (i f) (k : s.NoticesFit) : (s.modCoil i f).NoticesFit := k

theorem State.modLane_fits (i f) (k : s.NoticesFit) : (s.modLane i f).NoticesFit := k

theorem State.modShuttle_fits (i f) (k : s.NoticesFit) : (s.modShuttle i f).NoticesFit := k

theorem State.modPallet_fits (i f) (k : s.NoticesFit) : (s.modPallet i f).NoticesFit := k

theorem State.modMove_fits (i f) (k : s.NoticesFit) : (s.modMove i f).NoticesFit := k

theorem joinUplink_fits (f) (k : s.NoticesFit) : (joinUplink f s).NoticesFit := by
  unfold joinUplink
  split
  · exact k
  · exact kickTrunk_fits k

theorem placeForwarded_fits (f b) (k : s.NoticesFit) : (placeForwarded f b s).NoticesFit := kickField_fits k

theorem joinForwarded_fits (f) (k : s.NoticesFit) : (joinForwarded f s).NoticesFit := by
  unfold joinForwarded
  split
  · exact k
  · exact placeForwarded_fits _ _ k

theorem countEvent_fits (p n) (k : s.NoticesFit) : (countEvent p n s).NoticesFit := by
  cases p <;> exact k

/-! ### Travel -/

theorem setShuttleState_fits (u st) (k : s.NoticesFit) : (setShuttleState u st s).NoticesFit := by
  grind [setShuttleState, State.modShuttle_fits]

theorem beginTravel_fits (u target by_) (k : s.NoticesFit) : (beginTravel u target by_ s).NoticesFit :=
  originateOrder_fits _ _ _ k

theorem beginHandling_fits (u o st step) (k : s.NoticesFit) : (beginHandling u o st step s).NoticesFit := by
  grind [beginHandling, originateOrder_fits, State.modShuttle_fits]

theorem beginHoming_fits (u) (k : s.NoticesFit) : (beginHoming u s).NoticesFit := by
  grind [beginHoming, originateOrder_fits, State.modShuttle_fits]

theorem testArmed_fits (u) (k : s.NoticesFit) : (testArmed u s).NoticesFit := by
  grind [testArmed, beginTravel_fits]

theorem testHoming_fits (u) (k : s.NoticesFit) : (testHoming u s).NoticesFit := by
  grind [testHoming, beginHoming_fits]

theorem testWaiting_fits (u) (k : s.NoticesFit) : (testWaiting u s).NoticesFit := by
  grind [testWaiting, testHoming_fits, testArmed_fits]

/-! ### Claims -/

theorem tellReady_fits (r u) (k : s.NoticesFit) : (tellReady r u s).NoticesFit := by
  grind [tellReady, testWaiting_fits, State.modShuttle_fits]

theorem tellNotReady_fits (r u) (k : s.NoticesFit) : (tellNotReady r u s).NoticesFit := by
  grind [tellNotReady, State.modShuttle_fits]

theorem tellAllReady_fits (r) (k : s.NoticesFit) : (tellAllReady r s).NoticesFit := by
  grind [tellAllReady, tellReady_fits, forEach_fits]

theorem tellAllNotReady_fits (r) (k : s.NoticesFit) : (tellAllNotReady r s).NoticesFit := by
  grind [tellAllNotReady, tellNotReady_fits, forEach_fits]

theorem askOpen_fits (r) (k : s.NoticesFit) : (askOpen r s).NoticesFit := by
  grind [askOpen, originateDoor_fits, State.modRoom_fits]

theorem openForClaims_fits (r) (k : s.NoticesFit) : (openForClaims r s).NoticesFit := by
  grind [openForClaims, askOpen_fits, State.modRoom_fits]

theorem openForEntry_fits (r) (k : s.NoticesFit) : (openForEntry r s).NoticesFit := by
  grind [openForEntry, askOpen_fits, State.modRoom_fits]

theorem actOnEntry_fits (r u) (k : s.NoticesFit) : (actOnEntry r u s).NoticesFit := by
  grind [actOnEntry, openForEntry_fits, askOpen_fits, tellReady_fits]

theorem formEntry_fits (r u h) (k : s.NoticesFit) : (formEntry r u h s).NoticesFit := by
  grind [formEntry, withdrawCommands_fits, testWaiting_fits, actOnEntry_fits, State.modRoom_fits]

theorem joinEntry_fits (r u h) (k : s.NoticesFit) : (joinEntry r u h s).NoticesFit := by
  grind [joinEntry, tellReady_fits, State.modRoom_fits]

theorem grantClaim_fits (r u h) (k : s.NoticesFit) : (grantClaim r u h s).NoticesFit := by
  grind [grantClaim, joinEntry_fits, formEntry_fits]

theorem requestClaim_fits (r u h) (k : s.NoticesFit) : (requestClaim r u h s).NoticesFit := by
  grind [requestClaim, joinEntry_fits, formEntry_fits, State.modRoom_fits]

theorem requestClaims_fits (u h doors) (k : s.NoticesFit) : (requestClaims u h doors s).1.NoticesFit := by
  induction doors generalizing s with
  | nil => exact k
  | cons r rest ih => grind [requestClaims, requestClaim_fits]

theorem grantWaiting_fits (r) (k : s.NoticesFit) : (grantWaiting r s).NoticesFit := by
  grind [grantWaiting, grantClaim_fits, State.modRoom_fits, forEach_fits]

theorem releaseHold_fits (r) (k : s.NoticesFit) : (releaseHold r s).NoticesFit := by
  grind [releaseHold, grantWaiting_fits, State.modRoom_fits]

theorem expireHoldOpen_fits (r) (k : s.NoticesFit) : (expireHoldOpen r s).NoticesFit := by
  grind [expireHoldOpen, originateDoor_fits, State.modRoom_fits]

theorem startHoldOpen_fits (r) (k : s.NoticesFit) : (startHoldOpen r s).NoticesFit := by
  grind [startHoldOpen, expireHoldOpen_fits, State.modRoom_fits]

theorem handBackDoor_fits (r) (k : s.NoticesFit) : (handBackDoor r s).NoticesFit := by
  grind [handBackDoor, startHoldOpen_fits, State.modRoom_fits]

theorem setHold_fits (r) (k : s.NoticesFit) : (setHold r s).NoticesFit := by
  grind [setHold, withdrawCommands_fits, dropOriginatedDoor_fits, State.modRoom_fits]

/-! ### Defrost -/

theorem commandCoil_fits (c p) (k : s.NoticesFit) : (commandCoil c p s).NoticesFit := by
  grind [commandCoil, originateCoil_fits, State.modCoil_fits]

theorem openWindow_fits (z) (k : s.NoticesFit) : (openWindow z s).NoticesFit := by
  grind [openWindow, State.modZone_fits]

theorem reportCompletion_fits (z c) (k : s.NoticesFit) : (reportCompletion z c s).NoticesFit := by
  grind [reportCompletion, State.modZone_fits]

theorem completeCoil_fits (c) (k : s.NoticesFit) : (completeCoil c s).NoticesFit := by
  grind [completeCoil, raiseNotice_fits, State.modCoil_fits]

theorem endFanDelay_fits (c) (k : s.NoticesFit) : (endFanDelay c s).1.NoticesFit := by
  grind [endFanDelay, commandCoil_fits, reportCompletion_fits, completeCoil_fits, State.modCoil_fits, forEach_fits]

theorem enterFanDelay_fits (c) (k : s.NoticesFit) : (enterFanDelay c s).1.NoticesFit := by
  grind [enterFanDelay, releaseHold_fits, commandCoil_fits, endFanDelay_fits, State.modCoil_fits]

theorem enterDrip_fits (c) (k : s.NoticesFit) : (enterDrip c s).1.NoticesFit := by
  grind [enterDrip, commandCoil_fits, enterFanDelay_fits, State.modCoil_fits]

theorem enterHeat_fits (c) (k : s.NoticesFit) : (enterHeat c s).1.NoticesFit := by
  grind [enterHeat, commandCoil_fits, enterDrip_fits, State.modCoil_fits]

theorem enterPumpDown_fits (c) (k : s.NoticesFit) : (enterPumpDown c s).NoticesFit := by
  grind [enterPumpDown, commandCoil_fits, openWindow_fits, raiseNotice_fits, State.modCoil_fits]

theorem forEachCoil_fits (f l) (step : ∀ c s, s.NoticesFit → (f c s).1.NoticesFit) (k : s.NoticesFit) :
    (forEachCoil f l s).1.NoticesFit := by
  induction l generalizing s with
  | nil => exact k
  | cons c rest ih => exact ih (step c s k)

theorem startPumpDown_fits (cs) (k : s.NoticesFit) : (startPumpDown cs s).1.NoticesFit := by
  grind [startPumpDown, enterPumpDown_fits, forEachCoil_fits, enterHeat_fits, forEach_fits]

theorem grantHold_fits (r) (k : s.NoticesFit) : (grantHold r s).1.NoticesFit := by
  grind [grantHold, setHold_fits, startPumpDown_fits]

theorem examineHold_fits (r) (k : s.NoticesFit) : (examineHold r s).1.NoticesFit := by
  grind [examineHold, grantHold_fits]

theorem requestHold_fits (r mark) (k : s.NoticesFit) : (requestHold r mark s).1.NoticesFit := by
  grind [requestHold, grantHold_fits, expireHoldOpen_fits, State.modRoom_fits]

theorem renewHold_fits (z) (k : s.NoticesFit) : (renewHold z s).NoticesFit := by
  grind [renewHold, requestHold_fits]

theorem reportMark_fits (z) (k : s.NoticesFit) : (reportMark z s).1.NoticesFit := by
  grind [reportMark, grantHold_fits, grantWaiting_fits, State.modRoom_fits]

theorem beginDefrost_fits (z cs) (k : s.NoticesFit) : (beginDefrost z cs s).1.NoticesFit := by
  grind [beginDefrost, startPumpDown_fits, requestHold_fits, State.modCoil_fits, forEach_fits]

theorem selectStaggered_fits (z) (k : s.NoticesFit) : (selectStaggered z s).1.NoticesFit := by
  grind [selectStaggered, beginDefrost_fits, State.modZone_fits, State.modCoil_fits]

theorem selectAll_fits (z) (k : s.NoticesFit) : (selectAll z s).1.NoticesFit := by
  grind [selectAll, beginDefrost_fits, State.modCoil_fits, forEach_fits]

theorem selectOnce_fits (z) (k : s.NoticesFit) : (selectOnce z s).1.NoticesFit := by
  grind [selectOnce, selectStaggered_fits, selectAll_fits]

theorem selectLoop_fits (n z) (k : s.NoticesFit) : (selectLoop n z s).NoticesFit := by
  induction n generalizing s with
  | zero => exact k
  | succ n ih => grind [selectLoop, selectOnce_fits, renewHold_fits]

theorem selectZone_fits (z) (k : s.NoticesFit) : (selectZone z s).NoticesFit := by
  grind [selectZone, selectLoop_fits]

theorem thenSelect_fits (z) {p : State × Bool} (k : p.1.NoticesFit) : (thenSelect z p).NoticesFit := by
  grind [thenSelect, selectZone_fits, renewHold_fits]

theorem examineRoom_fits (r) (k : s.NoticesFit) : (examineRoom r s).NoticesFit := by
  grind [examineRoom, thenSelect_fits, examineHold_fits]

theorem raiseOwed_fits (n c) (k : s.NoticesFit) : (raiseOwed n c s).NoticesFit := by
  grind [raiseOwed, raiseNotice_fits, State.modCoil_fits]

theorem owedChanged_fits (z) (k : s.NoticesFit) : (owedChanged z s).NoticesFit := by
  grind [owedChanged, selectZone_fits, reportMark_fits]

theorem raiseZoneOwed_fits (n z) (k : s.NoticesFit) : (raiseZoneOwed n z s).NoticesFit := by
  grind [raiseZoneOwed, owedChanged_fits, raiseOwed_fits, forEach_fits]

theorem testPhaseEnd_fits (c) (k : s.NoticesFit) : (testPhaseEnd c s).1.NoticesFit := by
  grind [testPhaseEnd, enterDrip_fits, endFanDelay_fits]

theorem expireInterval_fits (c) (k : s.NoticesFit) : (expireInterval c s).NoticesFit := by
  grind [expireInterval, selectZone_fits, owedChanged_fits, raiseOwed_fits, raiseNotice_fits, State.modCoil_fits]

theorem expireSpacing_fits (c) (k : s.NoticesFit) : (expireSpacing c s).NoticesFit := by
  grind [expireSpacing, selectZone_fits, State.modCoil_fits]

theorem expirePhase_fits (c) (k : s.NoticesFit) : (expirePhase c s).NoticesFit := by
  grind [expirePhase, thenSelect_fits, enterHeat_fits, enterDrip_fits, raiseNotice_fits, enterFanDelay_fits,
    endFanDelay_fits, State.modCoil_fits]

theorem expireFollow_fits (c) (k : s.NoticesFit) : (expireFollow c s).NoticesFit := by
  grind [expireFollow, raiseNotice_fits, State.modCoil_fits]

/-! ### Pallets -/

theorem locatePallet_fits (id loc st) (k : s.NoticesFit) : (locatePallet id loc st s).NoticesFit := by
  grind [locatePallet, State.modPallet_fits]

theorem appendToLane_fits (l id) (k : s.NoticesFit) : (appendToLane l id s).NoticesFit := by
  grind [appendToLane, locatePallet_fits, State.modLane_fits]

theorem releaseReservation_fits (l) (k : s.NoticesFit) : (releaseReservation l s).NoticesFit := by
  grind [releaseReservation, State.modLane_fits]

theorem takeReservation_fits (l) (k : s.NoticesFit) : (takeReservation l s).NoticesFit := by
  grind [takeReservation, State.modLane_fits]

theorem pickFromLane_fits (l u) (k : s.NoticesFit) : (pickFromLane l u s).1.NoticesFit := by
  grind [pickFromLane, locatePallet_fits, State.modLane_fits, State.modShuttle_fits]

theorem placeFromDeck_fits (l u) (k : s.NoticesFit) : (placeFromDeck l u s).NoticesFit := by
  grind [placeFromDeck, releaseReservation_fits, appendToLane_fits, State.modShuttle_fits]

theorem setDeckStatus_fits (u st) (k : s.NoticesFit) : (setDeckStatus u st s).NoticesFit := by
  grind [setDeckStatus, locatePallet_fits]

theorem holdDeck_fits (u) (k : s.NoticesFit) : (holdDeck u s).NoticesFit := by
  grind [holdDeck, setDeckStatus_fits]

theorem carryDeck_fits (u) (k : s.NoticesFit) : (carryDeck u s).NoticesFit := by
  grind [carryDeck, setDeckStatus_fits]

theorem returnToLane_fits (l u) (k : s.NoticesFit) : (returnToLane l u s).NoticesFit := by
  grind [returnToLane, appendToLane_fits, State.modShuttle_fits]

theorem unplaceDeck_fits (u) (k : s.NoticesFit) : (unplaceDeck u s).NoticesFit := by
  grind [unplaceDeck, locatePallet_fits, State.modShuttle_fits]

/-! ### Portal -/

theorem releaseClaim_fits (r u h) (k : s.NoticesFit) : (releaseClaim r u h s).NoticesFit := by
  grind [releaseClaim, tellNotReady_fits, examineRoom_fits, handBackDoor_fits, State.modRoom_fits]

theorem releaseAllClaims_fits (u h) (k : s.NoticesFit) : (releaseAllClaims u h s).NoticesFit := by
  grind [releaseAllClaims, releaseClaim_fits, forEach_fits]

theorem releaseOtherClaims_fits (u h keep) (k : s.NoticesFit) : (releaseOtherClaims u h keep s).NoticesFit := by
  grind [releaseOtherClaims, releaseClaim_fits, forEach_fits]

theorem handOverClaims_fits (u m) (k : s.NoticesFit) : (handOverClaims u m s).NoticesFit :=
  forEach_fits (fun _ _ h => h) k

theorem alarmRoom_fits (r l value) (k : s.NoticesFit) : (alarmRoom r l value s).NoticesFit := by
  grind [alarmRoom, raiseNotice_fits, State.modRoom_fits]

theorem enterOpen_fits (r) (k : s.NoticesFit) : (enterOpen r s).NoticesFit := by
  grind [enterOpen, tellAllReady_fits, State.modRoom_fits]

theorem enterClosed_fits (r) (k : s.NoticesFit) : (enterClosed r s).NoticesFit := by
  grind [enterClosed, examineRoom_fits, State.modRoom_fits]

theorem noteOpenInDefrost_fits (r pos) (k : s.NoticesFit) : (noteOpenInDefrost r pos s).NoticesFit := by
  grind [noteOpenInDefrost, raiseNotice_fits, State.modRoom_fits]

theorem closedOnClaim_fits (r) (k : s.NoticesFit) : (closedOnClaim r s).NoticesFit := by
  grind [closedOnClaim, raiseNotice_fits, openForClaims_fits, tellAllNotReady_fits]

theorem roomClosedReport_fits (r) (k : s.NoticesFit) : (roomClosedReport r s).NoticesFit := by
  grind [roomClosedReport, enterClosed_fits, closedOnClaim_fits, openForClaims_fits]

theorem roomMovingReport_fits (r) (k : s.NoticesFit) : (roomMovingReport r s).NoticesFit := by
  grind [roomMovingReport, noteOpenInDefrost_fits, closedOnClaim_fits, openForClaims_fits, State.modRoom_fits]

theorem roomOpenReport_fits (r) (k : s.NoticesFit) : (roomOpenReport r s).NoticesFit := by
  grind [roomOpenReport, enterOpen_fits, noteOpenInDefrost_fits, State.modRoom_fits]

theorem roomFaultReport_fits (r) (k : s.NoticesFit) : (roomFaultReport r s).NoticesFit := by
  grind [roomFaultReport, tellAllNotReady_fits, alarmRoom_fits, State.modRoom_fits]

theorem roomReport_fits (r pos truck) (k : s.NoticesFit) : (roomReport r pos truck s).NoticesFit := by
  cases pos <;> grind [roomReport, roomClosedReport_fits, roomMovingReport_fits, roomOpenReport_fits,
    roomFaultReport_fits, State.modRoom_fits]

theorem expireDoor_fits (r) (k : s.NoticesFit) : (expireDoor r s).NoticesFit := by
  grind [expireDoor, raiseNotice_fits, State.modRoom_fits]

/-! ### Moves -/

theorem dropMove_fits (m : Move) (k : s.NoticesFit) : (dropMove m s).NoticesFit := by
  unfold dropMove
  cases m.shuttle <;> exact k

theorem reportEnd_fits (m result reason) (k : s.NoticesFit) : (reportEnd m result reason s).NoticesFit := by
  grind [reportEnd, dropMove_fits, raiseNotice_fits]

theorem endMove_fits (m result reason reserved) (k : s.NoticesFit) :
    (endMove m result reason reserved s).NoticesFit := by
  grind [endMove, releaseAllClaims_fits, releaseReservation_fits, reportEnd_fits]

theorem stopMove_fits (m reason reserved) (k : s.NoticesFit) : (stopMove m reason reserved s).NoticesFit := by
  grind [stopMove, endMove_fits]

theorem askEarlyClaims_fits (u) (k : s.NoticesFit) : (askEarlyClaims u s).NoticesFit := by
  grind [askEarlyClaims, requestClaim_fits, forEach_fits]

theorem askPick_fits (u m) (k : s.NoticesFit) : (askPick u m s).NoticesFit := by
  grind [askPick, beginHandling_fits]

theorem askPlace_fits (u m) (k : s.NoticesFit) : (askPlace u m s).NoticesFit := by
  grind [askPlace, beginHandling_fits]

theorem moveArrived_fits (u id) (k : s.NoticesFit) : (moveArrived u id s).NoticesFit := by
  grind [moveArrived, endMove_fits, askPick_fits, askPlace_fits, askEarlyClaims_fits, State.modMove_fits]

theorem askTravel_fits (u id target) (k : s.NoticesFit) : (askTravel u id target s).NoticesFit := by
  grind [askTravel, moveArrived_fits, beginTravel_fits, State.modShuttle_fits]

theorem moveTravel_fits (u m target) (k : s.NoticesFit) : (moveTravel u m target s).NoticesFit := by
  grind [moveTravel, requestClaims_fits, askTravel_fits, releaseOtherClaims_fits, stopMove_fits]

theorem goToSource_fits (u m pallet) (k : s.NoticesFit) : (goToSource u m pallet s).NoticesFit := by
  grind [goToSource, moveTravel_fits, State.modMove_fits]

theorem goToDest_fits (u m pallet) (k : s.NoticesFit) : (goToDest u m pallet s).NoticesFit := by
  grind [goToDest, moveTravel_fits, State.modMove_fits]

theorem readDest_fits (m) (k : s.NoticesFit) : (readDest m s).NoticesFit := by
  grind [readDest, State.modMove_fits]

theorem pickUpDecision_fits (u m) (k : s.NoticesFit) : (pickUpDecision u m s).NoticesFit := by
  grind [pickUpDecision, stopMove_fits, goToDest_fits, takeReservation_fits, readDest_fits, goToSource_fits]

theorem enterSlotA_fits (u id) (k : s.NoticesFit) : (enterSlotA u id s).NoticesFit := by
  grind [enterSlotA, State.modShuttle_fits, State.modMove_fits]

theorem enterSlotB_fits (u id) (k : s.NoticesFit) : (enterSlotB u id s).NoticesFit := by
  grind [enterSlotB, State.modShuttle_fits, State.modMove_fits]

theorem moveUp_fits (u id) (k : s.NoticesFit) : (moveUp u id s).NoticesFit := k

theorem fillSlotA_fits (u) (k : s.NoticesFit) : (fillSlotA u s).NoticesFit := by
  grind [fillSlotA, moveUp_fits, enterSlotA_fits]

theorem beginQueued_fits (u) (k : s.NoticesFit) : (beginQueued u s).NoticesFit := by
  grind [beginQueued, pickUpDecision_fits]

theorem fillSlotB_fits (u) (k : s.NoticesFit) : (fillSlotB u s).NoticesFit := by
  grind [fillSlotB, enterSlotB_fits]

theorem settleLoop_fits (n u) (k : s.NoticesFit) : (settleLoop n u s).NoticesFit := by
  induction n generalizing s with
  | zero => exact k
  | succ n ih => grind [settleLoop, fillSlotA_fits, fillSlotB_fits, beginQueued_fits]

theorem settleRail_fits (u) (k : s.NoticesFit) : (settleRail u s).NoticesFit := by
  grind [settleRail, settleLoop_fits]

theorem startPark_fits (u) (k : s.NoticesFit) : (startPark u s).NoticesFit := by
  grind [startPark, State.modShuttle_fits]

theorem retryStep_fits (u) (k : s.NoticesFit) : (retryStep u s).NoticesFit := by
  grind [retryStep, moveTravel_fits, askPick_fits, askPlace_fits]

theorem enteredIdle_fits (u) (k : s.NoticesFit) : (enteredIdle u s).NoticesFit := by
  grind [enteredIdle, startPark_fits, settleRail_fits, beginQueued_fits, retryStep_fits, testArmed_fits]

theorem movePicked_fits (u id answer) (k : s.NoticesFit) : (movePicked u id answer s).NoticesFit := by
  grind [movePicked, stopMove_fits, goToDest_fits]

theorem movePlaced_fits (u id) (k : s.NoticesFit) : (movePlaced u id s).NoticesFit := by
  grind [movePlaced, pickUpDecision_fits, endMove_fits, State.modMove_fits]

theorem failMove_fits (u m) (k : s.NoticesFit) : (failMove u m s).NoticesFit := by
  grind [failMove, handOverClaims_fits, releaseReservation_fits, reportEnd_fits]

theorem returnToQueue_fits (u id) (k : s.NoticesFit) : (returnToQueue u id s).NoticesFit := by
  grind [returnToQueue, releaseAllClaims_fits, State.modShuttle_fits, State.modMove_fits]

theorem movesOnFault_fits (u) (k : s.NoticesFit) : (movesOnFault u s).NoticesFit := by
  grind [movesOnFault, returnToQueue_fits, failMove_fits]

theorem cancelMove_fits (m) (k : s.NoticesFit) : (cancelMove m s).NoticesFit := by
  grind [cancelMove, endMove_fits, settleRail_fits, State.modShuttle_fits, State.modMove_fits]

/-! ### Shuttles -/

theorem enterFault_fits (u reason) (k : s.NoticesFit) : (enterFault u reason s).NoticesFit := by
  grind [enterFault, holdDeck_fits, raiseNotice_fits, movesOnFault_fits, State.modShuttle_fits]

theorem endStep_fits (u) (k : s.NoticesFit) : (endStep u s).NoticesFit := by
  grind [endStep, State.modShuttle_fits]

theorem afterMoveStep_fits (u) (k : s.NoticesFit) : (afterMoveStep u s).NoticesFit := by
  grind [afterMoveStep, startPark_fits, settleRail_fits]

theorem arrive_fits (u target by_) (k : s.NoticesFit) : (arrive u target by_ s).NoticesFit := by
  cases by_ <;> grind [arrive, endStep_fits, afterMoveStep_fits, moveArrived_fits, enteredIdle_fits,
    releaseAllClaims_fits, State.modShuttle_fits]

theorem picked_fits (u l m) (k : s.NoticesFit) : (picked u l m s).NoticesFit := by
  grind [picked, pickFromLane_fits, endStep_fits, afterMoveStep_fits, movePicked_fits]

theorem placed_fits (u l m) (k : s.NoticesFit) : (placed u l m s).NoticesFit := by
  grind [placed, afterMoveStep_fits, movePlaced_fits, placeFromDeck_fits, endStep_fits]

theorem homed_fits (u loaded) (k : s.NoticesFit) : (homed u loaded s).NoticesFit := by
  grind [homed, enterFault_fits, endStep_fits, releaseAllClaims_fits, carryDeck_fits, raiseNotice_fits,
    enteredIdle_fits, State.modShuttle_fits]

theorem shuttleReport_fits (u rep pos loaded) (k : s.NoticesFit) : (shuttleReport u rep pos loaded s).NoticesFit := by
  cases rep <;> grind [shuttleReport, arrive_fits, picked_fits, placed_fits, homed_fits, enterFault_fits,
    raiseNotice_fits, setShuttleState_fits, enteredIdle_fits]

theorem expireStep_fits (u) (k : s.NoticesFit) : (expireStep u s).NoticesFit := by
  grind [expireStep, enterFault_fits]

theorem startHoming_fits (u) (k : s.NoticesFit) : (startHoming u s).NoticesFit := by
  grind [startHoming, setShuttleState_fits, testHoming_fits, requestClaim_fits, forEach_fits]

theorem clearShuttle_fits (u d) (k : s.NoticesFit) : (clearShuttle u d s).NoticesFit := by
  grind [clearShuttle, returnToLane_fits, carryDeck_fits, unplaceDeck_fits, releaseAllClaims_fits,
    enteredIdle_fits, setShuttleState_fits, State.modShuttle_fits]

theorem startParking_fits (u) (k : s.NoticesFit) : (startParking u s).NoticesFit := by
  grind [startParking, requestClaims_fits, releaseAllClaims_fits, setShuttleState_fits, arrive_fits,
    beginTravel_fits, settleRail_fits, State.modShuttle_fits]

theorem expirePark_fits (u) (k : s.NoticesFit) : (expirePark u s).NoticesFit := by
  grind [expirePark, startParking_fits, State.modShuttle_fits]

end

/-! ## Every operation of the units keeps the rules of the ports -/

/-- The rules of the ports are kept, no reply is added, and the notice queue stays within its capacity, whatever the
other queues hold (R162). -/
structure PortsHeld (s t : State) : Prop extends PortsKept s t where
  fits : s.NoticesFit → t.NoticesFit

theorem PortsHeld.refl (s : State) : PortsHeld s s := ⟨PortsKept.refl s, id⟩

theorem PortsHeld.step {s t u : State} (h : PortsHeld s t) (kept : PortsKept t u)
    (fits : t.NoticesFit → u.NoticesFit) : PortsHeld s u :=
  ⟨h.toPortsKept.trans kept, fits ∘ h.fits⟩

/-- A change outside the ports. -/
theorem PortsHeld.aside {s t u : State} (h : PortsHeld s t) (same : SamePorts t u) : PortsHeld s u :=
  h.step same.kept fun k => by rw [State.NoticesFit, same.notices]; exact k

section
variable {s₀ s : State}

theorem State.modProbe_held (i f) (k : PortsHeld s₀ s) : PortsHeld s₀ (s.modProbe i f) :=
  k.aside (by constructor <;> rfl)

theorem State.modZone_held (i f) (k : PortsHeld s₀ s) : PortsHeld s₀ (s.modZone i f) :=
  k.aside (by constructor <;> rfl)

theorem State.modDock_held (i f) (k : PortsHeld s₀ s) : PortsHeld s₀ (s.modDock i f) :=
  k.aside (by constructor <;> rfl)

theorem State.modRoom_held (i f) (k : PortsHeld s₀ s) : PortsHeld s₀ (s.modRoom i f) :=
  k.aside (by constructor <;> rfl)

theorem State.modCoil_held (i f) (k : PortsHeld s₀ s) : PortsHeld s₀ (s.modCoil i f) :=
  k.aside (by constructor <;> rfl)

theorem State.modLane_held (i f) (k : PortsHeld s₀ s) : PortsHeld s₀ (s.modLane i f) :=
  k.aside (by constructor <;> rfl)

theorem State.modShuttle_held (i f) (k : PortsHeld s₀ s) : PortsHeld s₀ (s.modShuttle i f) :=
  k.aside (by constructor <;> rfl)

theorem State.modPallet_held (i f) (k : PortsHeld s₀ s) : PortsHeld s₀ (s.modPallet i f) :=
  k.aside (by constructor <;> rfl)

theorem State.modEntry_held (i f) (k : PortsHeld s₀ s) : PortsHeld s₀ (s.modEntry i f) :=
  k.aside (by constructor <;> rfl)

theorem State.modCondition_held (i f) (k : PortsHeld s₀ s) : PortsHeld s₀ (s.modCondition i f) :=
  k.aside (by constructor <;> rfl)

theorem forEach_held {α : Type} {l : List α} {f : α → State → State}
    (step : ∀ a s, PortsHeld s₀ s → PortsHeld s₀ (f a s)) (k : PortsHeld s₀ s) : PortsHeld s₀ (forEach l f s) := by
  induction l generalizing s with
  | nil => exact k
  | cons a l ih => exact ih (step a s k)

theorem countEvent_held (p n) (k : PortsHeld s₀ s) : PortsHeld s₀ (countEvent p n s) :=
  k.step (countEvent_portStep _ _ _).kept (countEvent_fits _ _)

theorem joinUplink_held (f) (k : PortsHeld s₀ s) : PortsHeld s₀ (joinUplink f s) :=
  k.step (joinUplink_portStep _ _).kept (joinUplink_fits _)

theorem joinRefusal_held (f) (k : PortsHeld s₀ s) : PortsHeld s₀ (joinRefusal f s) :=
  k.step (joinRefusal_portStep _ _).kept (joinRefusal_fits _)

theorem raiseNotice_held (a o v) (k : PortsHeld s₀ s) : PortsHeld s₀ (raiseNotice a o v s) :=
  k.step (raiseNotice_portStep _ _ _ _).kept (raiseNotice_fits _ _ _)

theorem joinForwarded_held (f) (k : PortsHeld s₀ s) : PortsHeld s₀ (joinForwarded f s) :=
  k.step (joinForwarded_portStep _ _).kept (joinForwarded_fits _)

theorem originateCoil_held (c p) (k : PortsHeld s₀ s) : PortsHeld s₀ (originateCoil c p s) :=
  k.step (originateCoil_portStep _ _ _).kept (originateCoil_fits _ _)

theorem withdrawCommands_held (r a w) (k : PortsHeld s₀ s) : PortsHeld s₀ (withdrawCommands r a w s) :=
  k.step (withdrawCommands_portStep _ _ _ _).kept (withdrawCommands_fits _ _ _)

theorem testArmed_held (u) (k : PortsHeld s₀ s) : PortsHeld s₀ (testArmed u s) :=
  k.step (testArmed_claimStep _ _).ports (testArmed_fits _)

theorem testHoming_held (u) (k : PortsHeld s₀ s) : PortsHeld s₀ (testHoming u s) :=
  k.step (testHoming_claimStep _ _).ports (testHoming_fits _)

theorem examineRoom_held (r) (k : PortsHeld s₀ s) : PortsHeld s₀ (examineRoom r s) :=
  k.step (examineRoom_ripple _ _).ports (examineRoom_fits _)

theorem expireHoldOpen_held (r) (k : PortsHeld s₀ s) : PortsHeld s₀ (expireHoldOpen r s) :=
  k.step (expireHoldOpen_claimStep _ _).ports (expireHoldOpen_fits _)

theorem expireDoor_held (r) (k : PortsHeld s₀ s) : PortsHeld s₀ (expireDoor r s) :=
  k.step (expireDoor_claimStep _ _).ports (expireDoor_fits _)

theorem selectZone_held (z) (k : PortsHeld s₀ s) : PortsHeld s₀ (selectZone z s) :=
  k.step (selectZone_ripple _ _).ports (selectZone_fits _)

theorem owedChanged_held (z) (k : PortsHeld s₀ s) : PortsHeld s₀ (owedChanged z s) :=
  k.step (owedChanged_ripple _ _).ports (owedChanged_fits _)

theorem raiseZoneOwed_held (n z) (k : PortsHeld s₀ s) : PortsHeld s₀ (raiseZoneOwed n z s) :=
  k.step (raiseZoneOwed_ripple _ _ _).ports (raiseZoneOwed_fits _ _)

theorem expireSpacing_held (c) (k : PortsHeld s₀ s) : PortsHeld s₀ (expireSpacing c s) :=
  k.step (expireSpacing_ripple _ _).ports (expireSpacing_fits _)

theorem expirePhase_held (c) (k : PortsHeld s₀ s) : PortsHeld s₀ (expirePhase c s) :=
  k.step (expirePhase_ripple _ _).ports (expirePhase_fits _)

theorem expireFollow_held (c) (k : PortsHeld s₀ s) : PortsHeld s₀ (expireFollow c s) :=
  k.step (expireFollow_claimStep _ _).ports (expireFollow_fits _)

theorem roomReport_held (r pos truck) (k : PortsHeld s₀ s) : PortsHeld s₀ (roomReport r pos truck s) :=
  k.step (roomReport_ripple _ _ _ _).ports (roomReport_fits _ _ _)

theorem shuttleReport_held (u rep pos b) (k : PortsHeld s₀ s) : PortsHeld s₀ (shuttleReport u rep pos b s) :=
  k.step (shuttleReport_wave _ _ _ _ _).ports (shuttleReport_fits _ _ _ _)

theorem expireStep_held (u) (k : PortsHeld s₀ s) : PortsHeld s₀ (expireStep u s) :=
  k.step (expireStep_wave _ _).ports (expireStep_fits _)

theorem expirePark_held (u) (k : PortsHeld s₀ s) : PortsHeld s₀ (expirePark u s) :=
  k.step (expirePark_wave _ _).ports (expirePark_fits _)

theorem beginQueued_held (u) (k : PortsHeld s₀ s) : PortsHeld s₀ (beginQueued u s) :=
  k.step (beginQueued_wave _ _).ports (beginQueued_fits _)

theorem settleRail_held (u) (k : PortsHeld s₀ s) : PortsHeld s₀ (settleRail u s) :=
  k.step (settleRail_wave _ _).ports (settleRail_fits _)

theorem retryStep_held (u) (k : PortsHeld s₀ s) : PortsHeld s₀ (retryStep u s) :=
  k.step (retryStep_wave _ _).ports (retryStep_fits _)

theorem cancelMove_held (m) (k : PortsHeld s₀ s) : PortsHeld s₀ (cancelMove m s) :=
  k.step (cancelMove_wave _ _).ports (cancelMove_fits _)

theorem startHoming_held (u) (k : PortsHeld s₀ s) : PortsHeld s₀ (startHoming u s) :=
  k.step (startHoming_wave _ _).ports (startHoming_fits _)

theorem clearShuttle_held (u d) (k : PortsHeld s₀ s) : PortsHeld s₀ (clearShuttle u d s) :=
  k.step (clearShuttle_wave _ _ _).ports (clearShuttle_fits _ _)

theorem appendToLane_held (l id) (k : PortsHeld s₀ s) : PortsHeld s₀ (appendToLane l id s) :=
  k.step (appendToLane_wave _ _ _).ports (appendToLane_fits _ _)

theorem unplaceDeck_held (u) (k : PortsHeld s₀ s) : PortsHeld s₀ (unplaceDeck u s) :=
  k.step (unplaceDeck_wave _ _).ports (unplaceDeck_fits _)

theorem thenSelect_held (z) {p : State × Bool} (k : PortsHeld s₀ p.1) : PortsHeld s₀ (thenSelect z p) :=
  k.step (thenSelect_ripple z p (Ripple.refl _)).ports (thenSelect_fits z)

theorem testPhaseEnd_held (c) (k : PortsHeld s₀ s) : PortsHeld s₀ (testPhaseEnd c s).1 :=
  k.step (testPhaseEnd_ripple _ _).ports (testPhaseEnd_fits _)

theorem expireInterval_held (c) (k : PortsHeld s₀ s) : PortsHeld s₀ (expireInterval c s) :=
  k.step ((State.modCoil_held c _ (PortsHeld.refl s)).toPortsKept.trans (expireInterval_ripple c s).ports)
    (expireInterval_fits _)

/-- A held-free portal grants its waiting list (R92). -/
theorem grantWaiting_held (r) (free : (s.room r).hold ≠ .set) (k : PortsHeld s₀ s) :
    PortsHeld s₀ (grantWaiting r s) :=
  k.step (grantWaiting_claimStep r s free).ports (grantWaiting_fits r)

theorem placeForwarded_held (f b) (room : forwardedFull s = false) (k : PortsHeld s₀ s) :
    PortsHeld s₀ (placeForwarded f b s) :=
  k.step (placeForwarded_portStep f b s room).kept (placeForwarded_fits f b)

/-! ### Defrost -/

theorem changeReading_held (c f) (k : PortsHeld s₀ s) : PortsHeld s₀ (changeReading c f s) := by
  grind [changeReading, thenSelect_held, testPhaseEnd_held, State.modCoil_held]

theorem handProbeReading_held (c st value) (k : PortsHeld s₀ s) : PortsHeld s₀ (handProbeReading c st value s) := by
  grind [handProbeReading, changeReading_held]

theorem takeReported_held (c value) (k : PortsHeld s₀ s) : PortsHeld s₀ (takeReported c value s) := by
  grind [takeReported, changeReading_held]

theorem takeEcho_held (c echo) (k : PortsHeld s₀ s) : PortsHeld s₀ (takeEcho c echo s) := by
  grind [takeEcho, State.modCoil_held]

theorem expireReport_held (c) (k : PortsHeld s₀ s) : PortsHeld s₀ (expireReport c s) := by
  grind [expireReport, changeReading_held]

/-! ### Pallets -/

theorem removeFromLane_held (l id) (k : PortsHeld s₀ s) : PortsHeld s₀ (removeFromLane l id s) := by
  grind [removeFromLane, State.modLane_held]

theorem leaveLocation_held (p) (k : PortsHeld s₀ s) : PortsHeld s₀ (leaveLocation p s) := by
  grind [leaveLocation, removeFromLane_held]

theorem freshArrival_held (i id cls p) (k : PortsHeld s₀ s) : PortsHeld s₀ (freshArrival i id cls p s) := by
  have set : PortsHeld s₀ { s with pallets := tset s.pallets i (some (freshPallet s id cls p)) } :=
    k.aside (by constructor <;> rfl)
  grind [freshArrival, raiseNotice_held, State.modLane_held, State.modPallet_held]

theorem readIn_held (p id cls) (k : PortsHeld s₀ s) : PortsHeld s₀ (readIn p id cls s) := by
  have left (l : List PalletIx) : PortsHeld s₀ { s with departed := l } := k.aside (by constructor <;> rfl)
  grind [readIn, raiseNotice_held, freshArrival_held]

theorem departPallet_held (p i q) (k : PortsHeld s₀ s) : PortsHeld s₀ (departPallet p i q s) := by
  have joined {t : State} (h : PortsHeld s₀ t) (l : List PalletIx) : PortsHeld s₀ { t with departed := l } :=
    h.aside (by constructor <;> rfl)
  grind [departPallet, leaveLocation_held, raiseNotice_held, State.modPallet_held]

theorem readOut_held (p id) (k : PortsHeld s₀ s) : PortsHeld s₀ (readOut p id s) := by
  grind [readOut, raiseNotice_held, departPallet_held]

theorem tagRead_held (p id cls outbound) (k : PortsHeld s₀ s) : PortsHeld s₀ (tagRead p id cls outbound s) := by
  grind [tagRead, readOut_held, readIn_held, raiseNotice_held]

theorem removePallet_held (i q) (k : PortsHeld s₀ s) : PortsHeld s₀ (removePallet i q s) :=
  (leaveLocation_held q k).aside (by constructor <;> rfl)

theorem quarantineStep_held (i) (k : PortsHeld s₀ s) : PortsHeld s₀ (quarantineStep i s) := by
  grind [quarantineStep, raiseNotice_held, State.modPallet_held]

theorem palletExpiry_held (k : PortsHeld s₀ s) : PortsHeld s₀ (palletExpiry s) :=
  forEach_held (fun i _ h => quarantineStep_held i h) (k.aside (by constructor <;> rfl))

/-! ### Portal -/

theorem alarmDock_held (p l value) (k : PortsHeld s₀ s) : PortsHeld s₀ (alarmDock p l value s) := by
  grind [alarmDock, raiseNotice_held, State.modDock_held]

theorem enterDock_held (p st) (k : PortsHeld s₀ s) : PortsHeld s₀ (enterDock p st s) := by
  grind [enterDock, State.modDock_held]

theorem enterDockByDoor_held (p st) (k : PortsHeld s₀ s) : PortsHeld s₀ (enterDockByDoor p st s) := by
  grind [enterDockByDoor, enterDock_held, alarmDock_held]

theorem dockReport_held (p pos truck) (k : PortsHeld s₀ s) : PortsHeld s₀ (dockReport p pos truck s) := by
  cases pos <;> grind [dockReport, alarmDock_held, enterDock_held, enterDockByDoor_held, State.modDock_held]

theorem dockPressure_held (p pressure) (k : PortsHeld s₀ s) : PortsHeld s₀ (dockPressure p pressure s) := by
  grind [dockPressure, enterDock_held, raiseNotice_held, alarmDock_held, State.modDock_held]

theorem expireSeal_held (p) (k : PortsHeld s₀ s) : PortsHeld s₀ (expireSeal p s) := by
  grind [expireSeal, raiseNotice_held, enterDock_held, State.modDock_held]

/-! ### Temperature -/

theorem recomputeZone_held (z) (k : PortsHeld s₀ s) : PortsHeld s₀ (recomputeZone z s) := by
  grind [recomputeZone, raiseNotice_held, State.modZone_held]

theorem passProbe_held (i) (k : PortsHeld s₀ s) : PortsHeld s₀ (passProbe i s) := by
  grind [passProbe, recomputeZone_held, handProbeReading_held]

theorem probeSample_held (i value) (k : PortsHeld s₀ s) : PortsHeld s₀ (probeSample i value s) := by
  grind [probeSample, raiseNotice_held, passProbe_held, State.modProbe_held]

theorem expireStaleness_held (i) (k : PortsHeld s₀ s) : PortsHeld s₀ (expireStaleness i s) := by
  grind [expireStaleness, passProbe_held, raiseNotice_held, State.modProbe_held]

theorem expireAllowance_held (z) (k : PortsHeld s₀ s) : PortsHeld s₀ (expireAllowance z s) := by
  grind [expireAllowance, State.modZone_held]

theorem frostStep_held (z) (k : PortsHeld s₀ s) : PortsHeld s₀ (frostStep z s) := by
  grind [frostStep, raiseZoneOwed_held, State.modZone_held]

theorem zoneAlarmStep_held (z) (k : PortsHeld s₀ s) : PortsHeld s₀ (zoneAlarmStep z s) := by
  grind [zoneAlarmStep, raiseNotice_held, State.modZone_held]

theorem zoneExpiry_held (z) (k : PortsHeld s₀ s) : PortsHeld s₀ (zoneExpiry z s) := by
  grind [zoneExpiry, frostStep_held, zoneAlarmStep_held, State.modZone_held]

theorem exposureExpiry_held (k : PortsHeld s₀ s) : PortsHeld s₀ (exposureExpiry s) :=
  palletExpiry_held (forEach_held (fun z _ h => zoneExpiry_held z h) (k.aside (by constructor <;> rfl)))

/-! ### Gate and classifier -/

theorem refuseCommand_held (f a b) (k : PortsHeld s₀ s) : PortsHeld s₀ (refuseCommand f a b s) :=
  joinRefusal_held _ k

theorem refuseBuiltIn_held (f r) (k : PortsHeld s₀ s) : PortsHeld s₀ (refuseBuiltIn f r s) :=
  refuseCommand_held _ _ _ k

theorem refuseByCondition_held (f i) (k : PortsHeld s₀ s) : PortsHeld s₀ (refuseByCondition f i s) :=
  refuseCommand_held _ _ _ (State.modCondition_held i _ k)

theorem storePayload_held (e f) (k : PortsHeld s₀ s) : PortsHeld s₀ (storePayload e f s) :=
  State.modEntry_held e _ k

theorem placementEffect_held (t a) (k : PortsHeld s₀ s) : PortsHeld s₀ (placementEffect t a s) := by
  unfold placementEffect
  split <;> grind [State.modDock_held, State.modRoom_held]

theorem placeCommand_held (e f b t a) (k : PortsHeld s₀ s) : PortsHeld s₀ (placeCommand e f b t a s) := by
  grind [placeCommand, refuseBuiltIn_held, countEvent_held, placementEffect_held, storePayload_held,
    placeForwarded_held]

theorem gateCommand_held (e f b t a) (k : PortsHeld s₀ s) : PortsHeld s₀ (gateCommand e f b t a s) := by
  grind [gateCommand, refuseBuiltIn_held, refuseByCondition_held, placeCommand_held]

theorem gateUnmatched_held (f) (k : PortsHeld s₀ s) : PortsHeld s₀ (gateUnmatched f s) :=
  refuseBuiltIn_held _ _ (countEvent_held _ _ k)

theorem takeCoilReport_held (c t e) (k : PortsHeld s₀ s) : PortsHeld s₀ (takeCoilReport c t e s) :=
  takeReported_held _ _ (takeEcho_held _ _ k)

theorem deliver_held (d : Delivery) (x) (k : PortsHeld s₀ s) : PortsHeld s₀ (d.deliver x s) := by
  unfold Delivery.deliver
  split <;> grind [probeSample_held, takeReported_held, takeCoilReport_held, dockReport_held, roomReport_held,
    dockPressure_held, tagRead_held, shuttleReport_held]

theorem countHit_held (e) (k : PortsHeld s₀ s) : PortsHeld s₀ (countHit e s) := State.modEntry_held e _ k

theorem forwardUp_held (e f) (k : PortsHeld s₀ s) : PortsHeld s₀ (forwardUp e f s) := by
  grind [forwardUp, joinUplink_held, storePayload_held]

theorem forwardDown_held (e f) (k : PortsHeld s₀ s) : PortsHeld s₀ (forwardDown e f s) := by
  grind [forwardDown, joinForwarded_held, storePayload_held]

theorem matchedUp_held (e f) (k : PortsHeld s₀ s) : PortsHeld s₀ (matchedUp e f s) := by
  grind [matchedUp, countEvent_held, forwardUp_held, deliver_held]

theorem matchedCommand_held (e f) (k : PortsHeld s₀ s) : PortsHeld s₀ (matchedCommand e f s) := by
  grind [matchedCommand, countEvent_held, gateCommand_held]

theorem matchedDown_held (e f) (k : PortsHeld s₀ s) : PortsHeld s₀ (matchedDown e f s) := by
  grind [matchedDown, countEvent_held, matchedCommand_held, forwardDown_held]

theorem unmatchedUp_held (f) (k : PortsHeld s₀ s) : PortsHeld s₀ (unmatchedUp f s) := by
  grind [unmatchedUp, joinUplink_held, countEvent_held]

theorem unmatchedDown_held (f) (k : PortsHeld s₀ s) : PortsHeld s₀ (unmatchedDown f s) := by
  grind [unmatchedDown, gateUnmatched_held, countEvent_held, joinForwarded_held]

theorem classifyUp_held (f) (k : PortsHeld s₀ s) : PortsHeld s₀ (classifyUp f s) := by
  grind [classifyUp, joinUplink_held, matchedUp_held, countHit_held, unmatchedUp_held]

theorem classifyDown_held (f) (k : PortsHeld s₀ s) : PortsHeld s₀ (classifyDown f s) := by
  grind [classifyDown, joinForwarded_held, matchedDown_held, countHit_held, unmatchedDown_held]

/-! ### Power-on, the transmitters, the time base -/

/-- Power-on leaves queues that are empty, counters at 0 and transmitters without work. -/
theorem powerOn_held (strap) (k : PortsHeld s₀ s) : PortsHeld s₀ (powerOn strap s) := by
  refine k.step ⟨fun _ => ?_, Nat.zero_le _, fun _ => List.nodup_nil, fun _ => ?_, fun _ => ?_, fun _ => ?_⟩
    fun _ => Nat.zero_le _
  · constructor <;> simp [powerOn, State.reset, refusalCount, replyCount]
  · simp [powerOn, State.reset, Counters.inRange, Counters.reset]
  · simp [powerOn, State.reset, Counters.inRange, Counters.reset]
  · constructor <;> simp [powerOn, State.reset]

/-- The trunk arbiter's choice at the end of a transmission takes from the queues and leaves the port serving. -/
theorem trunkChoose_again_held (k : PortsHeld s₀ s) : PortsHeld s₀ (trunkChoose { s with trunkTx := none }) := by
  have t := trunkChoose_taken { s with trunkTx := none }
  have taken : TrunkTaken s (trunkChoose { s with trunkTx := none }) :=
    ⟨t.uplink, t.answers, t.notices, t.run, t.trunkCounters, t.fieldCounters, t.fieldTx, t.forwarded, t.originated⟩
  exact k.step (taken.kept fun v => trunkChoose_serve _ v.field) taken.notices.length_le.trans

/-- The same of the field arbiter. -/
theorem fieldChoose_again_held (k : PortsHeld s₀ s) : PortsHeld s₀ (fieldChoose { s with fieldTx := none }) := by
  have t := fieldChoose_taken { s with fieldTx := none }
  have taken : FieldTaken s (fieldChoose { s with fieldTx := none }) :=
    ⟨t.forwarded, t.originated, t.uplink, t.answers, t.notices, t.run, t.trunkTx, t.trunkCounters, t.fieldCounters⟩
  exact k.step (taken.kept fun v => fieldChoose_serve _ v.trunk) fun h => by
    rw [State.NoticesFit, taken.notices]; exact h

theorem endTransmission_held (p) (k : PortsHeld s₀ s) : PortsHeld s₀ (endTransmission p s) := by
  unfold endTransmission
  cases p <;> grind [trunkChoose_again_held, fieldChoose_again_held]

theorem ticked_held (k : PortsHeld s₀ s) : PortsHeld s₀ (ticked s) := k.aside (by constructor <;> rfl)

theorem whenDue_held (t) {act : State → State} (step : PortsHeld s₀ (act s)) (k : PortsHeld s₀ s) :
    PortsHeld s₀ (whenDue t act s) := by
  grind [whenDue]

theorem settleAfter_held (u b) (k : PortsHeld s₀ s) : PortsHeld s₀ (settleAfter u b s) := by
  grind [settleAfter, settleRail_held]

end

/-! ## Requests -/

/-- Where a decision accepts, the rules of the ports are kept up to the reply. -/
def Decision.Held (s : State) : Decision → Prop
  | .refused _ => True
  | .invalid _ _ => True
  | .accepted _ t => PortsHeld s t

section
variable {s : State}

theorem accepted_held {fields t} (h : PortsHeld s t) : (Decision.accepted fields t).Held s := h

/-- A request that leaves the ports alone is accepted. -/
theorem accepted_aside_held {fields t} (same : SamePorts s t) : (Decision.accepted fields t).Held s :=
  (PortsHeld.refl s).aside same

theorem refused_held (r) : (Decision.refused r).Held s := trivial

theorem dropUnboundReadings_held {s₀ : State} (k : PortsHeld s₀ s) : PortsHeld s₀ (dropUnboundReadings s) := by
  have same : SamePorts s (dropUnboundReadings s) := by
    unfold dropUnboundReadings
    constructor <;> rfl
  exact k.aside same

theorem storeZone_held (i z policy) : PortsHeld s (storeZone i z policy s) := by
  unfold storeZone
  refine selectZone_held _ ?_
  split <;> exact (PortsHeld.refl s).aside (by constructor <;> rfl)

theorem loadClassification_held (i fields) : (loadClassification i fields s).Held s := by
  unfold loadClassification
  split
  · trivial
  · exact accepted_aside_held (by constructor <;> rfl)

theorem loadCondition_held (i fields) : (loadCondition i fields s).Held s := by
  unfold loadCondition
  split
  · trivial
  · exact accepted_aside_held (by constructor <;> rfl)

theorem loadProductClass_held (i fields) : (loadProductClass i fields s).Held s := by
  unfold loadProductClass
  split
  · trivial
  · exact accepted_aside_held (by constructor <;> rfl)

theorem loadProbe_held (i fields) : (loadProbe i fields s).Held s := by
  have k := PortsHeld.refl s
  grind [loadProbe, refused_held, accepted_held, dropUnboundReadings_held, State.modProbe_held]

theorem loadZone_held (i fields) : (loadZone i fields s).Held s := by
  grind [loadZone, refused_held, accepted_held, storeZone_held]

theorem loadDock_held (p fields) : (loadDock p fields s).Held s := by
  have k := PortsHeld.refl s
  grind [loadDock, refused_held, accepted_held, State.modDock_held]

theorem loadRoom_held (r fields) : (loadRoom r fields s).Held s := by
  have k := PortsHeld.refl s
  grind [loadRoom, refused_held, accepted_held, State.modRoom_held]

theorem loadCoil_held (c fields) : (loadCoil c fields s).Held s := by
  have k := PortsHeld.refl s
  grind [loadCoil, refused_held, accepted_held, State.modCoil_held, owedChanged_held]

theorem loadLane_held (l fields) : (loadLane l fields s).Held s := by
  have k := PortsHeld.refl s
  grind [loadLane, refused_held, accepted_held, State.modLane_held]

theorem loadShuttle_held (u fields) : (loadShuttle u fields s).Held s := by
  have k := PortsHeld.refl s
  grind [loadShuttle, refused_held, accepted_held, State.modShuttle_held]

theorem loadTable_held (t : Table) (index fields) : (loadTable t index fields s).Held s := by
  cases t <;> grind [loadTable, refused_held, loadClassification_held, loadCondition_held, loadProbe_held,
    loadZone_held, loadDock_held, loadRoom_held, loadCoil_held, loadLane_held, loadProductClass_held,
    loadShuttle_held]

theorem loadDecision_held (table index fields) : (loadDecision table index fields s).Held s := by
  grind [loadDecision, refused_held, loadTable_held]

theorem clearShuttles_held {s₀ : State} (k : PortsHeld s₀ s) : PortsHeld s₀ (clearShuttles s) := by
  have unplaced : PortsHeld s₀ (forEach (indices 4) unplaceDeck s) :=
    forEach_held (fun u _ h => unplaceDeck_held u h) k
  unfold clearShuttles
  extract_lets t
  exact unplaced.aside (by constructor <;> rfl)

theorem clearDecision_held (table) : (clearDecision table s).Held s := by
  have k := PortsHeld.refl s
  unfold clearDecision
  split
  case h_9 => exact clearShuttles_held k
  case h_11 => trivial
  all_goals exact accepted_aside_held (by constructor <;> rfl)

theorem activateDecision_held : (activateDecision s).Held s := by
  unfold activateDecision
  split
  · trivial
  · exact accepted_aside_held (by constructor <;> rfl)

theorem deactivateDecision_held : (deactivateDecision s).Held s := by
  unfold deactivateDecision
  split
  · trivial
  · exact accepted_aside_held (by constructor <;> rfl)

theorem portsRestart_held {s₀ : State} (k : PortsHeld s₀ s) : PortsHeld s₀ (portsRestart s) :=
  k.step
    ⟨fun q => ⟨Nat.zero_le _, Nat.zero_le _, Nat.zero_le _, Nat.zero_le _, q.notices, List.nodup_nil, Nat.zero_le _⟩,
      Nat.zero_le _, id, id, id, fun v => ⟨fun e => ⟨rfl, (v.trunk e).2.1, rfl⟩, fun _ => ⟨rfl, rfl⟩⟩⟩ id

theorem noticesRestart_held {s₀ : State} (k : PortsHeld s₀ s) : PortsHeld s₀ (noticesRestart s) :=
  raiseNotice_held _ _ _ (k.step
    ⟨fun q => ⟨q.uplink, q.forwarded, q.refusals, q.replies, Nat.zero_le _, q.originated, q.run⟩, le_refl _,
      fun _ => List.nodup_nil, id, id, fun v => ⟨fun e => ⟨(v.trunk e).1, rfl, (v.trunk e).2.2⟩, v.field⟩⟩
    fun _ => Nat.zero_le _)

theorem coilRestart_held {s₀ : State} (c) (k : PortsHeld s₀ s) : PortsHeld s₀ (coilRestart c s) := by
  grind [coilRestart, originateCoil_held, State.modCoil_held]

theorem schedulerRestart_held {s₀ : State} (q) (k : PortsHeld s₀ s) : PortsHeld s₀ (schedulerRestart q s) :=
  forEach_held (fun z _ h => raiseZoneOwed_held 1 z h) (forEach_held (fun c _ h => coilRestart_held c h) k)

theorem unitsRestart_aside : SamePorts s (portalRestart (temperatureRestart (classifierRestart s))) := by
  constructor <;> rfl

theorem palletsRestart_aside : SamePorts s { shuttleRestart (palletRestart s) with moves := [] } := by
  constructor <;> rfl

theorem restarted_held {s₀ : State} (k : PortsHeld s₀ s) : PortsHeld s₀ (restarted s) := by
  have told := noticesRestart_held (portsRestart_held k)
  have units := told.aside unitsRestart_aside
  exact (schedulerRestart_held (quietZones s) units).aside palletsRestart_aside

theorem moveOrderDecision_held (reqTag source dest pallet repeats priority) :
    (moveOrderDecision reqTag source dest pallet repeats priority s).Held s := by
  have joined (l : List Move) (m : MoveId) : PortsHeld s { s with moves := l, lastMove := m } :=
    (PortsHeld.refl s).aside (by constructor <;> rfl)
  unfold moveOrderDecision
  split
  · split
    · trivial
    · split
      · trivial
      · extract_lets a
        split
        · trivial
        · exact accepted_held (settleRail_held _ (joined _ _))
  · trivial

theorem cancelDecision_held (move) : (cancelDecision move s).Held s := by
  have k := PortsHeld.refl s
  grind [cancelDecision, refused_held, accepted_held, cancelMove_held]

theorem homeDecision_held (shuttle) : (homeDecision shuttle s).Held s := by
  have k := PortsHeld.refl s
  grind [homeDecision, refused_held, accepted_held, startHoming_held]

theorem clearKnown_held (u state position deck lane) : (clearKnown u state position deck lane s).Held s := by
  have k := PortsHeld.refl s
  unfold clearKnown
  extract_lets v
  split_ifs
  · trivial
  · trivial
  · cases lane <;> grind [refused_held, accepted_held, clearShuttle_held]

theorem clearShuttleDecision_held (shuttle state position deck present lane) :
    (clearShuttleDecision shuttle state position deck present lane s).Held s := by
  grind [clearShuttleDecision, refused_held, clearKnown_held]

theorem defrostCoil_held (index) : (defrostCoil index s).Held s := by
  have k := PortsHeld.refl s
  grind [defrostCoil, refused_held, accepted_held, selectZone_held, State.modCoil_held]

theorem defrostZone_held (index) : (defrostZone index s).Held s := by
  have marked (l : List CoilIx) :
      PortsHeld s (forEach l (fun c t => t.modCoil c fun k => { k with pullIn := true }) s) :=
    forEach_held (fun c _ h => State.modCoil_held c _ h) (PortsHeld.refl s)
  grind [defrostZone, refused_held, accepted_held, selectZone_held]

theorem defrostDecision_held (kind index) : (defrostDecision kind index s).Held s := by
  grind [defrostDecision, refused_held, defrostCoil_held, defrostZone_held]

theorem setCoilMask_held {s₀ : State} (a b) (k : PortsHeld s₀ s) : PortsHeld s₀ (setCoilMask a b s) :=
  forEach_held (fun z _ h => selectZone_held z h) (forEach_held (fun c _ h => State.modCoil_held c _ h) k)

theorem quietEnterDecision_held (zone) : (quietEnterDecision zone s).Held s := by
  have k := PortsHeld.refl s
  grind [quietEnterDecision, refused_held, accepted_held, withdrawCommands_held, State.modZone_held]

theorem quietExitDecision_held (zone) : (quietExitDecision zone s).Held s := by
  have k := PortsHeld.refl s
  grind [quietExitDecision, refused_held, accepted_held, raiseZoneOwed_held, State.modZone_held]

theorem ackZone_held (index) : (ackZone index s).Held s := by
  have k := PortsHeld.refl s
  grind [ackZone, refused_held, accepted_held, State.modZone_held]

theorem ackPortal_held (index) : (ackPortal index s).Held s := by
  have k := PortsHeld.refl s
  grind [ackPortal, refused_held, accepted_held, State.modDock_held, State.modRoom_held]

theorem ackDecision_held (objType key) : (ackDecision objType key s).Held s := by
  grind [ackDecision, refused_held, ackZone_held, ackPortal_held]

theorem placeDecision_held (pallet lane) : (placeDecision pallet lane s).Held s := by
  have k := PortsHeld.refl s
  grind [placeDecision, refused_held, accepted_held, appendToLane_held]

theorem removeDecision_held (pallet) : (removeDecision pallet s).Held s := by
  have k := PortsHeld.refl s
  grind [removeDecision, refused_held, accepted_held, removePallet_held]

theorem releaseDecision_held (pallet) : (releaseDecision pallet s).Held s := by
  have k := PortsHeld.refl s
  grind [releaseDecision, refused_held, accepted_held, State.modPallet_held]

theorem readReply_held (content part) : (readReply content part s).Held s := by
  have k := PortsHeld.refl s
  grind [readReply, refused_held, accepted_held]

theorem readEntryDecision_held (table index part) : (readEntryDecision table index part s).Held s := by
  grind [readEntryDecision, refused_held, readReply_held]

theorem readObjectDecision_held (objType key part) : (readObjectDecision objType key part s).Held s := by
  grind [readObjectDecision, refused_held, readReply_held]

theorem Counters.inRange_reset : Counters.reset.inRange := by simp [Counters.inRange, Counters.reset]

theorem readCountersDecision_held (clear) : (readCountersDecision clear s).Held s := by
  unfold readCountersDecision
  extract_lets fields
  split
  · trivial
  · exact PortsHeld.refl s
  · exact (PortsHeld.refl s).step
      ⟨fun q => ⟨q.uplink, q.forwarded, q.refusals, q.replies, q.notices, q.originated, q.run⟩, le_refl _, id,
        fun _ => Counters.inRange_reset, fun _ => Counters.inRange_reset, fun v => ⟨v.trunk, v.field⟩⟩ id

end

/-! ## Every command -/

/-- The bounds and rules of the ports are kept from one state to the next, a reply perhaps added. -/
structure PortsServed (s t : State) : Prop where
  queues : QueuesBounded s → QueuesBounded t
  notices : NoticesDistinct s → NoticesDistinct t
  fits : s.NoticesFit → t.NoticesFit
  trunk : s.trunkCounters.inRange → t.trunkCounters.inRange
  field : s.fieldCounters.inRange → t.fieldCounters.inRange
  serve : TransmittersServe s → TransmittersServe t

theorem PortsHeld.served {s t : State} (h : PortsHeld s t) : PortsServed s t :=
  ⟨h.queues, h.notices, h.fits, h.trunk, h.field, h.serve⟩

section
variable {s t : State}

/-- The reply to a request joins where there was room before the request acted, for no act adds a reply. -/
theorem joinReply_served (f : Frame) (room : replyCount s < 4) (h : PortsHeld s t) :
    PortsServed s (joinReply f t) where
  queues q := joinReply_queues f t (h.queues q) (h.replies.trans_lt room)
  notices n := joinReply_notices f t (h.notices n)
  fits k := kickTrunk_fits (h.fits k)
  trunk c := by
    rw [joinReply, (kickTrunk_taken _).trunkCounters]
    exact h.trunk c
  field c := by
    rw [joinReply, (kickTrunk_taken _).fieldCounters]
    exact h.field c
  serve v := joinReply_serve f t (h.serve v)

theorem repliesFull_eq_false_iff (s : State) : repliesFull s = false ↔ replyCount s < 4 := by
  rw [repliesFull, decide_eq_false_iff_not, not_le, Config.replyDepth]

theorem decideRequest_held (q form a m) {own : State → Decision} (h : (own s).Held s) :
    (decideRequest q form a m own s).Held s := by
  grind [decideRequest, refused_held]

theorem takeRequest_served (q form a m) {own : State → Decision} (h : (own s).Held s) :
    PortsServed s (takeRequest q form a m own s) := by
  unfold takeRequest
  split
  · exact (countEvent_held _ _ (PortsHeld.refl s)).served
  · rename_i full
    have room := (repliesFull_eq_false_iff s).mp (Bool.eq_false_iff.mpr full)
    have decided := decideRequest_held q form a m h
    cases hd : decideRequest q form a m own s with
    | refused r => exact joinReply_served _ room (PortsHeld.refl s)
    | invalid table index => exact joinReply_served _ room (PortsHeld.refl s)
    | accepted fields t =>
      rw [hd] at decided
      exact joinReply_served _ room decided

theorem Request.take_served (q : Sender) (r : Request) : PortsServed s (r.take q s) := by
  have k := PortsHeld.refl s
  cases r with
  | loadEntry => exact takeRequest_served _ _ _ _ (loadDecision_held _ _ _)
  | readEntry => exact takeRequest_served _ _ _ _ (readEntryDecision_held _ _ _)
  | clearTable => exact takeRequest_served _ _ _ _ (clearDecision_held _)
  | readObject => exact takeRequest_served _ _ _ _ (readObjectDecision_held _ _ _)
  | readCounters => exact takeRequest_served _ _ _ _ (readCountersDecision_held _)
  | activate => exact takeRequest_served _ _ _ _ activateDecision_held
  | deactivate => exact takeRequest_served _ _ _ _ deactivateDecision_held
  | restart => exact takeRequest_served _ _ _ _ (accepted_held (restarted_held k))
  | setTime => exact takeRequest_served _ _ _ _ (accepted_aside_held (by constructor <;> rfl))
  | moveOrder => exact takeRequest_served _ _ _ _ (moveOrderDecision_held _ _ _ _ _ _)
  | cancelMove => exact takeRequest_served _ _ _ _ (cancelDecision_held _)
  | homeShuttle => exact takeRequest_served _ _ _ _ (homeDecision_held _)
  | clearShuttle => exact takeRequest_served _ _ _ _ (clearShuttleDecision_held _ _ _ _ _ _)
  | defrostNow => exact takeRequest_served _ _ _ _ (defrostDecision_held _ _)
  | setCoilMask => exact takeRequest_served _ _ _ _ (accepted_held (setCoilMask_held _ _ k))
  | quietEnter => exact takeRequest_served _ _ _ _ (quietEnterDecision_held _)
  | quietExit => exact takeRequest_served _ _ _ _ (quietExitDecision_held _)
  | ackAlarm => exact takeRequest_served _ _ _ _ (ackDecision_held _ _)
  | palletPlace => exact takeRequest_served _ _ _ _ (placeDecision_held _ _)
  | palletRemove => exact takeRequest_served _ _ _ _ (removeDecision_held _)
  | releaseQuarantine => exact takeRequest_served _ _ _ _ (releaseDecision_held _)

theorem manage_served (f : Frame) : PortsServed s (manage f s) := by
  unfold manage
  extract_lets q
  split
  · exact Request.take_served q _
  · exact takeRequest_served _ _ _ _ trivial

theorem routeFrame_served (p f) : PortsServed s (routeFrame p f s) := by
  have k := PortsHeld.refl s
  unfold routeFrame
  cases p <;> grind [PortsHeld.served, classifyUp_held, classifyDown_held, countEvent_held, manage_served]

theorem acceptFrame_served (p f) : PortsServed s (acceptFrame p f s) := by
  have k := PortsHeld.refl s
  grind [acceptFrame, PortsHeld.served, countEvent_held, routeFrame_served]

theorem completeFrame_served (p bytes damaged) : PortsServed s (completeFrame p bytes damaged s) := by
  have k := PortsHeld.refl s
  grind [completeFrame, PortsHeld.served, countEvent_held, acceptFrame_served]

theorem arriveFrame_served (p f) : PortsServed s (arriveFrame p f s) := by
  have k := PortsHeld.refl s
  grind [arriveFrame, PortsHeld.served, countEvent_held, acceptFrame_served]

theorem exposureDue_held : PortsHeld s (exposureDue s) :=
  whenDue_held _ (exposureExpiry_held (PortsHeld.refl s)) (PortsHeld.refl s)

/-- An expiry that keeps the rules of the ports when it acts keeps them when nothing is due. -/
theorem whenDue_served (timer) {act : State → State} (h : PortsHeld s (act s)) :
    PortsServed s (whenDue timer act s) := (whenDue_held timer h (PortsHeld.refl s)).served

theorem timeBaseTick_held : PortsHeld s (if s.mode = .active then ticked (exposureDue s) else s) := by
  split
  · exact ticked_held exposureDue_held
  · exact PortsHeld.refl s

theorem waitingClaimGrant_held (r) : PortsHeld s (if (s.room r).mayGrantWaiting then grantWaiting r s else s) := by
  split
  · rename_i grant
    exact grantWaiting_held r (fun e => by simp [Room.mayGrantWaiting, e] at grant) (PortsHeld.refl s)
  · exact PortsHeld.refl s

/-- Every command keeps the bounds and rules of the ports. -/
theorem exec_served (i : Instr) (h : exec i s = .next t) : PortsServed s t := by
  have k := PortsHeld.refl s
  cases i with
  | powerOn strap => cases h; exact (powerOn_held strap k).served
  | frameCompletion p bytes damaged =>
    cases h
    split
    · exact completeFrame_served p bytes damaged
    · exact k.served
  | sample => cases h; exact arriveFrame_served _ _
  | doorReport => cases h; exact arriveFrame_served _ _
  | pressure => cases h; exact arriveFrame_served _ _
  | tagRead => cases h; exact arriveFrame_served _ _
  | shuttleReport => cases h; exact arriveFrame_served _ _
  | coilReport => cases h; exact arriveFrame_served _ _
  | actCommand => cases h; exact arriveFrame_served _ _
  | loadEntry q a b c => cases h; exact Request.take_served q (.loadEntry a b c)
  | readEntry q a b c => cases h; exact Request.take_served q (.readEntry a b c)
  | clearTable q a => cases h; exact Request.take_served q (.clearTable a)
  | readObject q a b c => cases h; exact Request.take_served q (.readObject a b c)
  | readCounters q a => cases h; exact Request.take_served q (.readCounters a)
  | activate q => cases h; exact Request.take_served q .activate
  | deactivate q => cases h; exact Request.take_served q .deactivate
  | restart q => cases h; exact Request.take_served q .restart
  | setTime q a => cases h; exact Request.take_served q (.setTime a)
  | moveOrder q a b c d e g => cases h; exact Request.take_served q (.moveOrder a b c d e g)
  | cancelMove q a => cases h; exact Request.take_served q (.cancelMove a)
  | homeShuttle q a => cases h; exact Request.take_served q (.homeShuttle a)
  | clearShuttle q a b c d e g => cases h; exact Request.take_served q (.clearShuttle a b c d e g)
  | defrostNow q a b => cases h; exact Request.take_served q (.defrostNow a b)
  | setCoilMask q a b => cases h; exact Request.take_served q (.setCoilMask a b)
  | quietEnter q a => cases h; exact Request.take_served q (.quietEnter a)
  | quietExit q a => cases h; exact Request.take_served q (.quietExit a)
  | ackAlarm q a b => cases h; exact Request.take_served q (.ackAlarm a b)
  | palletPlace q a b => cases h; exact Request.take_served q (.palletPlace a b)
  | palletRemove q a => cases h; exact Request.take_served q (.palletRemove a)
  | releaseQuarantine q a => cases h; exact Request.take_served q (.releaseQuarantine a)
  | endOfTransmission p => cases h; exact (endTransmission_held p k).served
  | timeBaseTick => cases h; exact timeBaseTick_held.served
  | exposureIntervalExpiry => cases h; exact exposureDue_held.served
  | stalenessTimerExpiry p => cases h; exact whenDue_served _ (expireStaleness_held p k)
  | allowanceTimerExpiry z => cases h; exact whenDue_served _ (expireAllowance_held z k)
  | sealTimerExpiry p => cases h; exact whenDue_served _ (expireSeal_held p k)
  | doorTimerExpiry r => cases h; exact whenDue_served _ (expireDoor_held r k)
  | holdOpenTimerExpiry r => cases h; exact whenDue_served _ (expireHoldOpen_held r k)
  | intervalTimerExpiry c => cases h; exact whenDue_served _ (expireInterval_held c k)
  | spacingTimerExpiry c => cases h; exact whenDue_served _ (expireSpacing_held c k)
  | phaseTimerExpiry c => cases h; exact whenDue_served _ (expirePhase_held c k)
  | followTimerExpiry c => cases h; exact whenDue_served _ (expireFollow_held c k)
  | reportTimerExpiry c => cases h; exact whenDue_served _ (expireReport_held c k)
  | stepTimerExpiry u => cases h; exact whenDue_served _ (expireStep_held u k)
  | parkTimerExpiry u => cases h; exact whenDue_served _ (expirePark_held u k)
  | holdGrant r => cases h; exact (examineRoom_held r k).served
  | waitingClaimGrant r => cases h; exact (waitingClaimGrant_held r).served
  | armedTravelStart u => cases h; exact (testArmed_held u k).served
  | homingOrderSent u => cases h; exact (testHoming_held u k).served
  | pickUpDecision u => cases h; exact (settleAfter_held u s (beginQueued_held u k)).served
  | assignment u => cases h; exact (settleRail_held u k).served
  | stepRetry u => cases h; exact (settleAfter_held u s (retryStep_held u k)).served
  | lineIdle p => cases h; exact (k.aside (by cases p <;> constructor <;> rfl)).served

/-- So does every step. -/
theorem step_served (h : step s = .next t) : PortsServed s t := by
  unfold step at h
  split at h
  · cases h
    exact (PortsHeld.refl s).served
  · rename_i c rest _
    have e := exec_served (s := { s with pending := rest }) c h
    exact
      ⟨fun q => e.queues ⟨q.uplink, q.forwarded, q.refusals, q.replies, q.notices, q.originated, q.run⟩, e.notices,
        e.fits, e.trunk, e.field, fun v => e.serve ⟨v.trunk, v.field⟩⟩

end

/-- Settles O13: every command keeps the rules of the ports, and a step is one command. -/
theorem portsStayWithinBounds : Obligations.PortsStayWithinBounds := by
  refine ⟨fun s t ⟨queues, trunk, field, serve⟩ h => ?_, fun s t ⟨distinct, fit⟩ h => ?_⟩
  · have kept := step_served h
    exact ⟨kept.queues queues, kept.trunk trunk, kept.field field, kept.serve serve⟩
  · have kept := step_served h
    exact ⟨kept.notices distinct, kept.fits fit⟩

end Sys2Proof.Machine
end

section
/-! SUPPORT. Power-on, the receivers and the two transmit arbiters: the facts about `frameOf?` and the receive checks of
R4, the choices of R13 and R14, and the statements O3, O4, O7, O8 and O12. -/

namespace Sys2Proof.Machine

/-! ## The power-on state (R177) -/

/-- Settles O3: power-on writes every field, and the address is read back for each strap value. -/
theorem powerOnResets : Obligations.PowerOnResets := by
  intro k s
  refine ⟨_, rfl, rfl, ?_, rfl, rfl, rfl, rfl, rfl, rfl, rfl, rfl, rfl, rfl, rfl, rfl, rfl, rfl, rfl, rfl, rfl, rfl,
    rfl, ?_⟩
  · show (0xF0#8 + byteOf k.val).toNat = 0xF0 + k.val
    revert k
    decide
  · simp [powerOn, State.reset, State.entry, State.condition, State.probe, State.zone, State.dock, State.room,
      State.coil, State.cls, State.lane, State.pallet, State.shuttle, ClassEntry.reset, Condition.reset, Probe.reset,
      Zone.reset, Dock.reset, Room.reset, Coil.reset, ProductClass.reset, Lane.reset, Shuttle.reset]

/-- Settles O12: every queue is empty and every record is at its power-on value. -/
theorem resetIsSafe : Obligations.ResetIsSafe where
  queues := by constructor <;> simp [State.reset, refusalCount, replyCount]
  notices := List.nodup_nil
  trunk := Counters.inRange_reset
  field := Counters.inRange_reset
  serve := ⟨fun _ => ⟨rfl, rfl, rfl⟩, fun _ => ⟨rfl, rfl⟩⟩
  holds r := by simp [State.reset, State.room, Room.reset]
  pallets i j p q h := by simp [State.reset, State.pallet] at h
  filtered i := by simp [State.reset, State.probe, Probe.reset]
  accounts := ⟨fun z => by simp [State.reset, State.zone, Zone.reset], fun i p h => by
    simp [State.reset, State.pallet] at h⟩
  owed := by constructor <;> simp [State.reset, State.coil, Coil.reset]
  moves := by constructor <;> simp [State.reset]
  shuttles u := by constructor <;> simp [State.reset, State.shuttle, Shuttle.reset]
  lanes := by constructor <;> simp [State.reset, State.lane, Lane.reset]

/-! ## The receive checks (R4) -/

theorem crcFails_iff (bytes : List Byte) (damaged : Bool) :
    crcFails bytes damaged = true ↔
      damaged = true ∨ bytes.length < 7 ∨ 71 < bytes.length ∨ computedCrc bytes ≠ receivedCrc bytes := by
  simp [crcFails, or_assoc]

theorem lengthFails_iff (bytes : List Byte) :
    lengthFails bytes = true ↔ 64 < lenByte bytes ∨ lenByte bytes ≠ bytes.length - 7 := by
  rw [lengthFails, Bool.or_eq_true, decide_eq_true_eq, decide_eq_true_eq, maxPayload]

/-- Seven bytes hold the header, from which DEST and KIND are read at their offsets (Table 1-8). -/
theorem frameOf?_of_length {bytes : List Byte} (h : 7 ≤ bytes.length) :
    ∃ f, frameOf? bytes = some f ∧ f.dest = bytes.getD 0 0#8 ∧ f.kind = bytes.getD 2 0#8 := by
  match bytes, h with
  | dest :: src :: kind :: tag :: len :: rest, _ => exact ⟨_, rfl, rfl, rfl⟩

/-- Checks 1 and 2 passed: the frame read from the bytes goes on (R4). -/
theorem completeFrame_of_passes {p : Port} {bytes : List Byte} {damaged : Bool} {f : Frame} {s : State}
    (crc : crcFails bytes damaged ≠ true) (len : lengthFails bytes ≠ true) (read : frameOf? bytes = some f) :
    completeFrame p bytes damaged s = acceptFrame p f s := by
  simp [completeFrame, crc, len, read]

theorem exec_frameCompletion {p : Port} {s : State} (bytes : List Byte) (damaged : Bool) (ready : s.ready p = true) :
    exec (.frameCompletion p bytes damaged) s = .next (completeFrame p bytes damaged s) := by
  show Host.Outcome.next _ = _
  rw [if_pos ready]

/-- Settles O4: the cases of `completeFrame` and `acceptFrame` in their order. -/
theorem receiveChecksDiscardInOrder : Obligations.ReceiveChecksDiscardInOrder := by
  refine ⟨⟨fun s => rfl, fun s => rfl, fun s p bytes damaged h => ?_⟩, fun s => ⟨rfl, rfl, rfl, rfl, rfl, rfl, rfl, rfl,
    rfl, rfl, rfl, rfl⟩, fun s p bytes damaged ready => ?_⟩
  · show Host.Outcome.next _ = _
    rw [if_neg (by simp [h])]
  · extract_lets n check1 check2
    have crc : crcFails bytes damaged = true ↔ check1 := crcFails_iff bytes damaged
    have len : lengthFails bytes = true ↔ check2 := lengthFails_iff bytes
    have header (h : ¬check1) : ∃ f, frameOf? bytes = some f ∧ f.dest = bytes.getD 0 0#8 ∧ f.kind = bytes.getD 2 0#8 :=
      frameOf?_of_length (not_lt.mp fun short => h (.inr (.inl short)))
    rw [exec_frameCompletion bytes damaged ready]
    refine ⟨fun h1 => ?_, fun h1 h2 => ?_, fun h1 h2 active dest => ?_, fun h1 h2 active dest port kind => ?_⟩
    · simp [completeFrame, crc.mpr h1]
    · simp [completeFrame, crc.not.mpr h1, len.mpr h2]
    · obtain ⟨f, read, hdest, -⟩ := header h1
      rw [completeFrame_of_passes (crc.not.mpr h1) (len.not.mpr h2) read, acceptFrame, active]
      exact congrArg _ (if_pos (hdest.trans dest))
    · obtain ⟨f, read, hdest, hkind⟩ := header h1
      rw [completeFrame_of_passes (crc.not.mpr h1) (len.not.mpr h2) read, acceptFrame, active]
      exact congrArg _ ((if_neg (hdest.trans_ne dest)).trans (if_pos ⟨port, hkind.trans kind⟩))

/-! ## The field arbiter (R13) -/

/-- The positions of the originated share, numbered: 4 shuttles, 16 coils, 7 room doors (R11). -/
def OrigObj.number : OrigObj → Fin 27
  | .shuttle i => ⟨i.val, by omega⟩
  | .coil i => ⟨4 + i.val, by omega⟩
  | .door r => ⟨20 + r.val, by omega⟩

theorem OrigObj.number_injective : Function.Injective OrigObj.number := by
  intro a b h
  cases a <;> cases b <;> grind [OrigObj.number]

theorem endTransmission_field {s : State} (busy : s.fieldTx ≠ none) :
    exec (.endOfTransmission .field) s = .next (fieldChoose { s with fieldTx := none }) := by
  show Host.Outcome.next (if _ then _ else _) = _
  rw [if_pos (Option.isSome_iff_ne_none.mpr busy)]

/-- Settles O7: 27 objects have a position, and the arbiter's choice by the case of each share. -/
theorem fieldArbiterTakesOriginatedFirst : Obligations.FieldArbiterTakesOriginatedFirst := by
  refine ⟨fun s nodup => ?_, fun s busy => ?_⟩
  · have numbers := (nodup.map OrigObj.number_injective).length_le_card
    simpa using numbers
  · rw [endTransmission_field busy]
    refine ⟨fun o rest h => ?_, fun f rest ho hf => ?_, fun ho hf => ?_⟩ <;> simp [fieldChoose, *]

/-! ## The trunk arbiter (R14) -/

theorem endTransmission_trunk {s : State} (busy : s.trunkTx ≠ none) :
    exec (.endOfTransmission .trunk) s = .next (trunkChoose { s with trunkTx := none }) := by
  show Host.Outcome.next (if _ then _ else _) = _
  rw [if_pos (Option.isSome_iff_ne_none.mpr busy)]

theorem Notice.isAlarm_iff (n : Notice) : n.isAlarm = true ↔ n.severity = .alarm := by simp [Notice.isAlarm]

/-- Where the keys are distinct, a notice leaves its queue alone (R162). -/
theorem eraseP_sameKey {before after : List Notice} {n : Notice}
    (distinct : ((before ++ n :: after).map Notice.key).Nodup) :
    (before ++ n :: after).eraseP (fun m => m.sameKey n) = before ++ after := by
  have others : ∀ m ∈ before, ¬m.sameKey n = true := by
    intro m hm same
    rw [List.map_append, List.map_cons, List.nodup_append] at distinct
    exact distinct.2.2 _ (List.mem_map_of_mem hm) _ (List.mem_cons_self ..) ((Notice.sameKey_iff m n).mp same)
  have own : n.sameKey n = true := (Notice.sameKey_iff n n).mpr rfl
  rw [List.eraseP_append_right _ others, List.eraseP_cons, own]
  rfl

/-- The oldest ALARM notice of a queue (R14). -/
theorem find?_isAlarm {before after : List Notice} {n : Notice} (alarm : n.severity = .alarm)
    (none_before : ∀ m ∈ before, m.severity ≠ .alarm) :
    (before ++ n :: after).find? Notice.isAlarm = some n := by
  rw [List.find?_append, List.find?_eq_none.mpr fun m hm => by simpa [Notice.isAlarm] using none_before m hm]
  simp [(Notice.isAlarm_iff n).mpr alarm]

theorem find?_isAlarm_none {q : List Notice} (quiet : ∀ m ∈ q, m.severity ≠ .alarm) :
    q.find? Notice.isAlarm = none :=
  List.find?_eq_none.mpr fun m hm => by simpa [Notice.isAlarm] using quiet m hm

/-- An answer goes first. -/
theorem trunkChoose_of_answer {s : State} {a : Answer} {rest : List Answer} (h : s.answers = a :: rest) :
    trunkChoose s = { s with trunkTx := some a.frame, answers := rest, run := 0 } := by
  rw [trunkChoose, h]

/-- Without an answer, an ALARM. -/
theorem trunkChoose_of_alarm {s : State} {n : Notice} (answers : s.answers = [])
    (alarm : s.notices.find? Notice.isAlarm = some n) : trunkChoose s = sendNotice n s := by
  rw [trunkChoose, answers, alarm]

/-- Without either, another notice when the run is at its cap or no uplink frame waits. -/
theorem trunkChoose_of_notice {s : State} {n : Notice} (answers : s.answers = [])
    (quiet : s.notices.find? Notice.isAlarm = none) (other : s.notices.find? (fun n => !n.isAlarm) = some n)
    (due : s.run = 4 ∨ s.uplink = []) : trunkChoose s = sendNotice n s := by
  rw [trunkChoose, answers, quiet]
  by_cases run : s.run = Config.runTop
  · simp only [if_pos run, other]
  · have empty := due.resolve_left run
    simp only [if_neg run, trunkForwardStep, empty, other]

/-- An uplink frame when no notice is due before it. -/
theorem trunkChoose_of_uplink {s : State} {f : Frame} {rest : List Frame} (answers : s.answers = [])
    (quiet : s.notices.find? Notice.isAlarm = none) (free : s.run ≠ 4 ∨ s.notices = []) (up : s.uplink = f :: rest) :
    trunkChoose s = { s with trunkTx := some f, uplink := rest, run := min 4 (s.run + 1) } := by
  have passed : trunkChoose s = trunkForwardStep s := by
    rcases free with run | empty
    · simp [trunkChoose, answers, quiet, Config.runTop, run]
    · simp [trunkChoose, answers, empty]
  rw [passed, trunkForwardStep, up]
  rfl

/-- The idle arbiter has nothing to send. -/
theorem trunkChoose_of_empty {s : State} (answers : s.answers = []) (notices : s.notices = []) (up : s.uplink = []) :
    trunkChoose s = s := by
  simp [trunkChoose, trunkForwardStep, answers, notices, up]

/-- Settles O8: the five steps of R14, each when none above it applies. -/
theorem trunkArbiterChoosesByClass : Obligations.TrunkArbiterChoosesByClass := by
  intro s busy sent
  have sends {before after : List Notice} {n : Notice} (distinct : NoticesDistinct s)
      (hq : s.notices = before ++ n :: after) : sendNotice n { s with trunkTx := none } = sent n (before ++ after) := by
    rw [NoticesDistinct, hq] at distinct
    simp only [sendNotice, hq, eraseP_sameKey distinct]
    rfl
  rw [endTransmission_trunk busy]
  refine ⟨fun a rest h => ?_, fun before after n ha distinct hq alarm older => ?_,
    fun n after ha distinct hq quiet due => ?_, fun f rest ha quiet free hu => ?_, fun ha hn hu => ?_⟩
  · exact congrArg _ (trunkChoose_of_answer h)
  · have first : s.notices.find? Notice.isAlarm = some n := hq ▸ find?_isAlarm alarm older
    have chosen := trunkChoose_of_alarm (s := { s with trunkTx := none }) ha first
    exact congrArg _ (chosen.trans (sends distinct hq))
  · have other : s.notices.find? (fun n => !n.isAlarm) = some n := by
      have plain : n.isAlarm = false := by simpa [Notice.isAlarm] using quiet n (by simp [hq])
      simp [hq, plain]
    have chosen := trunkChoose_of_notice (s := { s with trunkTx := none }) ha (find?_isAlarm_none quiet) other due
    exact congrArg _ (chosen.trans (sends (before := []) distinct hq))
  · exact congrArg _ (trunkChoose_of_uplink ha (find?_isAlarm_none quiet) free hu)
  · exact congrArg _ (trunkChoose_of_empty ha hn hu)

end Sys2Proof.Machine
end

section
/-! SUPPORT. Frames as bytes (R1 to R5, Table 1-8): a frame completes as what its bytes spell, a frame row or a request
row is the completion of its frame (R167), and the statements O5 and O6. -/

namespace Sys2Proof.Machine

/-! ## Fields of several bytes (R2) -/

theorem byteOf_div (n k : Nat) {w : Nat} (x : BitVec w) (hx : x.toNat = n) :
    byteOf (n / 2 ^ k) = x.extractLsb' k 8 := by
  subst hx
  apply BitVec.eq_of_toNat_eq
  simp [byteOf, Nat.shiftRight_eq_div_pow]

/-- A two-byte field reads back from its bytes. -/
theorem half_halfBytes (h : Half) : half (byteOf (h.toNat / 256)) (byteOf h.toNat) = h := by
  have high := byteOf_div h.toNat 8 h rfl
  have low := byteOf_div h.toNat 0 h rfl
  simp only [Nat.reducePow, Nat.div_one] at high low
  rw [half, high, low, BitVec.extractLsb'_append_extractLsb'_eq_extractLsb' (by rfl)]
  exact BitVec.extractLsb'_eq_self

/-- A four-byte field reads back from its bytes. -/
theorem quad_quadBytes (q : Quad) :
    quad (byteOf (q.toNat / 16777216)) (byteOf (q.toNat / 65536)) (byteOf (q.toNat / 256)) (byteOf q.toNat) = q := by
  have b3 := byteOf_div q.toNat 24 q rfl
  have b2 := byteOf_div q.toNat 16 q rfl
  have b1 := byteOf_div q.toNat 8 q rfl
  have b0 := byteOf_div q.toNat 0 q rfl
  simp only [Nat.reducePow, Nat.div_one] at b3 b2 b1 b0
  rw [quad, b3, b2, b1, b0, BitVec.extractLsb'_append_extractLsb'_eq_extractLsb' (by rfl),
    BitVec.extractLsb'_append_extractLsb'_eq_extractLsb' (by rfl),
    BitVec.extractLsb'_append_extractLsb'_eq_extractLsb' (by rfl)]
  exact BitVec.extractLsb'_eq_self

/-- An index below 256 reads back from its one byte. -/
theorem quad_byteOf {key : Quad} (small : key.toNat < 256) : quad 0#8 0#8 0#8 (byteOf key.toNat) = key := by
  have zero (k : Nat) (hk : 256 ≤ k) : byteOf (key.toNat / k) = 0#8 := by
    rw [Nat.div_eq_of_lt (small.trans_le hk)]
    rfl
  have whole := quad_quadBytes key
  rwa [zero _ (by decide), zero _ (by decide), zero _ (by decide)] at whole

/-! ## A frame's own bytes pass the receive checks (R4) -/

theorem Frame.length_bytes (f : Frame) : f.bytes.length = f.payload.length + 7 := by
  simp [Frame.bytes, Frame.body, halfBytes, be2]

theorem Frame.length_body (f : Frame) : f.body.length = f.bytes.length - 2 := by
  simp [f.length_bytes, Frame.body]

theorem Frame.computedCrc_bytes (f : Frame) : computedCrc f.bytes = crc f.body := by
  rw [computedCrc, ← f.length_body, Frame.bytes, List.take_left]

theorem Frame.receivedCrc_bytes (f : Frame) : receivedCrc f.bytes = crc f.body := by
  have n : f.bytes.length - 2 = f.body.length := f.length_body.symm
  have n' : f.bytes.length - 1 = f.body.length + 1 := by rw [f.length_body, f.length_bytes]; rfl
  have hi : f.bytes.getD f.body.length 0#8 = byteOf ((crc f.body).toNat / 256) := by
    simp [Frame.bytes, halfBytes, be2]
  have lo : f.bytes.getD (f.body.length + 1) 0#8 = byteOf (crc f.body).toNat := by
    simp [Frame.bytes, halfBytes, be2]
  rw [receivedCrc, n, n', hi, lo, half_halfBytes]

theorem Frame.lenByte_bytes (f : Frame) (fits : f.payload.length ≤ 64) : lenByte f.bytes = f.payload.length := by
  show (byteOf f.payload.length).toNat = _
  rw [byteOf, BitVec.toNat_ofNat]
  omega

theorem Frame.frameOf?_bytes (f : Frame) : frameOf? f.bytes = some f := by
  simp [Frame.bytes, Frame.body, frameOf?, halfBytes, be2]

/-- A frame that fits is accepted as the fields it was sent with. -/
theorem completeFrame_bytes {p : Port} {f : Frame} {s : State} (fits : f.payload.length ≤ 64) :
    completeFrame p f.bytes false s = acceptFrame p f s := by
  refine completeFrame_of_passes ?_ ?_ f.frameOf?_bytes
  · rw [ne_eq, crcFails_iff, f.computedCrc_bytes, f.receivedCrc_bytes, f.length_bytes]
    simp
    omega
  · rw [ne_eq, lengthFails_iff, f.lenByte_bytes fits, f.length_bytes]
    omega

theorem exec_completion_bytes {p : Port} {f : Frame} {s : State} (ready : s.ready p = true)
    (fits : f.payload.length ≤ 64) :
    exec (.frameCompletion p f.bytes false) s = .next (acceptFrame p f s) := by
  rw [exec_frameCompletion _ _ ready, completeFrame_bytes fits]

/-! ## Frame rows -/

theorem exec_rowFrame {i : Instr} {p : Port} {f : Frame} (h : rowFrame? i = some (p, f)) (s : State) :
    exec i s = .next (arriveFrame p f s) := by
  cases i <;> cases h <;> rfl

theorem rowFrame?_fits {i : Instr} {p : Port} {f : Frame} (wf : i.wf = true) (h : rowFrame? i = some (p, f)) :
    f.payload.length ≤ 64 := by
  cases i <;> cases h <;> have bound := of_decide_eq_true wf <;>
    simp [headerFrame, halfBytes, quadBytes, be2, be4] <;> exact bound.trans' (by omega)

theorem arriveFrame_of_fits {p : Port} {f : Frame} {s : State} (fits : f.payload.length ≤ 64) :
    arriveFrame p f s = acceptFrame p f s := if_neg (not_lt.mpr fits)

/-! ## Request rows (R167) -/

theorem State.address_ne_zero (s : State) : s.address ≠ 0#8 := by
  show 0xF0#8 + byteOf s.strap.val ≠ 0#8
  generalize s.strap = k
  revert k
  decide

/-- A MGMT_REQUEST to the part's own address is handed to the management block in both modes (R4, R5). -/
theorem acceptFrame_request {f : Frame} {s : State} (dest : f.dest = s.address) (kind : f.kind = kindRequest) :
    acceptFrame .trunk f s = manage f s := by
  have route : routeFrame .trunk f s = manage f s := by simp [routeFrame, dest, kind]
  have some_dest : f.dest ≠ 0#8 := dest ▸ s.address_ne_zero
  cases mode : s.mode <;> simp [acceptFrame, mode, some_dest, route]

/-- The request a request row is. -/
def requestOf? : Instr → Option (Sender × Request)
  | .loadEntry q t i fields => some (q, .loadEntry t i fields)
  | .readEntry q t i part => some (q, .readEntry t i part)
  | .clearTable q t => some (q, .clearTable t)
  | .readObject q t key part => some (q, .readObject t key part)
  | .readCounters q c => some (q, .readCounters c)
  | .activate q => some (q, .activate)
  | .deactivate q => some (q, .deactivate)
  | .restart q => some (q, .restart)
  | .setTime q n => some (q, .setTime n)
  | .moveOrder q tag src dst p r pr => some (q, .moveOrder tag src dst p r pr)
  | .cancelMove q m => some (q, .cancelMove m)
  | .homeShuttle q u => some (q, .homeShuttle u)
  | .clearShuttle q u st pos deck lp l => some (q, .clearShuttle u st pos deck lp l)
  | .defrostNow q k i => some (q, .defrostNow k i)
  | .setCoilMask q a b => some (q, .setCoilMask a b)
  | .quietEnter q z => some (q, .quietEnter z)
  | .quietExit q z => some (q, .quietExit z)
  | .ackAlarm q t key => some (q, .ackAlarm t key)
  | .palletPlace q p l => some (q, .palletPlace p l)
  | .palletRemove q p => some (q, .palletRemove p)
  | .releaseQuarantine q p => some (q, .releaseQuarantine p)
  | _ => none

theorem exec_request {i : Instr} {q : Sender} {r : Request} (h : requestOf? i = some (q, r)) (s : State) :
    exec i s = .next (r.take q s) := by
  cases i <;> cases h <;> rfl

/-- An object's key reads back from its bytes, whatever follows them. -/
theorem objectKey?_keyBytes {t : Byte} {key : Quad} (fits : keyFits t key = true) (rest : List Byte) :
    objectKey? (t :: (requestPayload?.keyBytes t key ++ rest)) = some (t, key, rest) := by
  by_cases pallet : t = palletTypeCode
  · simp [objectKey?, requestPayload?.keyBytes, pallet, quadBytes, be4, quad_quadBytes]
  · have small : key.toNat < 256 := by simpa [keyFits, pallet] using fits
    simp [objectKey?, requestPayload?.keyBytes, pallet, quad_byteOf small]

/-- The payload of a request row spells the request it is. -/
theorem request?_requestPayload {i : Instr} {q : Sender} {payload : List Byte} (wf : i.wf = true)
    (h : requestPayload? i = some (q, payload)) : ∃ r, requestOf? i = some (q, r) ∧ request? payload = some r := by
  cases i <;> cases h <;> refine ⟨_, rfl, ?_⟩
  case readObject t key part =>
    show readObject? (t :: (requestPayload?.keyBytes t key ++ [part])) = _
    rw [readObject?, objectKey?_keyBytes wf]
  case ackAlarm t key =>
    show ackAlarm? (t :: requestPayload?.keyBytes t key) = _
    have read := objectKey?_keyBytes wf []
    rw [List.append_nil] at read
    rw [ackAlarm?, read]
    rfl
  all_goals simp [request?, halfBytes, quadBytes, be2, be4, half_halfBytes, quad_quadBytes]

theorem requestPayload?_fits {i : Instr} {q : Sender} {payload : List Byte} (wf : i.wf = true)
    (h : requestPayload? i = some (q, payload)) : payload.length ≤ 64 := by
  cases i <;> cases h
  case loadEntry fields =>
    have bound := of_decide_eq_true wf
    exact bound.trans' (by simp; omega)
  case readObject t key part => unfold requestPayload?.keyBytes; split <;> simp [quadBytes, be4]
  case ackAlarm t key => unfold requestPayload?.keyBytes; split <;> simp [quadBytes, be4]
  all_goals simp [halfBytes, quadBytes, be2, be4]

/-- Settles O5: a frame row arrives as its frame, a request row is taken as the request its payload spells. -/
theorem everyFrameCommandIsItsBytes : Obligations.EveryFrameCommandIsItsBytes := by
  intro i s p f wf wire ready
  unfold wireForm? at wire
  split at wire
  · rename_i q payload hp
    obtain ⟨rfl, rfl⟩ := Prod.mk.inj (Option.some.inj wire)
    obtain ⟨r, hr, read⟩ := request?_requestPayload wf hp
    rw [exec_completion_bytes ready (requestPayload?_fits wf hp), acceptFrame_request rfl rfl, exec_request hr, manage]
    simp only [read]
  · have fits := rowFrame?_fits wf wire
    rw [exec_completion_bytes ready fits, exec_rowFrame wire, arriveFrame_of_fits fits]

end Sys2Proof.Machine
end

section
/-! SUPPORT. What joins a queue, case by case (R8 to R12, R169), and the steps that every request passes (R168), with
the statements O6, O9 and O34. -/

namespace Sys2Proof.Machine

/-! ## The transmitters (R8) -/

theorem kickTrunk_of_busy {s : State} (busy : s.trunkTx ≠ none) : kickTrunk s = s := by
  obtain ⟨f, hf⟩ := Option.ne_none_iff_exists'.mp busy
  rw [kickTrunk, hf]

theorem kickTrunk_of_idle {s : State} (idle : s.trunkTx = none) : kickTrunk s = trunkChoose s := by
  rw [kickTrunk, idle]

theorem kickField_of_busy {s : State} (busy : s.fieldTx ≠ none) : kickField s = s := by
  obtain ⟨f, hf⟩ := Option.ne_none_iff_exists'.mp busy
  rw [kickField, hf]

/-! ## Joining a queue -/

section
variable {f : Frame} {s : State}

theorem joinUplink_of_full (full : 16 ≤ s.uplink.length) : joinUplink f s = countEvent .field .overflow s := by
  simp [joinUplink, uplinkFull, Config.uplinkDepth, full]

theorem uplinkFull_eq_false (room : s.uplink.length < 16) : uplinkFull s = false :=
  decide_eq_false (not_le.mpr room)

theorem joinUplink_of_busy (room : s.uplink.length < 16) (busy : s.trunkTx ≠ none) :
    joinUplink f s = { s with uplink := s.uplink ++ [f] } := by
  rw [joinUplink, uplinkFull_eq_false room, if_neg Bool.false_ne_true]
  exact kickTrunk_of_busy busy

/-- On an idle port with nothing waiting the frame goes out at once. -/
theorem joinUplink_of_idle (idle : s.trunkTx = none) (answers : s.answers = []) (notices : s.notices = [])
    (uplink : s.uplink = []) : joinUplink f s = { s with trunkTx := some f, run := min 4 (s.run + 1) } := by
  have room : s.uplink.length < 16 := by simp [uplink]
  have chosen := trunkChoose_of_uplink (s := { s with uplink := s.uplink ++ [f] }) (f := f) (rest := []) answers
    (by simp [notices]) (.inr notices) (by simp [uplink])
  rw [joinUplink, uplinkFull_eq_false room, if_neg Bool.false_ne_true]
  exact (kickTrunk_of_idle (s := { s with uplink := s.uplink ++ [f] }) idle).trans (chosen.trans (by simp [uplink]))

theorem forwardedFull_eq_false (room : s.forwarded.length < 16) : forwardedFull s = false :=
  decide_eq_false (not_le.mpr room)

theorem joinForwarded_of_full (full : 16 ≤ s.forwarded.length) :
    joinForwarded f s = countEvent .trunk .overflow s := by
  simp [joinForwarded, forwardedFull, Config.forwardedDepth, full]

theorem joinForwarded_of_busy (room : s.forwarded.length < 16) (busy : s.fieldTx ≠ none) :
    joinForwarded f s = { s with forwarded := s.forwarded ++ [{ frame := f, target := none }] } := by
  rw [joinForwarded, forwardedFull_eq_false room, if_neg Bool.false_ne_true]
  exact kickField_of_busy busy

theorem joinForwarded_of_idle (idle : s.fieldTx = none) (originated : s.originated = [])
    (forwarded : s.forwarded = []) : joinForwarded f s = { s with fieldTx := some f } := by
  have room : s.forwarded.length < 16 := by simp [forwarded]
  rw [joinForwarded, forwardedFull_eq_false room, if_neg Bool.false_ne_true, placeForwarded]
  simp [kickField, idle, fieldChoose, originated, forwarded]

theorem joinRefusal_of_full (full : 8 ≤ refusalCount s) : joinRefusal f s = countEvent .trunk .overflow s :=
  if_pos full

theorem joinRefusal_of_busy (room : refusalCount s < 8) (busy : s.trunkTx ≠ none) :
    joinRefusal f s = { s with answers := s.answers ++ [.refusal f] } :=
  (if_neg (not_le.mpr room)).trans (kickTrunk_of_busy busy)

theorem joinRefusal_of_idle (idle : s.trunkTx = none) (answers : s.answers = []) :
    joinRefusal f s = { s with trunkTx := some f, run := 0 } := by
  have room : ¬Config.refusalDepth ≤ refusalCount s := by simp [refusalCount, answers, Config.refusalDepth]
  have chosen := trunkChoose_of_answer (s := { s with answers := s.answers ++ [.refusal f] }) (a := .refusal f)
    (rest := []) (by simp [answers])
  rw [joinRefusal, if_neg room]
  exact (kickTrunk_of_idle (s := { s with answers := s.answers ++ [.refusal f] }) idle).trans
    (chosen.trans (by simp [answers, Answer.frame]))

theorem joinReply_of_busy (busy : s.trunkTx ≠ none) :
    joinReply f s = { s with answers := s.answers ++ [.reply f] } := kickTrunk_of_busy busy

theorem joinReply_of_idle (idle : s.trunkTx = none) (answers : s.answers = []) :
    joinReply f s = { s with trunkTx := some f, run := 0 } := by
  have chosen := trunkChoose_of_answer (s := { s with answers := s.answers ++ [.reply f] }) (a := .reply f)
    (rest := []) (by simp [answers])
  exact (kickTrunk_of_idle (s := { s with answers := s.answers ++ [.reply f] }) idle).trans
    (chosen.trans (by simp [answers, Answer.frame]))

end

/-! ## CONFIG (R5, R27) -/

theorem acceptFrame_config {p : Port} {f : Frame} {s : State} (config : s.mode = .config) :
    acceptFrame p f s = routeFrame p f s := by
  rw [acceptFrame, config]

theorem routeFrame_field_config {f : Frame} {s : State} (config : s.mode = .config) :
    routeFrame .field f s = joinUplink f s := by
  simp [routeFrame, classifyUp, config]

theorem routeFrame_trunk_config {f : Frame} {s : State} (config : s.mode = .config) (dest : f.dest ≠ s.address)
    (plain : ¬(f.dest = 0xFF#8 ∧ f.kind = 0x30#8)) : routeFrame .trunk f s = joinForwarded f s := by
  have request : ¬(f.kind = kindRequest ∧ f.dest = Config.broadcast) := fun h => plain h.symm
  rw [routeFrame, if_neg dest, if_neg request, classifyDown, config]

theorem State.address_ne_broadcast (s : State) : s.address ≠ 0xFF#8 := by
  show 0xF0#8 + byteOf s.strap.val ≠ 0xFF#8
  generalize s.strap = k
  revert k
  decide

/-- Settles O6: the routing of R5 in CONFIG, then the join of each queue. -/
theorem configFramesPassThrough : Obligations.ConfigFramesPassThrough := by
  refine ⟨fun s f config ready fits => ?_, fun s f config ready fits => ?_⟩
  · rw [exec_completion_bytes (p := .field) ready fits, acceptFrame_config config, routeFrame_field_config config]
    exact ⟨fun full => congrArg _ (joinUplink_of_full full), fun room busy => congrArg _ (joinUplink_of_busy room busy),
      fun idle ha hn hu => congrArg _ (joinUplink_of_idle idle ha hn hu)⟩
  · rw [exec_completion_bytes (p := .trunk) ready fits, acceptFrame_config config]
    refine ⟨fun dest kind => ?_, fun dest kind => ?_, fun dest plain full => ?_, fun dest plain room busy => ?_⟩
    · exact congrArg _ ((if_pos dest).trans (if_neg kind))
    · have other : f.dest ≠ s.address := dest ▸ s.address_ne_broadcast.symm
      rw [routeFrame, if_neg other, if_pos ⟨kind, dest⟩]
    · rw [routeFrame_trunk_config config dest plain, joinForwarded_of_full full]
    · rw [routeFrame_trunk_config config dest plain, joinForwarded_of_busy room busy]

/-! ## The steps of a request (R168) -/

section
variable {q : Sender} {form : Bool} {a : Access} {m : Modes} {own : State → Decision} {s : State}

/-- Every request is taken by the same steps. -/
theorem Request.take_eq (q : Sender) (r : Request) :
    ∃ form a m own, ∀ s, r.take q s = takeRequest q form a m own s := by
  cases r <;> exact ⟨_, _, _, _, fun _ => rfl⟩

theorem takeRequest_of_full (full : 4 ≤ replyCount s) :
    takeRequest q form a m own s = countEvent .trunk .overflow s := by
  have full' : repliesFull s = true := decide_eq_true full
  rw [takeRequest, if_pos full']

theorem takeRequest_of_room (room : replyCount s < 4) :
    takeRequest q form a m own s = (decideRequest q form a m own s).answer q s := by
  rw [takeRequest, (repliesFull_eq_false_iff s).mpr room, if_neg Bool.false_ne_true]

theorem takeRequest_of_bad_form (room : replyCount s < 4) :
    takeRequest q false a m own s = joinReply (replyFrame s q 1 1 []) s :=
  takeRequest_of_room room

theorem takeRequest_of_stranger (room : replyCount s < 4) (src : q.src ≠ 0xFE#8) :
    takeRequest q true .manager m own s = joinReply (replyFrame s q 1 5 []) s := by
  have access : Access.admits q.src .manager = false := beq_false_of_ne src
  rw [takeRequest_of_room room, decideRequest, access]
  rfl

theorem takeRequest_of_wrong_mode (from_ : FromManager q s) (mode : m.admits s.mode = false) :
    takeRequest q true .manager m own s = joinReply (replyFrame s q 1 6 []) s := by
  have access : Access.admits q.src .manager = true := beq_iff_eq.mpr from_.1
  rw [takeRequest_of_room from_.2, decideRequest, access, mode]
  rfl

/-- A request that passes steps 1 to 4 is decided by its own checks. -/
theorem takeRequest_of_admitted (room : replyCount s < 4) (access : a.admits q.src = true)
    (mode : m.admits s.mode = true) : takeRequest q true a m own s = (own s).answer q s := by
  rw [takeRequest_of_room room, decideRequest, access, mode]
  rfl

end

/-! ## Request payloads that spell no request (R167, R168) -/

/-- The bytes that follow each name, at least. -/
def requestLengths : List (Byte × Nat) :=
  [(0x01#8, 2), (0x02#8, 3), (0x03#8, 1), (0x04#8, 3), (0x05#8, 1), (0x09#8, 4), (0x0A#8, 10), (0x0B#8, 1),
    (0x0C#8, 1), (0x0D#8, 9), (0x0E#8, 2), (0x0F#8, 4), (0x10#8, 1), (0x11#8, 1), (0x12#8, 2), (0x13#8, 5),
    (0x14#8, 4), (0x15#8, 4)]

/-- An object's key takes two bytes, a pallet's five. -/
theorem objectKey?_some {l : List Byte} {t : Byte} {k : Quad} {rest : List Byte}
    (h : objectKey? l = some (t, k, rest)) :
    rest.length + 2 ≤ l.length ∧ (l.head? = some 6#8 → rest.length + 5 ≤ l.length) := by
  unfold objectKey? at h
  split at h
  · split at h
    · split at h
      · obtain ⟨-, -, rfl⟩ := h
        simp
      · cases h
    · rename_i other
      split at h
      · obtain ⟨-, -, rfl⟩ := h
        simp [palletTypeCode] at other ⊢
        exact fun e => absurd e other
      · cases h
  · cases h

theorem readObject?_some {l : List Byte} {r : Request} (h : readObject? l = some r) :
    3 ≤ l.length ∧ (l.head? = some 6#8 → 6 ≤ l.length) := by
  unfold readObject? at h
  split at h
  · rename_i e
    have bound := objectKey?_some e
    rw [List.length_cons] at bound
    exact ⟨by omega, fun head => by have := bound.2 head; omega⟩
  · cases h

theorem ackAlarm?_some {l : List Byte} {r : Request} (h : ackAlarm? l = some r) :
    2 ≤ l.length ∧ (l.head? = some 6#8 → 5 ≤ l.length) := by
  obtain ⟨⟨t, k, rest⟩, e, -⟩ := Option.map_eq_some_iff.mp h
  have bound := objectKey?_some e
  exact ⟨by omega, fun head => by have := bound.2 head; omega⟩

/-- What a payload that spells a request holds: a name of Table 11-1, its fields, and four bytes of a pallet's key. -/
theorem request?_some {name : Byte} {fields : List Byte} {r : Request} (h : request? (name :: fields) = some r) :
    name ≠ 0#8 ∧ name.toNat ≤ 0x15 ∧ (∀ n, (name, n) ∈ requestLengths → n ≤ fields.length)
      ∧ (name = 0x04#8 → fields.head? = some 6#8 → 6 ≤ fields.length)
      ∧ (name = 0x12#8 → fields.head? = some 6#8 → 5 ≤ fields.length) := by
  have named {k : Nat} (e : name.toNat = k) : name = BitVec.ofNat 8 k := by
    rw [← e, BitVec.ofNat_toNat, BitVec.setWidth_eq]
  unfold request? at h
  simp only at h
  split at h
  case h_4 e =>
    obtain rfl := named e
    simpa [requestLengths] using readObject?_some h
  case h_18 e =>
    obtain rfl := named e
    simpa [requestLengths] using ackAlarm?_some h
  case h_22 => cases h
  all_goals
    rename_i e
    obtain rfl := named e
    simp [requestLengths]

/-- The bytes a LOAD_ENTRY of a table must carry are those of `Table.fieldBytes`. -/
theorem loadForm_of_short {t : Table} {index : Nat} {fields : List Byte} (entry : index < t.entries)
    (short : fields.length < t.fieldBytes index) : loadForm t.code index fields = false := by
  have found : table? t.code = some t := by cases t <;> rfl
  simp [loadForm, found, entry, short]

/-! ## Counters (R7) -/

/-- Settles O34: any source may read; with the clear flag the manager alone passes step 3 of R168. -/
theorem countersAreReadAndCleared : Obligations.CountersAreReadAndCleared := by
  intro s q room counters all
  have access (manager : q.src = 0xFE#8) : (countersAccess 1#8).admits q.src = true := beq_iff_eq.mpr manager
  refine ⟨?_, fun manager => ?_, fun stranger => ?_⟩
  · exact congrArg _ (takeRequest_of_admitted room rfl rfl)
  · exact congrArg _ (takeRequest_of_admitted room (access manager) rfl)
  · exact congrArg _ (takeRequest_of_stranger room stranger)

/-! ## Answers (R12, R49, R169) -/

theorem manage_of_none {f : Frame} {s : State} (h : request? f.payload = none) (room : replyCount s < 4) :
    manage f s = joinReply (replyFrame s { src := f.src, tag := f.tag } 1 1 []) s := by
  rw [manage, h]
  exact takeRequest_of_bad_form room

/-- Whatever a request asks, it is dropped at a full reply queue. -/
theorem manage_of_full {f : Frame} {s : State} (full : 4 ≤ replyCount s) :
    manage f s = countEvent .trunk .overflow s := by
  rw [manage]
  split
  · rename_i r _
    obtain ⟨form, a, m, own, e⟩ := Request.take_eq { src := f.src, tag := f.tag } r
    exact (e s).trans (takeRequest_of_full full)
  · exact takeRequest_of_full full

theorem requestOf?_of_payload {i : Instr} {q : Sender} {payload : List Byte}
    (h : requestPayload? i = some (q, payload)) : ∃ r, requestOf? i = some (q, r) := by
  cases i <;> cases h <;> exact ⟨_, rfl⟩

/-- Settles O9: the joins of an answer, then steps 1, 2 and 4 of R168. -/
theorem answersJoinTheirQueue : Obligations.AnswersJoinTheirQueue := by
  refine ⟨?_, ?_, fun s i q payload h => ⟨fun full => ?_, fun room manager modes => ?_⟩, ?_⟩
  · intro s cmd reason index f
    exact ⟨joinRefusal_of_full, joinRefusal_of_busy, fun answers idle => joinRefusal_of_idle idle answers⟩
  · intro s q fields f
    exact ⟨joinReply_of_busy, joinReply_of_idle⟩
  · obtain ⟨r, hr⟩ := requestOf?_of_payload h
    obtain ⟨form, a, m, own, e⟩ := Request.take_eq q r
    rw [exec_request hr, e, takeRequest_of_full full]
  · have wrong {m : Modes} (own : State → Decision) (mode : m.admits s.mode = false) :=
      takeRequest_of_wrong_mode (m := m) (own := own) ⟨manager, room⟩ mode
    rcases modes with ⟨active, modes⟩ | ⟨config, modes⟩
    · have mode : Modes.admits .configOnly s.mode = false := by rw [active]; rfl
      rcases modes with ⟨_, rfl⟩ | rfl <;> exact congrArg _ (wrong _ mode)
    · have mode : Modes.admits .activeOnly s.mode = false := by rw [config]; rfl
      rcases modes with rfl | ⟨_, _, _, _, _, _, rfl⟩ | ⟨_, rfl⟩ | ⟨_, rfl⟩ | ⟨_, _, _, _, _, _, rfl⟩ | ⟨_, _, rfl⟩
        | ⟨_, rfl⟩ | ⟨_, rfl⟩ <;> exact congrArg _ (wrong _ mode)
  · intro s f ready dest kind fits lengths loads ill
    rw [exec_completion_bytes (p := .trunk) ready fits, acceptFrame_request dest kind]
    refine ⟨fun full => congrArg _ (manage_of_full full), fun room bad => congrArg _ ?_⟩
    rcases bad with empty | ⟨name, fields, payload, bad⟩
    · exact manage_of_none (by rw [empty]; rfl) room
    · have none_of (contra : ∀ r, request? (name :: fields) ≠ some r) :
          manage f s = joinReply (replyFrame s { src := f.src, tag := f.tag } 1 1 []) s :=
        manage_of_none (payload ▸ Option.eq_none_iff_forall_ne_some.mpr contra) room
      rcases bad with zero | above | ⟨n, known, short⟩ | ⟨named, pallet, short⟩ | ⟨named, pallet, short⟩
        | ⟨t, i, rest, rfl, rfl, entry, short⟩
      · exact none_of fun r e => (request?_some e).1 zero
      · exact none_of fun r e => not_lt.mpr (request?_some e).2.1 above
      · exact none_of fun r e => not_lt.mpr ((request?_some e).2.2.1 n known) short
      · exact none_of fun r e => not_lt.mpr ((request?_some e).2.2.2.1 named pallet) short
      · exact none_of fun r e => not_lt.mpr ((request?_some e).2.2.2.2 named pallet) short
      · have code : (byteOf t.code).toNat = t.code := by cases t <;> rfl
        have form : loadForm (byteOf t.code).toNat i.toNat rest = false := by
          rw [code]
          exact loadForm_of_short entry (by cases t <;> exact short)
        rw [manage, payload]
        show takeRequest _ (loadForm (byteOf t.code).toNat i.toNat rest) _ _ _ _ = _
        rw [form, takeRequest_of_bad_form room]

end Sys2Proof.Machine
end

section
/-! SUPPORT. The classifier (section 2): the entry that matches or addresses a frame, its forward mode, the frames that
reach no unit, with the statements O11, O18 and O19. -/

namespace Sys2Proof.Machine

/-! ## The lowest-numbered entry -/

section
variable {α : Type} {n : Nat}

theorem tset_tset (v : Vector α n) (i : Fin n) (x y : α) : tset (tset v i x) i y = tset v i y := by
  simp [tset]

theorem tfind_eq_none_iff {p : α → Bool} {v : Vector α n} : tfind p v = none ↔ ∀ i, p (tget v i) = false :=
  ⟨tfind_none, fun h => List.find?_eq_none.mpr fun i _ => by simp [h i]⟩

theorem tfind_eq_some_iff {p : α → Bool} {v : Vector α n} {i : Fin n} :
    tfind p v = some i ↔ p (tget v i) = true ∧ ∀ j < i, p (tget v j) = false := by
  refine ⟨fun h => ⟨tfind_some h, tfind_first h⟩, fun ⟨hit, first⟩ => ?_⟩
  cases found : tfind p v with
  | none => simp [tfind_none found i] at hit
  | some k =>
    rcases lt_trichotomy k i with lt | rfl | gt
    · exact absurd (tfind_some found) (by simp [first k lt])
    · rfl
    · exact absurd hit (by simp [tfind_first found i gt])

/-- A search through the records of a table is a search through its indices. -/
theorem toList_find? (p : α → Bool) (v : Vector α n) : v.toList.find? p = (tfind p v).map (tget v) := by
  have records : v.toList = (List.finRange n).map (tget v) := by
    apply List.ext_getElem <;> simp [tget]
  rw [records, List.find?_map]
  rfl

end

/-! ## Originated frames (R11, R28) -/

/-- The entry addresses frames of a kind to an object (R28). -/
theorem ClassEntry.addresses_iff {kind : Byte} {b : Bound} {e : ClassEntry} :
    e.addresses kind b = true ↔
      e.valid = true ∧ e.direction = .down ∧ (e.kind = none ∨ e.kind = some kind) ∧ e.object = b := by
  simp [ClassEntry.addresses, and_assoc]

theorem addressOf?_eq (s : State) (kind : Byte) (b : Bound) :
    addressOf? s kind b = (tfind (ClassEntry.addresses kind b) s.classTable).map fun e => (s.entry e).node := by
  rw [addressOf?, toList_find?, Option.map_map]
  rfl

theorem fillPosition_of_untaken {o : OrigObj} {f : Frame} {s : State} (free : ∀ p ∈ s.originated, p.obj ≠ o) :
    fillPosition o f s = kickField { s with originated := s.originated ++ [{ obj := o, frame := f }] } :=
  if_neg (by simpa using free)

theorem fillPosition_of_free {o : OrigObj} {f : Frame} {s : State} (busy : s.fieldTx ≠ none)
    (free : ∀ p ∈ s.originated, p.obj ≠ o) :
    fillPosition o f s = { s with originated := s.originated ++ [{ obj := o, frame := f }] } :=
  (fillPosition_of_untaken free).trans (kickField_of_busy busy)

theorem fillPosition_of_taken {o : OrigObj} {f : Frame} {s : State} (taken : ∃ p ∈ s.originated, p.obj = o) :
    fillPosition o f s
      = { s with originated := s.originated.map fun p => if p.obj = o then { obj := p.obj, frame := f } else p } := by
  have waits : s.originated.any (fun p => p.obj == o) = true := by simpa using taken
  simp [fillPosition, waits]

/-- Settles O11: the address is that of the first entry found, and the position is filled or replaced. -/
theorem originatedFramesAreAddressed : Obligations.OriginatedFramesAreAddressed := by
  refine ⟨fun _ => rfl, fun _ => rfl, fun _ => rfl, ?_,
    fun s o f busy => ⟨fillPosition_of_free busy, fillPosition_of_taken⟩⟩
  intro s o kind payload names
  have addresses (e : Fin 128) : ClassEntry.addresses kind o.bound (tget s.classTable e) = true ↔ names e :=
    ClassEntry.addresses_iff
  refine ⟨fun unnamed => ?_, fun e named first => ?_⟩
  · have nobody : tfind (ClassEntry.addresses kind o.bound) s.classTable = none :=
      tfind_eq_none_iff.mpr fun e => Bool.eq_false_iff.mpr ((addresses e).not.mpr (unnamed e))
    rw [originate, addressOf?_eq, nobody]
    rfl
  · have found : tfind (ClassEntry.addresses kind o.bound) s.classTable = some e :=
      tfind_eq_some_iff.mpr
        ⟨(addresses e).mpr named, fun j lt => Bool.eq_false_iff.mpr ((addresses j).not.mpr (first j lt))⟩
    rw [originate, addressOf?_eq, found]
    rfl

/-! ## Matching (R18) -/

theorem anyOr_iff {α : Type} [DecidableEq α] {field : Option α} {x : α} :
    anyOr field x = true ↔ field = none ∨ field = some x := by
  cases field <;> simp [anyOr]

theorem ClassEntry.covers_iff {e : ClassEntry} {d : Direction} {node kind : Byte} :
    e.covers d node kind = true ↔
      e.valid = true ∧ e.direction = d ∧ e.node = node ∧ (e.kind = none ∨ e.kind = some kind) := by
  simp [ClassEntry.covers, anyOr_iff, and_assoc]

/-- ON_CHANGE places a payload that is new or due, FORWARD every one, SUPPRESS none (R22). -/
theorem ClassEntry.places_iff {e : ClassEntry} {f : Frame} :
    e.places f = true ↔
      e.forward = .forward ∨ (e.forward = .onChange
        ∧ ∀ p, e.stored = some p → p.payload ≠ f.payload ∨ (e.refresh ≠ 0 ∧ e.refresh ≤ p.age)) := by
  unfold ClassEntry.places ClassEntry.changed
  cases e.forward <;> cases e.stored <;> simp

theorem ClassEntry.tooLong_iff {e : ClassEntry} {f : Frame} :
    e.tooLong f = true ↔ e.maxPayload ≠ 0 ∧ e.maxPayload < f.payload.length := by
  simp [ClassEntry.tooLong]

theorem ClassEntry.tooLong_eq_false {e : ClassEntry} {f : Frame}
    (admitted : e.maxPayload = 0 ∨ f.payload.length ≤ e.maxPayload) : e.tooLong f = false :=
  Bool.eq_false_iff.mpr fun long => by
    obtain ⟨limit, above⟩ := ClassEntry.tooLong_iff.mp long
    exact admitted.elim limit (not_le.mpr above)

theorem countHit_eq (e : Fin 128) (s : State) :
    countHit e s = { s with
      classTable := tset s.classTable e { s.entry e with hits := min 65535 ((s.entry e).hits + 1) } } := rfl

/-- A hit changes an entry in its count alone. -/
theorem countHit_entry (e : Fin 128) (s : State) :
    (countHit e s).entry e = { s.entry e with hits := min 65535 ((s.entry e).hits + 1) } :=
  tget_tset_self ..

/-- The counted entry with the frame's payload stored in it (R18, R23). -/
theorem storePayload_countHit (e : Fin 128) (f : Frame) (s : State) :
    storePayload e f (countHit e s) = { s with
      classTable := tset s.classTable e
        { s.entry e with
          hits := min 65535 ((s.entry e).hits + 1)
          stored := some { payload := f.payload, time := s.count, age := 0 } } } := by
  simp only [countHit_eq, storePayload, State.modEntry, tmod, tget_tset_self, tset_tset]

theorem countHit_places (e : Fin 128) (f : Frame) (s : State) :
    ((countHit e s).entry e).places f = (s.entry e).places f := by
  rw [countHit_entry]
  rfl

theorem countHit_tooLong (e : Fin 128) (f : Frame) (s : State) :
    ((countHit e s).entry e).tooLong f = (s.entry e).tooLong f := by
  rw [countHit_entry]
  rfl

theorem countHit_object (e : Fin 128) (s : State) : ((countHit e s).entry e).object = (s.entry e).object := by
  rw [countHit_entry]

/-! ## Forwarding (R22 to R24) -/

section
variable {e : Fin 128} {f : Frame} {s : State}

theorem forwardUp_of_held_back (held : (s.entry e).places f = false) : forwardUp e f s = s := by
  simp [forwardUp, held]

theorem forwardUp_of_full (placed : (s.entry e).places f = true) (full : 16 ≤ s.uplink.length) :
    forwardUp e f s = countEvent .field .overflow s := by
  have full' : uplinkFull s = true := decide_eq_true full
  rw [forwardUp, if_pos placed, if_pos full', joinUplink_of_full full]

theorem forwardUp_of_room (placed : (s.entry e).places f = true) (room : s.uplink.length < 16) :
    forwardUp e f s = storePayload e f (joinUplink f s) := by
  rw [forwardUp, if_pos placed, uplinkFull_eq_false room, if_neg Bool.false_ne_true]

theorem forwardDown_of_held_back (held : (s.entry e).places f = false) : forwardDown e f s = s := by
  simp [forwardDown, held]

theorem forwardDown_of_full (placed : (s.entry e).places f = true) (full : 16 ≤ s.forwarded.length) :
    forwardDown e f s = countEvent .trunk .overflow s := by
  have full' : forwardedFull s = true := decide_eq_true full
  rw [forwardDown, if_pos placed, if_pos full', joinForwarded_of_full full]

theorem forwardDown_of_room (placed : (s.entry e).places f = true) (room : s.forwarded.length < 16) :
    forwardDown e f s = storePayload e f (joinForwarded f s) := by
  rw [forwardDown, if_pos placed, forwardedFull_eq_false room, if_neg Bool.false_ne_true]

end

/-! ## Frames that arrive in ACTIVE (R4, R5) -/

/-- An upward frame of a row, or one of another kind than a request that completes on the field port. -/
def ArrivesUp (s : State) (i : Instr) (f : Frame) : Prop :=
  rowFrame? i = some (.field, f)
    ∨ (s.fieldReady = true ∧ f.kind ≠ 0x30#8 ∧ i = .frameCompletion .field f.bytes false)

theorem rowFrame?_field_kind {i : Instr} {f : Frame} (h : rowFrame? i = some (.field, f)) : f.kind ≠ 0x30#8 := by
  cases i <;> cases h <;>
    simp [headerFrame, kindSample, kindDoorReport, kindPressure, kindTagRead, kindShuttleReport, kindCoilReport]

theorem acceptFrame_field {f : Frame} {s : State} (active : s.mode = .active) (dest : f.dest ≠ 0#8)
    (kind : f.kind ≠ 0x30#8) : acceptFrame .field f s = classifyUp f s := by
  have plain : ¬((Port.field = .field) ∧ f.kind = kindRequest) := fun h => kind h.2
  rw [acceptFrame, active]
  exact (if_neg dest).trans (if_neg plain)

theorem exec_arrivesUp {s : State} {i : Instr} {f : Frame} (h : ArrivesUp s i f) (active : s.mode = .active)
    (dest : f.dest ≠ 0#8) (fits : f.payload.length ≤ 64) : exec i s = .next (classifyUp f s) := by
  rcases h with row | ⟨ready, kind, rfl⟩
  · rw [exec_rowFrame row, arriveFrame_of_fits fits, acceptFrame_field active dest (rowFrame?_field_kind row)]
  · rw [exec_completion_bytes (p := .field) ready fits, acceptFrame_field active dest kind]

theorem classifyUp_of_matched {f : Frame} {s : State} {e : Fin 128} (active : s.mode = .active)
    (found : matching? s .up f.src f.kind = some e) : classifyUp f s = matchedUp e f (countHit e s) := by
  simp [classifyUp, active, found]

theorem classifyUp_of_unmatched {f : Frame} {s : State} (active : s.mode = .active)
    (found : matching? s .up f.src f.kind = none) : classifyUp f s = unmatchedUp f s := by
  simp [classifyUp, active, found]

/-- A frame that its entry binds to NONE goes by the forward mode alone (R20, R22). -/
theorem matchedUp_of_none {f : Frame} {s : State} {e : Fin 128} (long : (s.entry e).tooLong f = false)
    (object : (s.entry e).object = .none) : matchedUp e f s = forwardUp e f s := by
  simp [matchedUp, long, object, bindUp]

/-- Settles O18: matching is the first entry found; a carried frame goes by its forward mode. -/
theorem matchedFramesGoByForwardMode : Obligations.MatchedFramesGoByForwardMode := by
  refine ⟨?_, ?_⟩
  · intro s d node kind covers
    have covered (e : Fin 128) : (tget s.classTable e).covers d node kind = true ↔ covers e := ClassEntry.covers_iff
    have uncovered (e : Fin 128) : (tget s.classTable e).covers d node kind = false ↔ ¬covers e := by
      rw [← covered, Bool.not_eq_true]
    refine ⟨fun e => ?_, ?_⟩
    · rw [matching?, tfind_eq_some_iff, covered]
      simp only [uncovered]
    · rw [matching?, tfind_eq_none_iff]
      simp only [uncovered]
  · intro s i f e arrives bound n placed counted kept
    have places : n.places f = true ↔ placed := ClassEntry.places_iff
    have long : ((countHit e s).entry e).tooLong f = false := by
      rw [countHit_tooLong]
      exact ClassEntry.tooLong_eq_false bound.admitted
    have object : ((countHit e s).entry e).object = .none := (countHit_object e s).trans bound.object
    rw [exec_arrivesUp arrives bound.active bound.dest bound.fits, classifyUp_of_matched bound.active bound.matched,
      matchedUp_of_none long object]
    have mode := countHit_places e f s
    refine ⟨fun held => ?_, fun place full => ?_, fun place room busy => ?_, fun place idle ha hn hu => ?_⟩
    · rw [forwardUp_of_held_back (mode.trans (Bool.eq_false_iff.mpr (places.not.mpr held)))]
      rfl
    · rw [forwardUp_of_full (mode.trans (places.mpr place)) full]
      rfl
    · have joined : joinUplink f (countHit e s) = { countHit e s with uplink := s.uplink ++ [f] } :=
        joinUplink_of_busy room busy
      rw [forwardUp_of_room (mode.trans (places.mpr place)) room, joined]
      exact congrArg (fun t : State => Host.Outcome.next { t with uplink := s.uplink ++ [f] })
        (storePayload_countHit e f s)
    · have joined : joinUplink f (countHit e s) = { countHit e s with trunkTx := some f, run := min 4 (s.run + 1) } :=
        joinUplink_of_idle idle ha hn hu
      have room : (countHit e s).uplink.length < 16 := by
        show s.uplink.length < 16
        simp [hu]
      rw [forwardUp_of_room (mode.trans (places.mpr place)) room, joined]
      exact congrArg (fun t : State => Host.Outcome.next { t with trunkTx := some f, run := min 4 (s.run + 1) })
        (storePayload_countHit e f s)

/-! ## Frames that no unit takes (R19 to R26, R33) -/

/-- The object a frame of the kind suits by the UP rows of Table 2-3, NONE suiting every kind. -/
def Bound.suits (kind : Byte) : Bound → Prop
  | .none => True
  | .probe _ => kind = 0x10#8
  | .coil _ => kind = 0x10#8 ∨ kind = 0x15#8
  | .door _ => kind = 0x11#8
  | .seal _ => kind = 0x12#8
  | .reader _ => kind = 0x13#8
  | .shuttle _ => kind = 0x14#8
  | .actuator _ => False

/-- An object that a frame suits is no mismatch: it is NONE, or its unit takes the content while it is in service. -/
theorem bindUp_cases (kind : Byte) (b : Bound) (s : State) :
    (¬b.suits kind ∧ bindUp kind b = .mismatch) ∨ (b = .none ∧ bindUp kind b = .carried)
      ∨ ∃ d, b.suits kind ∧ bindUp kind b = .delivered d ∧ d.inService s = b.inService s := by
  cases b <;> grind [Bound.suits, bindUp, Delivery.inService, Bound.inService, kindSample, kindDoorReport, kindPressure,
    kindTagRead, kindShuttleReport, kindCoilReport]

theorem Bound.inService_countHit (e : Fin 128) (s : State) (b : Bound) :
    b.inService (countHit e s) = b.inService s := by
  cases b <;> rfl

/-- A frame whose kind does not suit the object, or whose object is not in service, is counted (R20, R21). -/
theorem matchedUp_of_unfit {f : Frame} {s : State} {e : Fin 128} (long : (s.entry e).tooLong f = false)
    (unfit : ¬(s.entry e).object.suits f.kind ∨ (s.entry e).object.inService s = false) :
    matchedUp e f s = countEvent .field .format s := by
  rw [matchedUp]
  rcases bindUp_cases f.kind (s.entry e).object s with ⟨-, bind⟩ | ⟨object, -⟩ | ⟨d, suits, bind, service⟩
  · simp [long, bind]
  · rw [object] at unfit
    exact absurd unfit (by simp [Bound.suits, Bound.inService])
  · have idle : d.inService s = false := service.trans (unfit.resolve_left (not_not.mpr suits))
    simp only [long, bind, idle]
    cases d.read? f.payload <;> rfl

theorem matchedUp_of_long {f : Frame} {s : State} {e : Fin 128} (long : (s.entry e).tooLong f = true) :
    matchedUp e f s = countEvent .field .length s := if_pos long

theorem matchedDown_of_long {f : Frame} {s : State} {e : Fin 128} (long : (s.entry e).tooLong f = true) :
    matchedDown e f s = countEvent .trunk .length s := if_pos long

/-- An ACT_COMMAND without target, of an unknown action, or to a target not in service (R20, R21). -/
theorem matchedDown_of_unfit_command {f : Frame} {s : State} {e : Fin 128} (long : (s.entry e).tooLong f = false)
    (kind : f.kind = kindActCommand)
    (unfit : (s.entry e).object.target? = none ∨ readAction f.payload = none ∨ (s.entry e).object.inService s = false) :
    matchedDown e f s = countEvent .trunk .format s := by
  rw [matchedDown, matchedCommand]
  grind

theorem readAction_of_unknown {a : Byte} {l : List Byte} (head : l.head? = some a) (unknown : 5 < a.toNat) :
    readAction l = none := by
  have none_of : action? a.toNat = none := by
    obtain ⟨k, above⟩ := Nat.exists_eq_add_of_lt unknown
    rw [above, Nat.add_right_comm, Nat.add_comm _ k]
    rfl
  match l, head with
  | [_], _ => rfl
  | a' :: x :: _, head =>
    obtain rfl := Option.some.inj head
    exact none_of

theorem rowFrame?_trunk_kind {i : Instr} {f : Frame} (h : rowFrame? i = some (.trunk, f)) :
    f.kind = kindActCommand := by
  cases i <;> cases h
  all_goals rfl

/-- A trunk frame for another address goes to the classifier (R5). -/
theorem acceptFrame_trunk {f : Frame} {s : State} (active : s.mode = .active) (dest : f.dest ≠ 0#8)
    (other : f.dest ≠ s.address) (plain : ¬(f.kind = 0x30#8 ∧ f.dest = 0xFF#8)) :
    acceptFrame .trunk f s = classifyDown f s := by
  have port : ¬((Port.trunk = .field) ∧ f.kind = kindRequest) := fun h => nomatch h.1
  rw [acceptFrame, active]
  exact (if_neg dest).trans ((if_neg port).trans ((if_neg other).trans (if_neg plain)))

theorem classifyDown_of_matched {f : Frame} {s : State} {e : Fin 128} (active : s.mode = .active)
    (found : matching? s .down f.dest f.kind = some e) : classifyDown f s = matchedDown e f (countHit e s) := by
  simp [classifyDown, active, found]

theorem classifyDown_of_unmatched {f : Frame} {s : State} (active : s.mode = .active)
    (found : matching? s .down f.dest f.kind = none) : classifyDown f s = unmatchedDown f s := by
  simp [classifyDown, active, found]

/-- The kinds that are the part's own (R26). -/
theorem ownKind_iff (kind : Byte) : ownKind kind = true ↔ kind = 0x21#8 ∨ kind = 0x22#8 := by
  simp [ownKind, kindShuttleOrder, kindCoilCommand]

theorem unmatchedDown_of_own {f : Frame} {s : State} (command : f.kind ≠ kindActCommand) (own : ownKind f.kind = true) :
    unmatchedDown f s = countEvent .trunk .format s := (if_neg command).trans (if_pos own)

theorem unmatchedDown_of_other {f : Frame} {s : State} (command : f.kind ≠ kindActCommand)
    (own : ¬ownKind f.kind = true) : unmatchedDown f s = joinForwarded f s := (if_neg command).trans (if_neg own)

theorem matchedDown_of_own {f : Frame} {s : State} {e : Fin 128} (long : (s.entry e).tooLong f = false)
    (command : f.kind ≠ kindActCommand) (own : ownKind f.kind = true) :
    matchedDown e f s = countEvent .trunk .format s := by
  simp [matchedDown, long, command, own]

theorem matchedDown_of_other {f : Frame} {s : State} {e : Fin 128} (long : (s.entry e).tooLong f = false)
    (command : f.kind ≠ kindActCommand) (own : ¬ownKind f.kind = true) :
    matchedDown e f s = forwardDown e f s := by
  simp [matchedDown, long, command, own]

/-- Upward frames: unmatched by the policy, too long, or unfit (R19 to R21, R25). -/
theorem upward_frames_counted {s : State} {i : Instr} {f : Frame} (arrives : ArrivesUp s i f)
    (active : s.mode = .active) (dest : f.dest ≠ 0#8) (fits : f.payload.length ≤ 64) :
    (matching? s .up f.src f.kind = none →
      (s.policy = .drop → exec i s = .next (countEvent .field .unclassified s))
        ∧ (s.policy = .forward → exec i s = .next (joinUplink f s)))
    ∧ ∀ e, matching? s .up f.src f.kind = some e →
      ((s.entry e).tooLong f = true → exec i s = .next (countEvent .field .length (countHit e s)))
        ∧ ((s.entry e).tooLong f = false →
          ¬(s.entry e).object.suits f.kind ∨ (s.entry e).object.inService s = false →
          exec i s = .next (countEvent .field .format (countHit e s))) := by
  rw [exec_arrivesUp arrives active dest fits]
  refine ⟨fun found => ?_, fun e found => ?_⟩
  · rw [classifyUp_of_unmatched active found]
    exact ⟨fun policy => by rw [unmatchedUp, policy], fun policy => by rw [unmatchedUp, policy]⟩
  · rw [classifyUp_of_matched active found]
    refine ⟨fun long => ?_, fun long unfit => ?_⟩
    · rw [matchedUp_of_long ((countHit_tooLong e f s).trans long)]
    · rw [matchedUp_of_unfit ((countHit_tooLong e f s).trans long)]
      rwa [countHit_object, Bound.inService_countHit]

theorem exec_trunk_row {s : State} {i : Instr} {f : Frame} (row : rowFrame? i = some (.trunk, f))
    (active : s.mode = .active) (dest : f.dest ≠ 0#8) (other : f.dest ≠ s.address) (fits : f.payload.length ≤ 64) :
    exec i s = .next (classifyDown f s) := by
  have plain : ¬(f.kind = 0x30#8 ∧ f.dest = 0xFF#8) := fun h =>
    absurd ((rowFrame?_trunk_kind row).symm.trans h.1) (by decide)
  rw [exec_rowFrame row, arriveFrame_of_fits fits, acceptFrame_trunk active dest other plain]

/-- What an ACT_COMMAND needs of the object it is bound to and of its first payload byte (R20, R21). -/
theorem command_unfit {f : Frame} {s : State} {b : Bound}
    (unfit : b = .none ∨ (∃ p, b = .probe p) ∨ (∃ p, b = .reader p)
      ∨ (∃ a, f.payload.head? = some a ∧ 5 < a.toNat) ∨ b.inService s = false) :
    b.target? = none ∨ readAction f.payload = none ∨ b.inService s = false := by
  rcases unfit with rfl | ⟨_, rfl⟩ | ⟨_, rfl⟩ | ⟨_, head, unknown⟩ | idle
  · exact .inl rfl
  · exact .inl rfl
  · exact .inl rfl
  · exact .inr (.inl (readAction_of_unknown head unknown))
  · exact .inr (.inr idle)

/-- A frame joins the forwarded share, waits behind what the port transmits, or goes out (R10, R13). -/
theorem joinForwarded_cases (f : Frame) (s : State) :
    (16 ≤ s.forwarded.length → joinForwarded f s = countEvent .trunk .overflow s)
      ∧ (s.forwarded.length < 16 → s.fieldTx ≠ none →
        joinForwarded f s = { s with forwarded := s.forwarded ++ [{ frame := f, target := none }] })
      ∧ (s.fieldTx = none → s.originated = [] → s.forwarded = [] →
        joinForwarded f s = { s with fieldTx := some f }) :=
  ⟨joinForwarded_of_full, joinForwarded_of_busy, joinForwarded_of_idle⟩

/-- A matched frame that its mode places goes as one that joins, and its payload is stored unless it is dropped (R22,
R23). -/
theorem forwardDown_of_placed {e : Fin 128} {f : Frame} {s : State} (placed : (s.entry e).places f = true) :
    (16 ≤ s.forwarded.length → forwardDown e f s = countEvent .trunk .overflow s)
      ∧ (s.forwarded.length < 16 → s.fieldTx ≠ none → forwardDown e f s
        = { storePayload e f s with forwarded := s.forwarded ++ [{ frame := f, target := none }] })
      ∧ (s.fieldTx = none → s.originated = [] → s.forwarded = [] →
        forwardDown e f s = { storePayload e f s with fieldTx := some f }) := by
  refine ⟨forwardDown_of_full placed, fun room busy => ?_, fun idle ho hf => ?_⟩
  · rw [forwardDown_of_room placed room, joinForwarded_of_busy room busy]
    rfl
  · rw [forwardDown_of_room placed (by simp [hf]), joinForwarded_of_idle idle ho hf]
    rfl

/-- Settles O19: upward frames, ACT_COMMANDs and other downward frames by the classifier's cases. -/
theorem framesThatReachNoUnitAreCounted : Obligations.FramesThatReachNoUnitAreCounted := by
  refine ⟨?_, ?_⟩
  · intro s i f active dest fits arrives
    refine ⟨fun h => (upward_frames_counted h active dest fits).1, ?_, fun row other found => ?_, ?_⟩
    · intro e h found n suits
      have counted := (upward_frames_counted h active dest fits).2 e found
      have suited : n.object.suits f.kind → suits := by
        intro h
        cases object : n.object <;> rw [object] at h <;> simp_all [Bound.suits, suits]
      exact ⟨fun limit above => counted.1 (ClassEntry.tooLong_iff.mpr ⟨limit, above⟩), fun admitted unfit =>
        counted.2 (ClassEntry.tooLong_eq_false admitted) (unfit.imp_left fun h => mt suited h)⟩
    · have kind := rowFrame?_trunk_kind row
      rw [exec_trunk_row row active dest other fits, classifyDown_of_unmatched active (by rw [kind]; exact found),
        unmatchedDown, if_pos kind]
      rfl
    · intro e row other found n
      have kind := rowFrame?_trunk_kind row
      rw [exec_trunk_row row active dest other fits, classifyDown_of_matched active (by rw [kind]; exact found)]
      refine ⟨fun limit above => ?_, fun admitted unfit => ?_⟩
      · rw [matchedDown_of_long ((countHit_tooLong e f s).trans (ClassEntry.tooLong_iff.mpr ⟨limit, above⟩))]
      · have long := (countHit_tooLong e f s).trans (ClassEntry.tooLong_eq_false admitted)
        rw [matchedDown_of_unfit_command long kind]
        rw [countHit_object, Bound.inService_countHit]
        exact command_unfit unfit
  · intro s f active ready dest other fits command plain takes own joins
    have accepted : exec (.frameCompletion .trunk f.bytes false) s = .next (classifyDown f s) := by
      rw [exec_completion_bytes (p := .trunk) ready fits, acceptFrame_trunk active dest other plain]
    have ownKind : ownKind f.kind = true ↔ own := ownKind_iff f.kind
    have takes_of {t u : State} (h : classifyDown f s = t) (eq : t = u) : takes u := by
      subst h eq; exact accepted
    refine ⟨fun found => ⟨fun h => ?_, fun h => ?_⟩, ?_⟩
    · exact takes_of (classifyDown_of_unmatched active found) (unmatchedDown_of_own command (ownKind.mpr h))
    · have classified := (classifyDown_of_unmatched active found).trans
        (unmatchedDown_of_other command (mt ownKind.mp h))
      obtain ⟨full, busy, idle⟩ := joinForwarded_cases f s
      exact ⟨fun h => takes_of classified (full h), fun h h' => takes_of classified (busy h h'),
        fun h ho hf => takes_of classified (idle h ho hf)⟩
    · intro e found n counted placed
      have classified := classifyDown_of_matched active found
      have mode := countHit_places e f s
      have places : n.places f = true ↔ placed := ClassEntry.places_iff
      refine ⟨fun limit above => ?_, fun admitted => ?_⟩
      · exact takes_of classified
          (matchedDown_of_long ((countHit_tooLong e f s).trans (ClassEntry.tooLong_iff.mpr ⟨limit, above⟩)))
      have long := (countHit_tooLong e f s).trans (ClassEntry.tooLong_eq_false admitted)
      have forwarded (h : ¬own) : classifyDown f s = forwardDown e f (countHit e s) :=
        classified.trans (matchedDown_of_other long command (mt ownKind.mp h))
      refine ⟨fun h => ?_, fun h held => ?_, fun h place => ?_⟩
      · exact takes_of classified (matchedDown_of_own long command (ownKind.mpr h))
      · exact takes_of (forwarded h)
          (forwardDown_of_held_back (mode.trans (Bool.eq_false_iff.mpr (places.not.mpr held))))
      · obtain ⟨full, busy, idle⟩ := forwardDown_of_placed (mode.trans (places.mpr place))
        rw [storePayload_countHit] at busy idle
        exact ⟨fun h' => takes_of (forwarded h) (full h'), fun h' hb => takes_of (forwarded h) (busy h' hb),
          fun h' ho hf => takes_of (forwarded h) (idle h' ho hf)⟩

end Sys2Proof.Machine
end

section
/-! SUPPORT. Tag reads (section 7): the record of an identifier, arrivals and departures, with the statement O26. -/

namespace Sys2Proof.Machine

/-! ## The record of an identifier (R122) -/

section
variable {s : State} {id : PalletId}

theorem palletIx?_eq_none (unknown : ∀ j q, s.pallet j = some q → q.id ≠ id) : palletIx? s id = none := by
  refine tfind_eq_none_iff.mpr fun i => ?_
  cases record : tget s.pallets i with
  | none => rfl
  | some q => exact beq_eq_false_iff_ne.mpr (unknown i q record)

/-- With distinct identifiers the record that carries one is the record found. -/
theorem palletIx?_eq_some (distinct : PalletsDistinct s) {i : PalletIx} {q : Pallet} (record : s.pallet i = some q)
    (carries : q.id = id) : palletIx? s id = some i := by
  have record' : tget s.pallets i = some q := record
  refine tfind_eq_some_iff.mpr ⟨by rw [record']; exact beq_iff_eq.mpr carries, fun j lt => ?_⟩
  cases other : tget s.pallets j with
  | none => rfl
  | some r =>
    exact beq_eq_false_iff_ne.mpr fun same =>
      lt.ne (distinct j i r q other record (same.trans carries.symm))

end

/-! ## The form of a TAG_READ (R2) -/

section
variable {id : PalletId} {cls direction : Byte}

/-- The six bytes of a TAG_READ and what is read from them (R2). -/
theorem readTag_bytes (id : PalletId) (cls direction : Byte) (extra : List Byte) :
    readTag (quadBytes id ++ [cls, direction] ++ extra)
      = if id = 0#32 then none
        else (finOf? 8 cls.toNat).bind fun k => (outbound? direction.toNat).map (Content.tag id k) := by
  have quad_id := quad_quadBytes id
  simp only [quadBytes, be4, List.cons_append, List.nil_append, readTag, quad_id]
  cases finOf? 8 cls.toNat <;> cases outbound? direction.toNat <;> rfl

theorem outbound?_eq_none {n : Nat} (unknown : 1 < n) : outbound? n = none := by
  obtain ⟨k, rfl⟩ := Nat.exists_eq_add_of_lt unknown
  rw [Nat.add_right_comm, Nat.add_comm _ k]
  rfl

theorem readTag_malformed (extra : List Byte) (malformed : ¬(id ≠ 0#32 ∧ cls.toNat ≤ 7 ∧ direction.toNat ≤ 1)) :
    readTag (quadBytes id ++ [cls, direction] ++ extra) = none := by
  rw [readTag_bytes]
  split
  · rfl
  · next named =>
    rcases not_and_or.mp (not_and.mp malformed named) with class_ | way
    · have unknown : finOf? 8 cls.toNat = none := dif_neg (by omega)
      rw [unknown]
      rfl
    · rw [outbound?_eq_none (not_le.mp way)]
      cases finOf? 8 cls.toNat <;> rfl

theorem readTag_wellFormed (extra : List Byte) {k : ClassIx} {out : Bool} (named : id ≠ 0#32)
    (class_ : cls.toNat = k.val) (way : outbound? direction.toNat = some out) :
    readTag (quadBytes id ++ [cls, direction] ++ extra) = some (.tag id k out) := by
  have known : finOf? 8 cls.toNat = some k := by simp [finOf?, class_]
  rw [readTag_bytes, if_neg named, known, way]
  rfl

end

/-! ## The reader's frame (R18 to R21) -/

section
variable {f : Frame} {s : State} {e : Fin 128} {d : Delivery}

/-- A frame of the right kind whose content is malformed is counted (R2, R20). -/
theorem matchedUp_of_malformed (long : (s.entry e).tooLong f = false)
    (bind : bindUp f.kind (s.entry e).object = .delivered d) (read : d.read? f.payload = none) :
    matchedUp e f s = countEvent .field .format s := by
  simp [matchedUp, long, bind, read]

/-- The content that a unit in service takes; the frame is forwarded after it (R21, R22). -/
theorem matchedUp_of_read {x : Content} (long : (s.entry e).tooLong f = false)
    (bind : bindUp f.kind (s.entry e).object = .delivered d) (read : d.read? f.payload = some x)
    (service : d.inService s = true) : matchedUp e f s = forwardUp e f (d.deliver x s) := by
  simp [matchedUp, long, bind, read, service]

end

section
variable {s : State} {h : Header} {id : PalletId} {cls direction : Byte} {extra : List Byte} {e : Fin 128} {p : DockIx}

/-- A TAG_READ reaches its entry (R18, R19). -/
theorem exec_tagRead (bound : BoundUp s h 0x13#8 (6 + extra.length) e (.reader p)) :
    let f := headerFrame h 0x13#8 (quadBytes id ++ [cls, direction] ++ extra)
    exec (.tagRead h id cls direction extra) s = .next (matchedUp e f (countHit e s))
      ∧ ((countHit e s).entry e).tooLong f = false
      ∧ bindUp f.kind ((countHit e s).entry e).object = .delivered (.tagRead p) := by
  intro f
  have length : f.payload.length = 6 + extra.length := by
    simp only [f, headerFrame, quadBytes, be4, List.length_append, List.length_cons, List.length_nil]
  refine ⟨?_, ?_, ?_⟩
  · rw [exec_arrivesUp (.inl rfl) bound.active bound.dest (length.le.trans bound.fits),
      classifyUp_of_matched bound.active bound.matched]
  · rw [countHit_tooLong]
    exact ClassEntry.tooLong_eq_false (by rw [length]; exact bound.admitted)
  · rw [countHit_object, bound.object]
    rfl

theorem exec_tagRead_malformed (bound : BoundUp s h 0x13#8 (6 + extra.length) e (.reader p))
    (malformed : ¬(id ≠ 0#32 ∧ cls.toNat ≤ 7 ∧ direction.toNat ≤ 1)) :
    exec (.tagRead h id cls direction extra) s = .next (countEvent .field .format (countHit e s)) := by
  obtain ⟨reached, long, bind⟩ := exec_tagRead (id := id) (cls := cls) (direction := direction) bound
  rw [reached, matchedUp_of_malformed long bind (readTag_malformed extra malformed)]

theorem exec_tagRead_wellFormed {k : ClassIx} {out : Bool}
    (bound : BoundUp s h 0x13#8 (6 + extra.length) e (.reader p)) (loaded : (s.dock p).loaded = true)
    (named : id ≠ 0#32) (class_ : cls.toNat = k.val) (way : outbound? direction.toNat = some out) :
    exec (.tagRead h id cls direction extra) s
      = .next (forwardUp e (headerFrame h 0x13#8 (quadBytes id ++ [cls, direction] ++ extra))
          (tagRead p id k out (countHit e s))) := by
  obtain ⟨reached, long, bind⟩ := exec_tagRead (id := id) (cls := cls) (direction := direction) bound
  rw [reached, matchedUp_of_read long bind (readTag_wellFormed extra named class_ way) loaded]
  rfl

end

/-! ## Arrivals (R123, R124) -/

section
variable {s : State} {p : DockIx} {id : PalletId} {cls : ClassIx} {i : PalletIx}

theorem freshArrival_of_room
    (room : (s.lane (s.dock p).receiveLane).pallets.length + (s.lane (s.dock p).receiveLane).reserved
      < (s.lane (s.dock p).receiveLane).depth) :
    freshArrival i id cls p s = { s with
      lanes := tset s.lanes (s.dock p).receiveLane
        { s.lane (s.dock p).receiveLane with pallets := (s.lane (s.dock p).receiveLane).pallets ++ [id] }
      pallets := tset s.pallets i (some { freshPallet s id cls p with
        location := .lane (s.dock p).receiveLane
        status := if (s.lane (s.dock p).receiveLane).zone = 0 then .dock else .stored }) } := by
  have has : (s.lane (s.dock p).receiveLane).hasRoom = true := decide_eq_true room
  refine (if_pos has).trans ?_
  simp only [State.modLane, State.modPallet, tmod, tget_tset_self, tset_tset, State.lane, laneStatus, Option.map]
  rfl

theorem freshArrival_of_full
    (full : (s.lane (s.dock p).receiveLane).depth
      ≤ (s.lane (s.dock p).receiveLane).pallets.length + (s.lane (s.dock p).receiveLane).reserved) :
    freshArrival i id cls p s = raiseNotice .laneFull (.lane (s.dock p).receiveLane) id
      { s with pallets := tset s.pallets i (some (freshPallet s id cls p)) } := by
  have none_left : ¬(s.lane (s.dock p).receiveLane).hasRoom = true := by simpa [Lane.hasRoom] using full
  exact if_neg none_left

theorem freeRecord?_of_unused (unused : s.pallet i = none) (first : ∀ j < i, s.pallet j ≠ none) :
    freeRecord? s = some (i, s.departed) := by
  have found : tfind Option.isNone s.pallets = some i :=
    tfind_eq_some_iff.mpr ⟨Option.isNone_iff_eq_none.mpr unused, fun j lt =>
      Bool.eq_false_iff.mpr (mt Option.isNone_iff_eq_none.mp (first j lt))⟩
  rw [freeRecord?, found]

theorem freeRecord?_of_used (used : ∀ j, s.pallet j ≠ none) :
    (∀ rest, s.departed = i :: rest → freeRecord? s = some (i, rest))
      ∧ (s.departed = [] → freeRecord? s = none) := by
  have nowhere : tfind Option.isNone s.pallets = none :=
    tfind_eq_none_iff.mpr fun j => Bool.eq_false_iff.mpr (mt Option.isNone_iff_eq_none.mp (used j))
  rw [freeRecord?, nowhere]
  exact ⟨fun rest oldest => by rw [oldest], fun nobody => by rw [nobody]⟩

/-- An IN read of an unknown identifier takes a free record, or finds the table full (R123, R124). -/
theorem readIn_of_unknown (unknown : palletIx? s id = none) :
    (∀ rest, freeRecord? s = some (i, rest) → readIn p id cls s = freshArrival i id cls p { s with departed := rest })
      ∧ (freeRecord? s = none →
        readIn p id cls s = raiseNotice .palletTableFull (.portal (dockPortal p)) id s) := by
  rw [readIn, unknown]
  exact ⟨fun rest free => by rw [free], fun free => by rw [free]⟩

/-- An IN read of a known identifier: a departed pallet, one already there, or a duplicate (R124). -/
theorem readIn_of_known {q : Pallet} (known : palletIx? s id = some i) (record : s.pallet i = some q) :
    readIn p id cls s =
      if q.status = .departed then
        freshArrival i id cls p { s with departed := s.departed.filter fun j => j != i }
      else if q.location = .lane (s.dock p).receiveLane ∨ (q.location = .unplaced ∧ q.portal = p) then s
      else raiseNotice .duplicateTag (.pallet i) id s := by
  simp [readIn, known, record, Pallet.departed]

end

/-! ## Departures (R125) -/

section
variable {s : State} {p : DockIx} {id : PalletId} {i : PalletIx} {q : Pallet}

/-- A pallet's departure without the notice: its record, its lane and the departed list (R125). -/
def departs (i : PalletIx) (q : Pallet) (lanes : Vector Lane 48) (s : State) : State :=
  { s with
    lanes := lanes
    pallets := tset s.pallets i (some { q with location := .none, status := .departed, departure := some s.count })
    departed := s.departed ++ [i] }

theorem departPallet_of_unplaced (record : s.pallet i = some q) (unplaced : q.location = .unplaced) :
    departPallet p i q s = raiseNotice .departureOutOfOrder (.pallet i) q.id (departs i q s.lanes s) := by
  have record' : tget s.pallets i = some q := record
  simp [departPallet, unplaced, leaveLocation, departs, State.modPallet, tmod, record']

theorem departPallet_of_lane {l : LaneIx} (record : s.pallet i = some q) (stands : q.location = .lane l) :
    departPallet p i q s =
      let gone := departs i q
        (tset s.lanes l { s.lane l with pallets := (s.lane l).pallets.filter fun x => x != q.id }) s
      if l = (s.dock p).dispatchLane ∧ (s.lane l).pallets.head? = some q.id then gone
      else raiseNotice .departureOutOfOrder (.pallet i) q.id gone := by
  have record' : tget s.pallets i = some q := record
  have head : (l = (s.dock p).dispatchLane ∧ (tget s.lanes (s.dock p).dispatchLane).pallets.head? = some q.id)
      ↔ (l = (s.dock p).dispatchLane ∧ (tget s.lanes l).pallets.head? = some q.id) :=
    and_congr_right fun here => by rw [here]
  simp [departPallet, stands, leaveLocation, removeFromLane, departs, State.modPallet, State.modLane, tmod, record',
    State.lane, head]
  rfl

/-- An OUT read of a departed pallet changes nothing; one of a pallet on a deck is rejected; any other pallet departs
(R125). -/
theorem readOut_of_known (known : palletIx? s id = some i) (record : s.pallet i = some q) :
    (q.status = .departed → readOut p id s = s)
      ∧ (q.status ≠ .departed →
        (∀ u, q.location = .deck u →
          readOut p id s = raiseNotice .tagRejected (.portal (dockPortal p)) id s)
        ∧ ((∀ u, q.location ≠ .deck u) → readOut p id s = departPallet p i q s)) := by
  refine ⟨fun gone => ?_, fun live => ⟨fun u deck => ?_, fun grounded => ?_⟩⟩
  · simp [readOut, known, record, Pallet.departed, gone]
  · simp [readOut, known, record, Pallet.departed, live, deck]
  · cases location : q.location with
    | deck u => exact absurd location (grounded u)
    | lane _ | unplaced | none => simp [readOut, known, record, Pallet.departed, live, location]

theorem readOut_of_unknown (unknown : palletIx? s id = none) :
    readOut p id s = raiseNotice .tagRejected (.portal (dockPortal p)) id s := by
  simp [readOut, unknown]

end

theorem DockState.isOpen_iff (d : DockState) :
    d.isOpen = true ↔ d = .openSealed ∨ d = .breach ∨ d = .openUnsealed := by
  cases d <;> simp [DockState.isOpen]

theorem tagRead_of_open {s : State} {p : DockIx} (stands : (s.dock p).state.isOpen = true) (id : PalletId)
    (cls : ClassIx) (out : Bool) : tagRead p id cls out s = if out then readOut p id s else readIn p id cls s :=
  if_pos stands

theorem tagRead_of_shut {s : State} {p : DockIx} (shut : ¬(s.dock p).state.isOpen = true) (id : PalletId)
    (cls : ClassIx) (out : Bool) :
    tagRead p id cls out s = raiseNotice .tagRejected (.portal (dockPortal p)) id s :=
  if_neg shut

/-- Settles O26: the read's form, the door, and then the record of the identifier by direction. -/
theorem tagReadsArriveAndDepart : Obligations.TagReadsArriveAndDepart := by
  intro s h id cls direction extra e p bound loaded f answers counted wellFormed standsOpen rejected
  have open_iff : (counted.dock p).state.isOpen = true ↔ standsOpen := DockState.isOpen_iff _
  have reads {k : ClassIx} {out : Bool} {t : State} (named : id ≠ 0#32) (class_ : cls.toNat = k.val)
      (way : outbound? direction.toNat = some out) (read : tagRead p id k out counted = t) : answers t := by
    subst read
    exact exec_tagRead_wellFormed bound loaded named class_ way
  refine ⟨exec_tagRead_malformed bound, ?_, ?_, ?_, ?_⟩
  · rintro ⟨named, class_, way⟩ shut
    obtain ⟨out, way'⟩ : ∃ out, outbound? direction.toNat = some out := by
      interval_cases direction.toNat
      · exact ⟨false, rfl⟩
      · exact ⟨true, rfl⟩
    exact reads (k := ⟨cls.toNat, by omega⟩) named rfl way' (tagRead_of_shut (mt open_iff.mp shut) ..)
  · intro k class_ named opened inward l fresh arrives
    have way : outbound? direction.toNat = some false := by rw [inward]; rfl
    have reads_in {t : State} (read : readIn p id k counted = t) : answers t :=
      reads named class_ way ((tagRead_of_open (open_iff.mpr opened) ..).trans read)
    have arrival (i : PalletIx) (rest : List PalletIx)
        (read : readIn p id k counted = freshArrival i id k p { counted with departed := rest }) : arrives i rest :=
      ⟨fun room => reads_in (read.trans (freshArrival_of_room room)),
        fun full => reads_in (read.trans (freshArrival_of_full full))⟩
    refine ⟨fun unknown => ?_, fun i q distinct record carries => ?_⟩
    · have unknown' : palletIx? counted id = none := palletIx?_eq_none unknown
      refine ⟨fun i unused first => ?_, fun used => ⟨fun i rest oldest => ?_, fun nobody => ?_⟩⟩
      · exact arrival i _ ((readIn_of_unknown unknown').1 _ (freeRecord?_of_unused unused first))
      · exact arrival i rest ((readIn_of_unknown unknown').1 _ ((freeRecord?_of_used used).1 rest oldest))
      · exact reads_in ((readIn_of_unknown (i := 0) unknown').2 ((freeRecord?_of_used (i := 0) used).2 nobody))
    · have known : palletIx? counted id = some i := palletIx?_eq_some distinct record carries
      have read := readIn_of_known (p := p) (cls := k) known record
      refine ⟨fun gone => ?_, fun live there => ?_, fun live elsewhere placed => ?_⟩
      · exact arrival i _ (read.trans (if_pos gone))
      · exact reads_in (read.trans ((if_neg live).trans (if_pos there)))
      · exact reads_in (read.trans ((if_neg live).trans (if_neg (not_or.mpr ⟨elsewhere, placed⟩))))
  · rintro ⟨named, class_, -⟩ opened outward unknown
    have way : outbound? direction.toNat = some true := by rw [outward]; rfl
    exact reads (k := ⟨cls.toNat, by omega⟩) named rfl way
      ((tagRead_of_open (open_iff.mpr opened) ..).trans (readOut_of_unknown (palletIx?_eq_none unknown)))
  · rintro i q ⟨named, class_, -⟩ opened outward distinct record carries left outOfOrder
    have way : outbound? direction.toNat = some true := by rw [outward]; rfl
    have reads_out {t : State} (read : readOut p id counted = t) : answers t :=
      reads (k := ⟨cls.toNat, by omega⟩) named rfl way ((tagRead_of_open (open_iff.mpr opened) ..).trans read)
    have known : palletIx? counted id = some i := palletIx?_eq_some distinct record carries
    obtain ⟨gone, live⟩ := readOut_of_known (p := p) known record
    refine ⟨fun h => reads_out (gone h), fun h => ?_⟩
    obtain ⟨deck, grounded⟩ := live h
    subst carries
    refine ⟨fun u loc => reads_out (deck u loc), fun loc => ?_, fun l loc => ?_⟩
    · exact reads_out ((grounded fun u => by simp [loc]).trans (departPallet_of_unplaced record loc))
    · have read := (grounded fun u => by simp [loc]).trans (departPallet_of_lane record loc)
      exact ⟨fun here first => reads_out (read.trans (if_pos ⟨here, first⟩)), fun other =>
        reads_out (read.trans (if_neg (not_and_or.mpr other)))⟩

end Sys2Proof.Machine
end

section
/-! SUPPORT. The ports and the notice unit apart from the records: a port operation on the records of one state over the
ports of another acts on the ports alone, and an action on each of several coils acts on each coil's own record. -/

namespace Sys2Proof.Machine

section
variable (u s : State)

@[simp] theorem State.withPorts_trunkTx : (u.withPorts s).trunkTx = s.trunkTx := rfl
@[simp] theorem State.withPorts_fieldTx : (u.withPorts s).fieldTx = s.fieldTx := rfl
@[simp] theorem State.withPorts_uplink : (u.withPorts s).uplink = s.uplink := rfl
@[simp] theorem State.withPorts_forwarded : (u.withPorts s).forwarded = s.forwarded := rfl
@[simp] theorem State.withPorts_originated : (u.withPorts s).originated = s.originated := rfl
@[simp] theorem State.withPorts_answers : (u.withPorts s).answers = s.answers := rfl
@[simp] theorem State.withPorts_notices : (u.withPorts s).notices = s.notices := rfl
@[simp] theorem State.withPorts_run : (u.withPorts s).run = s.run := rfl
@[simp] theorem State.withPorts_coil (c : CoilIx) : (u.withPorts s).coil c = u.coil c := rfl
@[simp] theorem State.withPorts_zone (z : ZoneIx) : (u.withPorts s).zone z = u.zone z := rfl
@[simp] theorem State.withPorts_room (r : RoomIx) : (u.withPorts s).room r = u.room r := rfl
@[simp] theorem State.withPorts_mode : (u.withPorts s).mode = u.mode := rfl

end

theorem SameUnits.withPorts {s t : State} (h : SameUnits s t) : s.withPorts t = t := by
  obtain ⟨h1, h2, h3, h4, h5, h6, h7, h8, h9, h10, h11, h12, h13, h14, h15, h16, h17, h18, h19, h20, h21, h22⟩ := h
  simp only [State.withPorts, ← h1, ← h2, ← h3, ← h4, ← h5, ← h6, ← h7, ← h8, ← h9, ← h10, ← h11, ← h12, ← h13, ← h14,
    ← h15, ← h16, ← h17, ← h18, ← h19, ← h20, ← h21, ← h22]

/-! ## What a port operation reads of the records -/

/-- The states agree in what a port operation reads besides the ports: the address, the time, and the addresses of the
field objects (R28, R161, R164). -/
structure LinkAgrees (u s : State) : Prop where
  strap : u.strap = s.strap
  count : u.count = s.count
  addresses : ∀ kind b, addressOf? u kind b = addressOf? s kind b

theorem LinkAgrees.refl (s : State) : LinkAgrees s s := ⟨rfl, rfl, fun _ _ => rfl⟩

theorem LinkAgrees.of_sameUnits {u s t : State} (h : LinkAgrees u s) (same : SameUnits s t) : LinkAgrees u t :=
  ⟨h.strap.trans same.strap.symm, h.count.trans same.count.symm, fun kind b => by
    rw [h.addresses, addressOf?, addressOf?, same.classTable]⟩

section
variable {u s : State}

theorem sendNotice_withPorts (h : LinkAgrees u s) (n : Notice) :
    sendNotice n (u.withPorts s) = u.withPorts (sendNotice n s) := by
  simp [sendNotice, noticeFrame, State.address, State.withPorts, h.strap]

theorem trunkForwardStep_withPorts (h : LinkAgrees u s) :
    trunkForwardStep (u.withPorts s) = u.withPorts (trunkForwardStep s) := by
  unfold trunkForwardStep
  cases uplink : s.uplink with
  | cons f rest => simp only [State.withPorts_uplink, uplink]; rfl
  | nil =>
    cases notice : s.notices.find? fun n => !n.isAlarm with
    | none => simp only [State.withPorts_uplink, State.withPorts_notices, uplink, notice]
    | some n => simp only [State.withPorts_uplink, State.withPorts_notices, uplink, notice, sendNotice_withPorts h]

theorem trunkChoose_withPorts (h : LinkAgrees u s) : trunkChoose (u.withPorts s) = u.withPorts (trunkChoose s) := by
  unfold trunkChoose
  cases answers : s.answers with
  | cons a rest => simp only [State.withPorts_answers, answers]; rfl
  | nil =>
    cases alarm : s.notices.find? Notice.isAlarm with
    | some n => simp only [State.withPorts_answers, State.withPorts_notices, answers, alarm, sendNotice_withPorts h]
    | none =>
      cases other : s.notices.find? fun n => !n.isAlarm <;> by_cases run : s.run = Config.runTop <;>
        simp only [State.withPorts_answers, State.withPorts_notices, State.withPorts_run, answers, alarm, other, run,
          sendNotice_withPorts h, trunkForwardStep_withPorts h, if_true, if_false]

theorem kickTrunk_withPorts (h : LinkAgrees u s) : kickTrunk (u.withPorts s) = u.withPorts (kickTrunk s) := by
  unfold kickTrunk
  cases tx : s.trunkTx with
  | some f => simp only [State.withPorts_trunkTx, tx]
  | none => simp only [State.withPorts_trunkTx, tx, trunkChoose_withPorts h]

theorem kickField_withPorts : kickField (u.withPorts s) = u.withPorts (kickField s) := by
  unfold kickField fieldChoose
  cases tx : s.fieldTx with
  | some f => simp only [State.withPorts_fieldTx, tx]
  | none =>
    cases originated : s.originated with
    | cons o rest => simp only [State.withPorts_fieldTx, State.withPorts_originated, tx, originated]; rfl
    | nil =>
      cases forwarded : s.forwarded with
      | cons w rest =>
        simp only [State.withPorts_fieldTx, State.withPorts_originated, State.withPorts_forwarded, tx, originated,
          forwarded]
        rfl
      | nil =>
        simp only [State.withPorts_fieldTx, State.withPorts_originated, State.withPorts_forwarded, tx, originated,
          forwarded]

theorem offerNotice_of_pending {n : Notice} (same : s.notices.any (fun m => m.sameKey n) = true) :
    offerNotice n s = { s with notices := s.notices.map fun m => if m.sameKey n then n else m } := if_pos same

theorem offerNotice_of_room {n : Notice} (new : ¬s.notices.any (fun m => m.sameKey n) = true)
    (room : s.notices.length < Config.noticeDepth) :
    offerNotice n s = kickTrunk { s with notices := s.notices ++ [n] } := (if_neg new).trans (if_pos room)

theorem offerNotice_of_full {n : Notice} (new : ¬s.notices.any (fun m => m.sameKey n) = true)
    (full : ¬s.notices.length < Config.noticeDepth) :
    (∀ q, displaced? n.severity s.notices = some q →
        offerNotice n s = kickTrunk { s with notices := q ++ [n], lost := true })
      ∧ (displaced? n.severity s.notices = none → offerNotice n s = { s with lost := true }) := by
  rw [offerNotice, if_neg new, if_neg full]
  exact ⟨fun q displaced => by rw [displaced], fun displaced => by rw [displaced]⟩

theorem offerNotice_withPorts (h : LinkAgrees u s) (n : Notice) :
    offerNotice n (u.withPorts s) = u.withPorts (offerNotice n s) := by
  have kicks (q : List Notice) (lost : Bool) : kickTrunk { u.withPorts s with notices := q, lost := lost }
      = u.withPorts (kickTrunk { s with notices := q, lost := lost }) :=
    kickTrunk_withPorts (s := { s with notices := q, lost := lost }) ⟨h.strap, h.count, h.addresses⟩
  by_cases same : s.notices.any (fun m => m.sameKey n) = true
  · rw [offerNotice_of_pending same, offerNotice_of_pending (s := u.withPorts s) same]
    rfl
  · by_cases room : s.notices.length < Config.noticeDepth
    · rw [offerNotice_of_room same room, offerNotice_of_room (s := u.withPorts s) same room]
      exact kicks _ _
    · obtain ⟨gives, keeps⟩ := offerNotice_of_full same room
      obtain ⟨gives', keeps'⟩ := offerNotice_of_full (s := u.withPorts s) same room
      cases displaced : displaced? n.severity s.notices with
      | some q => rw [gives q displaced, gives' q displaced, kicks]
      | none => rw [keeps displaced, keeps' displaced]; rfl

theorem raiseNotice_withPorts (h : LinkAgrees u s) (k : NoticeKind) (o : NoticeObj) (v : Quad) :
    raiseNotice k o v (u.withPorts s) = u.withPorts (raiseNotice k o v s) := by
  have count : (u.withPorts s).count = s.count := h.count
  rw [raiseNotice, count]
  exact offerNotice_withPorts h _

theorem fillPosition_withPorts (o : OrigObj) (f : Frame) :
    fillPosition o f (u.withPorts s) = u.withPorts (fillPosition o f s) := by
  by_cases taken : ∃ p ∈ s.originated, p.obj = o
  · rw [fillPosition_of_taken taken, fillPosition_of_taken (s := u.withPorts s) taken]
    rfl
  · have free : ∀ p ∈ s.originated, p.obj ≠ o := fun p mem same => taken ⟨p, mem, same⟩
    rw [fillPosition_of_untaken free, fillPosition_of_untaken (s := u.withPorts s) free]
    exact kickField_withPorts (s := { s with originated := s.originated ++ [{ obj := o, frame := f }] })

theorem originate_withPorts (h : LinkAgrees u s) (o : OrigObj) (kind : Byte) (payload : List Byte) :
    originate o kind payload (u.withPorts s) = u.withPorts (originate o kind payload s) := by
  have address : (u.withPorts s).address = s.address := congrArg (fun k : Fin 8 => 0xF0#8 + byteOf k.val) h.strap
  have node : addressOf? (u.withPorts s) kind o.bound = addressOf? s kind o.bound := h.addresses ..
  unfold originate
  rw [node, address]
  cases addressOf? s kind o.bound with
  | some a => exact fillPosition_withPorts _ _
  | none => exact raiseNotice_withPorts h _ _ _

end

theorem LinkAgrees.modCoil {u s : State} (h : LinkAgrees u s) (c : CoilIx) (g : Coil → Coil) :
    LinkAgrees (u.modCoil c g) s := ⟨h.strap, h.count, h.addresses⟩

/-! ## An action on each of several coils -/

theorem tget_ext {α : Type} {n : Nat} {v w : Vector α n} (h : ∀ i, tget v i = tget w i) : v = w :=
  Vector.ext fun i lt => h ⟨i, lt⟩

theorem tset_tget {α : Type} {n : Nat} (v : Vector α n) (i : Fin n) : tset v i (tget v i) = v :=
  tget_ext fun j => by
    rw [tget_tset]
    split
    · next same => rw [same]
    · rfl

/-- The records of the coils of a list, each changed by itself. -/
def State.modCoils (u : State) (l : List CoilIx) (g : Coil → Coil) : State :=
  { u with coils := Vector.ofFn fun c => if c ∈ l then g (u.coil c) else u.coil c }

theorem State.modCoils_nil (u : State) (g : Coil → Coil) : u.modCoils [] g = u := by
  have same : (Vector.ofFn fun c => if c ∈ ([] : List CoilIx) then g (u.coil c) else u.coil c) = u.coils :=
    tget_ext fun c => by simp [State.coil]
  rw [State.modCoils, same]

theorem State.modCoils_cons (u : State) {c : CoilIx} {l : List CoilIx} (new : c ∉ l) (g : Coil → Coil) :
    (u.modCoil c g).modCoils l g = u.modCoils (c :: l) g := by
  have same : (Vector.ofFn fun d => if d ∈ l then g ((u.modCoil c g).coil d) else (u.modCoil c g).coil d)
      = Vector.ofFn fun d => if d ∈ c :: l then g (u.coil d) else u.coil d := by
    refine tget_ext fun d => ?_
    rw [tget_ofFn, tget_ofFn]
    by_cases here : c = d
    · subst here
      rw [if_neg new, if_pos (List.mem_cons_self ..), State.coil_modCoil_self]
    · have mem : d ∈ c :: l ↔ d ∈ l := by simp [Ne.symm here]
      rw [State.coil_modCoil_ne _ _ _ here]
      simp only [mem]
  rw [State.modCoils, same]
  rfl

theorem State.coil_modCoils (u : State) (l : List CoilIx) (g : Coil → Coil) (c : CoilIx) :
    (u.modCoils l g).coil c = if c ∈ l then g (u.coil c) else u.coil c := tget_ofFn ..

section
variable (u : State) (l : List CoilIx) (g : Coil → Coil)

@[simp] theorem State.modCoils_mode : (u.modCoils l g).mode = u.mode := rfl
@[simp] theorem State.modCoils_zone (z : ZoneIx) : (u.modCoils l g).zone z = u.zone z := rfl
@[simp] theorem State.modCoils_room (r : RoomIx) : (u.modCoils l g).room r = u.room r := rfl

end

/-- An action that changes a coil's record by what it holds, and does to the ports what the record tells it to, does so
for each coil of a list with the record that the coil had at the start. -/
theorem forEach_coils {op : CoilIx → State → State} {g : Mode → Coil → Coil} {tell : Coil → CoilIx → State → State}
    (acts : ∀ c u p, LinkAgrees u p →
      op c (u.withPorts p) = (u.modCoil c (g u.mode)).withPorts (tell (u.coil c) c p))
    (units : ∀ k c p, SameUnits p (tell k c p)) {l : List CoilIx} (nodup : l.Nodup) {u p : State}
    (agree : LinkAgrees u p) :
    forEach l op (u.withPorts p)
      = (u.modCoils l (g u.mode)).withPorts (l.foldl (fun p c => tell (u.coil c) c p) p) := by
  induction l generalizing u p with
  | nil => rw [State.modCoils_nil]; rfl
  | cons c l ih =>
    obtain ⟨new, nodup⟩ := List.nodup_cons.mp nodup
    have agree' : LinkAgrees (u.modCoil c (g u.mode)) (tell (u.coil c) c p) :=
      (agree.modCoil c _).of_sameUnits (units ..)
    have later : l.foldl (fun p d => tell ((u.modCoil c (g u.mode)).coil d) d p) (tell (u.coil c) c p)
        = l.foldl (fun p d => tell (u.coil d) d p) (tell (u.coil c) c p) :=
      List.foldl_ext _ _ _ fun _ d mem => by
        rw [State.coil_modCoil_ne _ _ _ fun same : c = d => new (same ▸ mem)]
    rw [forEach_cons, acts c u p agree, ih nodup agree', later, State.modCoil_mode, State.modCoils_cons u new]
    rfl

theorem foldl_sameUnits {α : Type} {f : State → α → State} (units : ∀ p a, SameUnits p (f p a)) (l : List α)
    (p : State) : SameUnits p (l.foldl f p) := by
  induction l generalizing p with
  | nil => exact SameUnits.refl p
  | cons a l ih => exact (units p a).trans (ih _)

/-! ## Owed counts (R100, R116) -/

/-- A coil's record with one more defrost owed, up to its limit, which forces it (R100). -/
def Coil.owingMore (k : Coil) : Coil :=
  if k.owed < k.limit then { k with owed := k.owed + 1, forced := k.forced || decide (k.owed + 1 = k.limit) } else k

section
variable (k : Coil)

@[simp] theorem Coil.owingMore_loaded : k.owingMore.loaded = k.loaded := by unfold Coil.owingMore; split <;> rfl
@[simp] theorem Coil.owingMore_zone : k.owingMore.zone = k.zone := by unfold Coil.owingMore; split <;> rfl
@[simp] theorem Coil.owingMore_mask : k.owingMore.mask = k.mask := by unfold Coil.owingMore; split <;> rfl
@[simp] theorem Coil.owingMore_phase : k.owingMore.phase = k.phase := by unfold Coil.owingMore; split <;> rfl
@[simp] theorem Coil.owingMore_spacingTimer : k.owingMore.spacingTimer = k.spacingTimer := by
  unfold Coil.owingMore; split <;> rfl

end

section
variable (u : State) (l : List CoilIx) (c : CoilIx)

theorem State.modCoils_owingMore_keeps {α : Type} {π : Coil → α} (keeps : ∀ k, π k.owingMore = π k) :
    π ((u.modCoils l Coil.owingMore).coil c) = π (u.coil c) := by
  rw [State.coil_modCoils]
  split
  · exact keeps _
  · rfl

@[simp] theorem State.modCoils_owingMore_loaded :
    ((u.modCoils l Coil.owingMore).coil c).loaded = (u.coil c).loaded :=
  u.modCoils_owingMore_keeps l c Coil.owingMore_loaded
@[simp] theorem State.modCoils_owingMore_zone : ((u.modCoils l Coil.owingMore).coil c).zone = (u.coil c).zone :=
  u.modCoils_owingMore_keeps l c Coil.owingMore_zone
@[simp] theorem State.modCoils_owingMore_phase : ((u.modCoils l Coil.owingMore).coil c).phase = (u.coil c).phase :=
  u.modCoils_owingMore_keeps l c Coil.owingMore_phase

end

theorem Coil.owingMore_owed (k : Coil) : k.owingMore.owed = if k.owed < k.limit then k.owed + 1 else k.owed := by
  unfold Coil.owingMore; split <;> rfl

theorem Coil.owingMore_forced (k : Coil) :
    k.owingMore.forced = true ↔ k.forced = true ∨ (k.owed < k.limit ∧ k.owed + 1 = k.limit) := by
  unfold Coil.owingMore; split <;> simp [*]

/-- An owed defrost touches two fields alone. -/
theorem Coil.owingMore_eq (k : Coil) :
    k.owingMore = { k with owed := k.owingMore.owed, forced := k.owingMore.forced } := by
  unfold Coil.owingMore; split <;> rfl

/-- DEFROST_OVERDUE of a coil that one more owed defrost brings to its limit (R100). -/
def tellOverdue (k : Coil) (c : CoilIx) (p : State) : State :=
  if k.owed < k.limit ∧ k.owed + 1 = k.limit then
    raiseNotice .defrostOverdue (.coil c) (BitVec.ofInt 32 k.limit) p
  else p

theorem tellOverdue_units (k : Coil) (c : CoilIx) (p : State) : SameUnits p (tellOverdue k c p) := by
  unfold tellOverdue
  split
  · exact (raiseNotice_portStep ..).units
  · exact SameUnits.refl p

theorem raiseOwed_of_limit {c : CoilIx} {s : State} (top : (s.coil c).limit ≤ (s.coil c).owed) :
    raiseOwed 1 c s = s := if_pos top

/-- A raise below the limit, and DEFROST_OVERDUE when it reaches the limit (R100). -/
theorem raiseOwed_of_below {c : CoilIx} {s : State} (below : (s.coil c).owed < (s.coil c).limit) :
    raiseOwed 1 c s
      = if (s.coil c).owed + 1 = (s.coil c).limit then
          raiseNotice .defrostOverdue (.coil c) (BitVec.ofInt 32 (s.coil c).limit) (s.modCoil c Coil.owingMore)
        else s.modCoil c Coil.owingMore := by
  have capped : min (s.coil c).limit ((s.coil c).owed + 1) = (s.coil c).owed + 1 := by omega
  have record : (s.modCoil c fun k => { k with
        owed := (s.coil c).owed + 1
        forced := if (s.coil c).owed + 1 = k.limit then true else k.forced })
      = s.modCoil c Coil.owingMore := by
    have same : ({ s.coil c with
        owed := (s.coil c).owed + 1
        forced := if (s.coil c).owed + 1 = (s.coil c).limit then true else (s.coil c).forced } : Coil)
        = (s.coil c).owingMore := by
      rw [Coil.owingMore, if_pos below]
      split <;> simp [*]
    exact congrArg (fun k => { s with coils := tset s.coils c k }) same
  refine (if_neg (not_le.mpr below)).trans ?_
  simp only [Nat.cast_one, capped, record]
  rfl

theorem raiseOwed_withPorts (c : CoilIx) (u p : State) (agree : LinkAgrees u p) :
    raiseOwed 1 c (u.withPorts p) = (u.modCoil c Coil.owingMore).withPorts (tellOverdue (u.coil c) c p) := by
  by_cases below : (u.coil c).owed < (u.coil c).limit
  · rw [raiseOwed_of_below (s := u.withPorts p) below, tellOverdue]
    by_cases top : (u.coil c).owed + 1 = (u.coil c).limit
    · refine (if_pos top).trans ?_
      rw [if_pos ⟨below, top⟩]
      exact raiseNotice_withPorts (agree.modCoil c _) _ _ _
    · refine (if_neg top).trans ?_
      rw [if_neg fun h => top h.2]
      rfl
  · have same : u.modCoil c Coil.owingMore = u := by
      have record : (tget u.coils c).owingMore = tget u.coils c := if_neg below
      rw [State.modCoil, tmod, record, tset_tget]
    rw [raiseOwed_of_limit (s := u.withPorts p) (not_lt.mp below), tellOverdue, if_neg fun h => below h.1, same]

/-- Each coil of a list owes one more defrost: the records of the list, and a notice for each that comes to its limit,
in its order. -/
theorem forEach_raiseOwed {l : List CoilIx} (nodup : l.Nodup) {u p : State} (agree : LinkAgrees u p) :
    forEach l (raiseOwed 1) (u.withPorts p)
      = (u.modCoils l Coil.owingMore).withPorts (l.foldl (fun p c => tellOverdue (u.coil c) c p) p) :=
  forEach_coils (g := fun _ => Coil.owingMore) raiseOwed_withPorts tellOverdue_units nodup agree

theorem mem_zoneCoils {s : State} {z : ZoneIx} {c : CoilIx} :
    c ∈ zoneCoils s z ↔ (s.coil c).loaded = true ∧ (s.coil c).zone = z := by
  simp [zoneCoils, indices]

theorem mem_unmaskedCoils {s : State} {z : ZoneIx} {c : CoilIx} :
    c ∈ unmaskedCoils s z ↔ (s.coil c).loaded = true ∧ (s.coil c).zone = z ∧ (s.coil c).mask = false := by
  simp [unmaskedCoils, mem_zoneCoils, and_assoc]

theorem unmaskedCoils_nodup (s : State) (z : ZoneIx) : (unmaskedCoils s z).Nodup :=
  ((List.nodup_finRange 16).filter _).filter _

/-! ## A zone whose selection and mark come to nothing (R100, R102) -/

theorem selectZone_of_not_due {z : ZoneIx} {s : State} (nothing : selectOnce z s = (s, false)) :
    selectZone z s = s := by
  show selectLoop (_ + 1) z s = s
  rw [selectLoop, nothing]
  rfl

/-- A zone with a coil out of COOL selects none in STAGGERED mode (R103). -/
theorem selectOnce_of_staggered {z : ZoneIx} {s : State} (mode : (s.zone z).defrostMode = .staggered) {c : CoilIx}
    (mem : c ∈ zoneCoils s z) (out : (s.coil c).phase ≠ .cool) : selectOnce z s = (s, false) := by
  have any : ((zoneCoils s z).any fun c => (s.coil c).outOfCool) = true :=
    List.any_eq_true.mpr ⟨c, mem, by simpa [Coil.outOfCool] using out⟩
  unfold selectOnce
  split
  · rw [mode]
    exact if_pos any
  · rfl

theorem reportMark_of_clear {z : ZoneIx} {s : State} (clear : ∀ r, zoneRoom? z = some r → (s.room r).hold = .clear) :
    reportMark z s = (s, false) := by
  unfold reportMark
  cases room : zoneRoom? z with
  | none => rfl
  | some r => exact if_pos (.inl (clear r room))

theorem owedChanged_of_idle {z : ZoneIx} {s : State} (clear : ∀ r, zoneRoom? z = some r → (s.room r).hold = .clear)
    (nothing : selectOnce z s = (s, false)) : owedChanged z s = s := by
  rw [owedChanged, reportMark_of_clear clear, selectZone_of_not_due nothing]

/-- The raise of a zone's coils when its hold is clear and the selection after it comes to nothing (R68, R116). -/
theorem raiseZoneOwed_of_idle {z : ZoneIx} {u p : State} (agree : LinkAgrees u p)
    (clear : ∀ r, zoneRoom? z = some r → (u.room r).hold = .clear)
    (nothing : ∀ p, selectOnce z ((u.modCoils (unmaskedCoils u z) Coil.owingMore).withPorts p)
      = ((u.modCoils (unmaskedCoils u z) Coil.owingMore).withPorts p, false)) :
    raiseZoneOwed 1 z (u.withPorts p)
      = (u.modCoils (unmaskedCoils u z) Coil.owingMore).withPorts
          ((unmaskedCoils u z).foldl (fun p c => tellOverdue (u.coil c) c p) p) := by
  have raised := forEach_raiseOwed (unmaskedCoils_nodup u z) agree
  have same : unmaskedCoils (u.withPorts p) z = unmaskedCoils u z := rfl
  rw [raiseZoneOwed, same, raised, owedChanged_of_idle ?_ (nothing _)]
  simpa only [State.withPorts_room, State.modCoils_room] using clear

end Sys2Proof.Machine
end

section
/-! SUPPORT. Quiet zones and the withdrawal of waiting commands (R42, R114, R116), with the statement O45. -/

namespace Sys2Proof.Machine

/-! ## Refusals that join in a row (R12, R42) -/

theorem repeat_apply {α : Type} (f : α → α) (n : Nat) (a : α) : Nat.repeat f n (f a) = Nat.repeat f (n + 1) a := by
  induction n with
  | zero => rfl
  | succ n ih => exact congrArg f ih

/-- Refusals behind a frame in transmission: those that find room join in order, the others are counted. -/
theorem foldl_joinRefusal (fs : List Frame) {s : State} (busy : s.trunkTx ≠ none) :
    fs.foldl (fun t f => joinRefusal f t) s
      = Nat.repeat (countEvent .trunk .overflow) (fs.length - (8 - refusalCount s))
          { s with answers := s.answers ++ (fs.take (8 - refusalCount s)).map .refusal } := by
  induction fs generalizing s with
  | nil => simp [Nat.repeat]
  | cons f fs ih =>
    by_cases full : 8 ≤ refusalCount s
    · have none_left : 8 - refusalCount s = 0 := by omega
      have same : refusalCount (countEvent .trunk .overflow s) = refusalCount s := rfl
      rw [List.foldl_cons, joinRefusal_of_full full, ih (s := countEvent .trunk .overflow s) busy, same, none_left]
      exact repeat_apply _ fs.length { s with answers := s.answers ++ [] }
    · have room : refusalCount s < 8 := not_le.mp full
      have count : refusalCount { s with answers := s.answers ++ [.refusal f] } = refusalCount s + 1 := by
        simp [refusalCount, Answer.isRefusal, Answer.isReply]
      have left : 8 - refusalCount s = 8 - (refusalCount s + 1) + 1 := by omega
      rw [List.foldl_cons, joinRefusal_of_busy room busy,
        ih (s := { s with answers := s.answers ++ [.refusal f] }) busy, count, left]
      simp

/-- The refusal of a waiting command, to its own sender (R49). -/
def withdrawal (address code reason : Byte) (w : Forwarded) : Frame :=
  { dest := w.frame.src, src := address, kind := 0x33#8, tag := w.frame.tag, payload := [code, reason, 0xFF#8] }

theorem refuseBuiltIn_eq {w : Forwarded} {code : Byte} (head : w.frame.payload.head? = some code) (why : GateReason)
    (s : State) : refuseBuiltIn w.frame why s = joinRefusal (withdrawal s.address code (byteOf why.code) w) s := by
  have first : w.frame.payload.headD 0xFF#8 = code := by rw [List.headD_eq_head?_getD, head]; rfl
  rw [refuseBuiltIn, refuseCommand, refusalFrame, first]
  rfl

theorem forEach_refuseBuiltIn {ws : List Forwarded} {code : Byte}
    (heads : ∀ w ∈ ws, w.frame.payload.head? = some code) (why : GateReason) (s : State) :
    forEach ws (fun w t => refuseBuiltIn w.frame why t) s
      = (ws.map (withdrawal s.address code (byteOf why.code))).foldl (fun t f => joinRefusal f t) s := by
  induction ws generalizing s with
  | nil => rfl
  | cons w ws ih =>
    have address : (refuseBuiltIn w.frame why s).address = s.address :=
      congrArg (fun k : Fin 8 => 0xF0#8 + byteOf k.val) (joinRefusal_portStep ..).units.strap
    rw [forEach_cons, ih (fun v mem => heads v (List.mem_cons_of_mem _ mem)), address,
      refuseBuiltIn_eq (heads w (List.mem_cons_self ..))]
    rfl

/-! ## What a withdrawal takes (R42) -/

theorem Forwarded.isCommand_iff {r : RoomIx} {a : Action} {w : Forwarded} :
    w.isCommand r a = decide (w.target = some (.door (roomPortal r)) ∧ w.frame.kind = 0x20#8
      ∧ w.frame.payload.head? = some (byteOf a.code)) := by
  exact Bool.eq_iff_iff.mpr (by simp [Forwarded.isCommand, kindActCommand, and_assoc])

/-- The withdrawal takes the matching commands out of the share and refuses each in its order. -/
theorem withdrawCommands_eq (r : RoomIx) (a : Action) (why : GateReason) (s : State) :
    withdrawCommands r a why s
      = ((s.forwarded.filter (Forwarded.isCommand r a)).map
          (withdrawal s.address (byteOf a.code) (byteOf why.code))).foldl (fun t f => joinRefusal f t)
          { s with forwarded := s.forwarded.filter fun w => !w.isCommand r a } := by
  have heads : ∀ w ∈ s.forwarded.filter (Forwarded.isCommand r a), w.frame.payload.head? = some (byteOf a.code) := by
    intro w mem
    have command := (List.mem_filter.mp mem).2
    rw [Forwarded.isCommand_iff] at command
    exact (of_decide_eq_true command).2.2
  exact forEach_refuseBuiltIn heads why _

theorem withdrawals_answered (s : State) (r : RoomIx) (a : Action) (why : GateReason) :
    let refusals := (s.forwarded.filter (Forwarded.isCommand r a)).map
      (withdrawal s.address (byteOf a.code) (byteOf why.code))
    let left : State := { s with forwarded := s.forwarded.filter fun w => !w.isCommand r a }
    let queued (room : Nat) (fs : List Frame) (t : State) : State :=
      Nat.repeat (countEvent .trunk .overflow) (fs.length - room)
        { t with answers := s.answers ++ (fs.take room).map .refusal }
    (s.trunkTx ≠ none → withdrawCommands r a why s = queued (8 - refusalCount s) refusals left)
    ∧ (s.trunkTx = none → s.answers = [] →
      (refusals = [] → withdrawCommands r a why s = left)
      ∧ ∀ f rest, refusals = f :: rest →
        withdrawCommands r a why s = queued 8 rest { left with trunkTx := some f, run := 0 }) := by
  intro refusals left queued
  have refused : withdrawCommands r a why s = refusals.foldl (fun t f => joinRefusal f t) left :=
    withdrawCommands_eq r a why s
  refine ⟨fun busy => refused.trans (foldl_joinRefusal refusals (s := left) busy), fun idle answers => ⟨?_, ?_⟩⟩
  · intro nobody
    rw [refused, nobody]
    rfl
  · intro f rest first
    have out : joinRefusal f left = { left with trunkTx := some f, run := 0 } :=
      joinRefusal_of_idle (s := left) idle answers
    have empty : refusalCount { left with trunkTx := some f, run := 0 } = 0 := by
      show (s.answers.filter _).length = 0
      rw [answers]
      rfl
    rw [refused, first, List.foldl_cons, out, foldl_joinRefusal rest (by simp), empty]

/-! ## QUIET_ENTER and QUIET_EXIT (R114, R116) -/

theorem FromManager.admits {q : Sender} {s : State} (from_ : FromManager q s) :
    Access.admits q.src .manager = true := beq_iff_eq.mpr from_.1

theorem Room.isIdle_iff {p : Room} :
    p.isIdle = true ↔ p.state = .closed ∧ p.claims = [] ∧ p.waiting = [] ∧ p.hold = .clear := by
  simp [Room.isIdle, and_assoc]

section
variable {q : Sender} {zone : Byte} {s : State}

theorem exec_quietEnter (from_ : FromManager q s) (active : s.mode = .active) :
    exec (.quietEnter q zone) s = .next ((quietEnterDecision zone s).answer q s) :=
  congrArg _ (takeRequest_of_admitted from_.2 from_.admits (by rw [active]; rfl))

theorem exec_quietExit (from_ : FromManager q s) (active : s.mode = .active) :
    exec (.quietExit q zone) s = .next ((quietExitDecision zone s).answer q s) :=
  congrArg _ (takeRequest_of_admitted from_.2 from_.admits (by rw [active]; rfl))

/-- No zone has an index above 7; zone 0 is never quiet (R114, R116). -/
theorem quiet_of_no_room :
    (7 < zone.toNat → quietEnterDecision zone s = .refused .badIndex ∧ quietExitDecision zone s = .refused .badIndex)
      ∧ (zone = 0#8 →
        quietEnterDecision zone s = .refused .badValue ∧ quietExitDecision zone s = .refused .badValue) := by
  refine ⟨fun above => ?_, fun zero => ?_⟩
  · have unknown : finOf? 8 zone.toNat = none := dif_neg (by omega)
    exact ⟨by rw [quietEnterDecision, unknown], by rw [quietExitDecision, unknown]⟩
  · subst zero
    exact ⟨rfl, rfl⟩

variable {r : RoomIx}

theorem finOf?_roomZone (index : zone.toNat = r.val + 1) : finOf? 8 zone.toNat = some (roomZone r) := by
  rw [finOf?, dif_pos (by omega)]
  exact congrArg some (Fin.ext index)

theorem zoneRoom?_roomZone (r : RoomIx) : zoneRoom? (roomZone r) = some r := by
  simp [zoneRoom?, roomZone]

/-- QUIET_ENTER of a room zone (R114). -/
theorem quietEnterDecision_of_room (index : zone.toNat = r.val + 1) :
    quietEnterDecision zone s =
      if (s.zone (roomZone r)).inUse = false then .refused .badValue
      else if (s.zone (roomZone r)).quiet then .accepted [] s
      else if !(s.room r).isIdle || (zoneCoils s (roomZone r)).any fun c => (s.coil c).outOfCool then .refused .busy
      else
        .accepted []
          (withdrawCommands r .doorOpen .zoneQuiet (s.modZone (roomZone r) fun n => { n with quiet := true })) := by
  simp only [quietEnterDecision, finOf?_roomZone index, zoneRoom?_roomZone]

/-- QUIET_EXIT of a room zone (R116). -/
theorem quietExitDecision_of_room (index : zone.toNat = r.val + 1) :
    quietExitDecision zone s =
      if (s.zone (roomZone r)).inUse = false then .refused .badValue
      else if (s.zone (roomZone r)).quiet then
        .accepted [] (raiseZoneOwed 1 (roomZone r) (s.modZone (roomZone r) fun n => { n with quiet := false }))
      else .accepted [] s := by
  have room : roomZone r ≠ 0 := Fin.succ_ne_zero r
  simp only [quietExitDecision, finOf?_roomZone index, room, false_or]

end

/-- A zone whose hold is clear and whose staggered defrost is under way: the raise is that of its coils' records and
notices (R100, R116). -/
theorem raiseZoneOwed_of_staggered {r : RoomIx} {u p : State} (agree : LinkAgrees u p)
    (clear : (u.room r).hold = .clear) (mode : (u.zone (roomZone r)).defrostMode = .staggered) {d : CoilIx}
    (mem : d ∈ zoneCoils u (roomZone r)) (out : (u.coil d).phase ≠ .cool) :
    raiseZoneOwed 1 (roomZone r) (u.withPorts p)
      = (u.modCoils (unmaskedCoils u (roomZone r)) Coil.owingMore).withPorts
          ((unmaskedCoils u (roomZone r)).foldl (fun p c => tellOverdue (u.coil c) c p) p) := by
  refine raiseZoneOwed_of_idle agree (fun r' room => ?_) fun p => ?_
  · obtain rfl := Option.some.inj ((zoneRoom?_roomZone r).symm.trans room)
    exact clear
  · refine selectOnce_of_staggered (c := d) (by simpa using mode) ?_ (by simpa using out)
    rw [mem_zoneCoils] at mem ⊢
    simpa using mem

/-- The coil is one that the raise of its zone reaches below its limit. -/
def Coil.raisedIn (z : ZoneIx) (k : Coil) : Bool :=
  k.loaded && k.zone == z && !k.mask && decide (k.owed < k.limit)

/-- That raise brings it to its limit. -/
def Coil.overdueIn (z : ZoneIx) (k : Coil) : Bool := k.raisedIn z && decide (k.owed + 1 = k.limit)

theorem foldl_tellOverdue (u : State) (z : ZoneIx) (p : State) :
    (unmaskedCoils u z).foldl (fun p c => tellOverdue (u.coil c) c p) p
      = ((List.finRange 16).filter fun c => (u.coil c).overdueIn z).foldl
          (fun p c => raiseNotice .defrostOverdue (.coil c) (BitVec.ofInt 32 (u.coil c).limit) p) p := by
  rw [unmaskedCoils, zoneCoils, List.foldl_filter, List.foldl_filter, List.foldl_filter]
  refine List.foldl_ext _ _ _ fun p c _ => ?_
  by_cases here : ((u.coil c).loaded && (u.coil c).zone == z) = true <;>
    by_cases open_ : (!(u.coil c).mask) = true <;>
    simp [Coil.overdueIn, Coil.raisedIn, tellOverdue, here, open_]

theorem coil_modCoils_unmasked (u : State) (z : ZoneIx) (c : CoilIx) :
    (u.modCoils (unmaskedCoils u z) Coil.owingMore).coil c
      = if (u.coil c).raisedIn z then
          { u.coil c with owed := (u.coil c).owed + 1, forced := (u.coil c).forced || (u.coil c).overdueIn z }
        else u.coil c := by
  rw [State.coil_modCoils]
  by_cases raised : (u.coil c).raisedIn z = true
  · have ⟨mem, below⟩ : c ∈ unmaskedCoils u z ∧ (u.coil c).owed < (u.coil c).limit := by
      rw [mem_unmaskedCoils]
      simpa [Coil.raisedIn, and_assoc] using raised
    rw [if_pos mem, if_pos raised, Coil.owingMore, if_pos below, Coil.overdueIn, raised, Bool.true_and]
  · rw [if_neg raised]
    split
    · next mem =>
      refine if_neg fun below => raised ?_
      rw [mem_unmaskedCoils] at mem
      simpa [Coil.raisedIn, and_assoc] using ⟨mem.1, mem.2.1, mem.2.2, below⟩
    · rfl

/-- Settles O45: the decisions of the two requests, the raise of the zone's coils, and what a withdrawal takes. -/
theorem quietZonesAreEnteredAndLeft : Obligations.QuietZonesAreEnteredAndLeft := by
  refine ⟨?_, ?_⟩
  · intro s q zone from_ active entered left refused
    have enters {d : Decision} (decided : quietEnterDecision zone s = d) :
        exec (.quietEnter q zone) s = .next (d.answer q s) := decided ▸ exec_quietEnter from_ active
    have leaves {d : Decision} (decided : quietExitDecision zone s = d) :
        exec (.quietExit q zone) s = .next (d.answer q s) := decided ▸ exec_quietExit from_ active
    obtain ⟨above, zero⟩ := quiet_of_no_room (zone := zone) (s := s)
    refine ⟨fun h => ⟨enters (above h).1, leaves (above h).2⟩, fun h => ⟨enters (zero h).1, leaves (zero h).2⟩, ?_⟩
    intro r index n p idle
    have enter := quietEnterDecision_of_room (s := s) index
    have exit := quietExitDecision_of_room (s := s) index
    have busy_iff : (!(s.room r).isIdle || (zoneCoils s (roomZone r)).any fun c => (s.coil c).outOfCool) = true
        ↔ ¬idle := by
      have cool : ((zoneCoils s (roomZone r)).any fun c => (s.coil c).outOfCool) = true
          ↔ ¬∀ c, (s.coil c).loaded = true → (s.coil c).zone = roomZone r → (s.coil c).phase = .cool := by
        simp [mem_zoneCoils, Coil.outOfCool, and_assoc]
      rw [Bool.or_eq_true, Bool.not_eq_true', ← Bool.not_eq_true, cool, Room.isIdle_iff, ← not_and_or]
      simp only [idle, p, and_assoc]
    refine ⟨fun unused => ⟨enters (enter.trans (if_pos unused)), leaves (exit.trans (if_pos unused))⟩,
      fun used quiet => ?_, fun used loud => ?_, fun used loud busy => ?_, fun used loud idle => ?_, ?_⟩
    · exact enters (enter.trans ((if_neg (ne_false_of_eq_true used)).trans (if_pos quiet)))
    · exact leaves (exit.trans ((if_neg (ne_false_of_eq_true used)).trans (if_neg (ne_true_of_eq_false loud))))
    · exact enters (enter.trans ((if_neg (ne_false_of_eq_true used)).trans ((if_neg (ne_true_of_eq_false loud)).trans
        (if_pos (busy_iff.mpr busy)))))
    · exact enters (enter.trans ((if_neg (ne_false_of_eq_true used)).trans ((if_neg (ne_true_of_eq_false loud)).trans
        (if_neg (mt busy_iff.mp (not_not.mpr idle))))))
    · rintro used quiet clear mode ⟨d, loaded, here, out⟩ raised overdue told
      let zoned : State := s.modZone (roomZone r) fun n => { n with quiet := false }
      have agree : LinkAgrees zoned s := ⟨rfl, rfl, fun _ _ => rfl⟩
      have zone_ : zoned.zone (roomZone r) = { s.zone (roomZone r) with quiet := false } :=
        State.zone_modZone_self ..
      have decided := exit.trans ((if_neg (ne_false_of_eq_true used)).trans (if_pos quiet))
      have raise_ := raiseZoneOwed_of_staggered (r := r) (u := zoned) agree clear (by rw [zone_]; exact mode)
        (mem_zoneCoils.mpr ⟨loaded, here⟩) out
      rw [foldl_tellOverdue] at raise_
      have units : SameUnits s told := foldl_sameUnits (fun p c => (raiseNotice_portStep ..).units) _ s
      have result : raiseZoneOwed 1 (roomZone r) zoned
          = { told with
              zones := tset s.zones (roomZone r) { n with quiet := false }
              coils := Vector.ofFn fun c =>
                if raised c then
                  { s.coil c with owed := (s.coil c).owed + 1, forced := (s.coil c).forced || overdue c }
                else s.coil c } := by
        have coils : (zoned.modCoils (unmaskedCoils zoned (roomZone r)) Coil.owingMore).coils
            = Vector.ofFn fun c => if raised c then
                { s.coil c with owed := (s.coil c).owed + 1, forced := (s.coil c).forced || overdue c }
              else s.coil c :=
          tget_ext fun c => by
            rw [tget_ofFn]
            exact coil_modCoils_unmasked zoned (roomZone r) c
        calc raiseZoneOwed 1 (roomZone r) zoned
            = (zoned.modCoils (unmaskedCoils zoned (roomZone r)) Coil.owingMore).withPorts told := raise_
          _ = { s.withPorts told with
                zones := tset s.zones (roomZone r) { n with quiet := false }
                coils := (zoned.modCoils (unmaskedCoils zoned (roomZone r)) Coil.owingMore).coils } := rfl
          _ = _ := by rw [coils, units.withPorts]
      rw [← result]
      exact leaves decided
  · rintro s r action code why reason event matching refusals left queued
    have codes : byteOf action.code = code ∧ byteOf why.code = reason := by
      rcases event with ⟨rfl, rfl, ⟨rfl, rfl⟩ | ⟨rfl, rfl⟩⟩ | ⟨rfl, rfl, rfl, rfl⟩ <;> exact ⟨rfl, rfl⟩
    obtain ⟨rfl, rfl⟩ := codes
    have command : matching = Forwarded.isCommand r action := funext fun w => Forwarded.isCommand_iff.symm
    have answered := withdrawals_answered s r action why
    rw [← command] at answered
    exact answered

end Sys2Proof.Machine
end

section
/-! SUPPORT. RESTART (R176): the coils return to COOL and the zones whose quiet flag is cleared owe one more defrost of
each coil, over ports that only the notices and the coil commands touch, with the statement O39. -/

namespace Sys2Proof.Machine

/-! ## Coils return to COOL (R117) -/

/-- A coil's record after the restart of its own; one that is not loaded stays as it is. -/
def Coil.afterRestart (m : Mode) (k : Coil) : Coil :=
  if k.loaded then Coil.restarted (m == .active) k.outOfCool k else k

/-- A loaded coil's record after the restart; no timer starts in CONFIG (R117). -/
theorem Coil.afterRestart_of_loaded {k : Coil} (loaded : k.loaded = true) (m : Mode) :
    k.afterRestart m = { k with
      phase := .cool, group := false, quietStart := false, commanded := .cool, notFollowing := false
      probeState := .none, probeValue := none, reported := .none, reportedValue := none
      reportTimer := none, phaseTimer := none
      intervalTimer := if m = .active then some (60 * k.interval) else none
      spacingTimer := if m = .active then some k.minSpacing else none
      followTimer := if k.phase = .cool then none else if m = .active then some k.follow else none } := by
  rw [Coil.afterRestart, if_pos loaded]
  cases m <;> by_cases cool : k.phase = .cool <;> simp [Coil.restarted, Coil.outOfCool, Nat.mul_comm, cool]

/-- COOL goes to a coil that was out of it (R117). -/
def tellCool (k : Coil) (c : CoilIx) (p : State) : State :=
  if k.loaded = true ∧ k.phase ≠ .cool then originate (.coil c) 0x22#8 [0#8] p else p

theorem tellCool_units (k : Coil) (c : CoilIx) (p : State) : SameUnits p (tellCool k c p) := by
  unfold tellCool
  split
  · exact (originate_portStep ..).units
  · exact SameUnits.refl p

theorem coilRestart_withPorts (c : CoilIx) (u p : State) (agree : LinkAgrees u p) :
    coilRestart c (u.withPorts p) = (u.modCoil c (Coil.afterRestart u.mode)).withPorts (tellCool (u.coil c) c p) := by
  by_cases loaded : (u.coil c).loaded = true
  · have told : (if (u.coil c).outOfCool = true then originateCoil c .cool (u.withPorts p) else u.withPorts p)
        = u.withPorts (tellCool (u.coil c) c p) := by
      by_cases cool : (u.coil c).phase = .cool
      · rw [if_neg (by simp [Coil.outOfCool, cool]), tellCool, if_neg fun h => h.2 cool]
      · rw [if_pos (by simp [Coil.outOfCool, cool]), tellCool, if_pos ⟨loaded, cool⟩]
        exact originate_withPorts agree _ _ _
    have record : Coil.restarted (u.mode == .active) (u.coil c).outOfCool (u.coil c)
        = (u.coil c).afterRestart u.mode := (if_pos loaded).symm
    calc coilRestart c (u.withPorts p)
        = State.modCoil (if (u.coil c).outOfCool = true then originateCoil c .cool (u.withPorts p) else u.withPorts p) c
            (Coil.restarted
              ((if (u.coil c).outOfCool = true then originateCoil c .cool (u.withPorts p) else u.withPorts p).mode
                == .active) (u.coil c).outOfCool) := if_pos loaded
      _ = (u.withPorts (tellCool (u.coil c) c p)).modCoil c
            (Coil.restarted (u.mode == .active) (u.coil c).outOfCool) := by rw [told]; rfl
      _ = _ := congrArg (fun k => ({ u with coils := tset u.coils c k } : State).withPorts _) record
  · have same : u.modCoil c (Coil.afterRestart u.mode) = u := by
      have record : (tget u.coils c).afterRestart u.mode = tget u.coils c := if_neg loaded
      rw [State.modCoil, tmod, record, tset_tget]
    refine (if_neg loaded).trans ?_
    rw [tellCool, if_neg fun h => loaded h.1, same]

theorem forEach_coilRestart {u p : State} (agree : LinkAgrees u p) :
    forEach (indices 16) coilRestart (u.withPorts p)
      = (u.modCoils (indices 16) (Coil.afterRestart u.mode)).withPorts
          ((indices 16).foldl (fun p c => tellCool (u.coil c) c p) p) :=
  forEach_coils coilRestart_withPorts tellCool_units (List.nodup_finRange 16) agree

/-! ## A state in which no defrost is asked for (R91, R102) -/

/-- No hold is asked for, and in ACTIVE every loaded coil is in COOL and waits for its spacing. -/
structure Settled (s : State) : Prop where
  holds : ∀ r, (s.room r).hold = .clear
  coils : s.mode = .active → ∀ c, (s.coil c).loaded = true →
    (s.coil c).phase = .cool ∧ (s.coil c).spacingTimer.isNone = false

theorem selectOnce_of_settled {s : State} (h : Settled s) (z : ZoneIx) : selectOnce z s = (s, false) := by
  unfold selectOnce
  split
  · next acting =>
    have spaced {c : CoilIx} (mem : c ∈ zoneCoils s z) : (s.coil c).spacingTimer.isNone = false :=
      (h.coils acting.1 c (mem_zoneCoils.mp mem).1).2
    cases (s.zone z).defrostMode with
    | staggered =>
      have nobody (quiet : Bool) : ((pointerOrder s z).find? fun c => (s.coil c).eligible quiet) = none := by
        refine List.find?_eq_none.mpr fun c mem => ?_
        have mem' : c ∈ zoneCoils s z := by
          rcases List.mem_append.mp mem with mem | mem <;> exact (List.mem_filter.mp mem).1
        simp [Coil.eligible, spaced mem']
      simp [selectStaggered, nobody]
    | all =>
      have nobody (quiet : Bool) : ((((zoneCoils s z).filter fun c => !(s.coil c).mask).all fun c =>
            (s.coil c).phase == .cool && (s.coil c).spacingTimer.isNone) && (groupMembers s z).isEmpty
          && ((zoneCoils s z).filter fun c => !(s.coil c).mask).any fun c => (s.coil c).wants quiet) = false := by
        by_contra ready
        simp only [Bool.not_eq_false, Bool.and_eq_true, List.any_eq_true, List.all_eq_true] at ready
        obtain ⟨⟨all, -⟩, c, mem, -⟩ := ready
        exact absurd (all c mem).2 (by simp [spaced (List.mem_filter.mp mem).1])
      exact if_neg (ne_true_of_eq_false (nobody _))
  · rfl

/-- A raise changes of the records one coil's owed count and forced flag. -/
theorem raiseOwed_eq (c : CoilIx) (s : State) : ∃ p, raiseOwed 1 c s = (s.modCoil c Coil.owingMore).withPorts p :=
  ⟨_, raiseOwed_withPorts c s s (LinkAgrees.refl s)⟩

theorem raiseOwed_keeps {α : Type} {π : Coil → α} (keeps : ∀ k, π k.owingMore = π k) (c : CoilIx) (s : State)
    (d : CoilIx) : π ((raiseOwed 1 c s).coil d) = π (s.coil d) := by
  obtain ⟨p, eq⟩ := raiseOwed_eq c s
  rw [eq, State.withPorts_coil, State.coil_modCoil]
  split
  · next same => rw [keeps, same]
  · rfl

theorem Settled.raiseOwed {s : State} (h : Settled s) (c : CoilIx) : Settled (raiseOwed 1 c s) := by
  refine ⟨fun r => ?_, fun active d loaded => ?_⟩
  · obtain ⟨p, eq⟩ := raiseOwed_eq c s
    rw [eq]
    exact h.holds r
  · rw [raiseOwed_keeps Coil.owingMore_loaded] at loaded
    rw [raiseOwed_keeps Coil.owingMore_phase, raiseOwed_keeps Coil.owingMore_spacingTimer]
    obtain ⟨p, eq⟩ := raiseOwed_eq c s
    rw [eq] at active
    exact h.coils active d loaded

theorem unmaskedCoils_raiseOwed (c : CoilIx) (s : State) (z : ZoneIx) :
    unmaskedCoils (raiseOwed 1 c s) z = unmaskedCoils s z := by
  simp only [unmaskedCoils, zoneCoils, raiseOwed_keeps Coil.owingMore_loaded, raiseOwed_keeps Coil.owingMore_zone,
    raiseOwed_keeps Coil.owingMore_mask]

theorem Settled.forEach_raiseOwed {s : State} (h : Settled s) (l : List CoilIx) :
    Settled (forEach l (Machine.raiseOwed 1) s) ∧
      ∀ z, unmaskedCoils (forEach l (Machine.raiseOwed 1) s) z = unmaskedCoils s z := by
  induction l generalizing s with
  | nil => exact ⟨h, fun _ => rfl⟩
  | cons c l ih =>
    obtain ⟨settled, coils⟩ := ih (h.raiseOwed c)
    exact ⟨settled, fun z => (coils z).trans (unmaskedCoils_raiseOwed c s z)⟩

/-- In a settled state a raise of a zone's coils is followed by nothing (R100, R102). -/
theorem raiseZoneOwed_of_settled {s : State} (h : Settled s) (z : ZoneIx) :
    raiseZoneOwed 1 z s = forEach (unmaskedCoils s z) (raiseOwed 1) s :=
  have settled := (h.forEach_raiseOwed (unmaskedCoils s z)).1
  owedChanged_of_idle (fun r _ => settled.holds r) (selectOnce_of_settled settled z)

theorem forEach_raiseZoneOwed {s : State} (h : Settled s) (zones : List ZoneIx) :
    forEach zones (raiseZoneOwed 1) s = forEach (zones.flatMap (unmaskedCoils s)) (raiseOwed 1) s := by
  induction zones generalizing s with
  | nil => rfl
  | cons z zones ih =>
    obtain ⟨settled, coils⟩ := h.forEach_raiseOwed (unmaskedCoils s z)
    rw [forEach_cons, raiseZoneOwed_of_settled h, ih settled, funext coils, List.flatMap_cons, forEach_append]

theorem nodup_flatMap_unmasked {zones : List ZoneIx} (nodup : zones.Nodup) (s : State) :
    (zones.flatMap (unmaskedCoils s)).Nodup := by
  refine List.nodup_flatMap.mpr ⟨fun z _ => unmaskedCoils_nodup s z, nodup.imp fun {y z} apart => ?_⟩
  intro c my mz
  exact apart ((mem_unmaskedCoils.mp my).2.1.symm.trans (mem_unmaskedCoils.mp mz).2.1)

/-! ## The whole restart (R176) -/

/-- The ports and the notice unit after their own restart, RESTARTED raised (R15, R165, R169). -/
def restartTold (s : State) : State := noticesRestart (portsRestart s)

theorem restartTold_eq (s : State) :
    restartTold s = raiseNotice .restarted .none (BitVec.ofNat 32 s.moves.length)
      { s with
        uplink := [], forwarded := [], originated := [], answers := [], run := 0, notices := []
        lost := s.lost || decide (s.notices ≠ []) } := by
  have held : (!s.notices.isEmpty) = decide (s.notices ≠ []) := by cases s.notices <;> rfl
  rw [restartTold, noticesRestart]
  show raiseNotice _ _ _ { portsRestart s with notices := [], lost := s.lost || !s.notices.isEmpty } = _
  rw [held]
  rfl

theorem restartTold_units (s : State) : SameUnits s (restartTold s) :=
  SameUnits.trans (b := { portsRestart s with notices := [], lost := s.lost || !s.notices.isEmpty })
    (by constructor <;> rfl) (raiseNotice_portStep ..).units

/-- The records after the restarts of the classifier, the temperature and the portal unit (R16, R71, R94). -/
def restartUnits (s : State) : State := portalRestart (temperatureRestart (classifierRestart s))

theorem restartUnits_entry (s : State) (e : Fin 128) :
    (restartUnits s).entry e = { s.entry e with stored := none } := tget_tmap ..

theorem restartUnits_room (s : State) (r : RoomIx) : (restartUnits s).room r = (s.room r).fresh := tget_tmap ..

theorem restartUnits_agrees (s : State) : LinkAgrees (restartUnits s) s := by
  refine ⟨rfl, rfl, fun kind b => ?_⟩
  have found : tfind (ClassEntry.addresses kind b) (restartUnits s).classTable
      = tfind (ClassEntry.addresses kind b) s.classTable :=
    congrArg (fun p => (indices 128).find? p) <| funext fun e => by
      show ClassEntry.addresses kind b ((restartUnits s).entry e) = _
      rw [restartUnits_entry]
      rfl
  rw [addressOf?_eq, addressOf?_eq, found]
  simp only [restartUnits_entry]

/-- The coils after their restart. -/
def restartCoils (s : State) : State :=
  (restartUnits s).modCoils (indices 16) (Coil.afterRestart s.mode)

theorem restartCoils_coil (s : State) (c : CoilIx) : (restartCoils s).coil c = (s.coil c).afterRestart s.mode :=
  (State.coil_modCoils ..).trans (if_pos (List.mem_finRange c))

theorem restartCoils_mode (s : State) : (restartCoils s).mode = s.mode := by
  rw [restartCoils, State.modCoils_mode]
  rfl

theorem settled_restartCoils (s p : State) : Settled ((restartCoils s).withPorts p) := by
  refine ⟨fun r => ?_, fun active c loaded => ?_⟩
  · rw [State.withPorts_room, restartCoils, State.modCoils_room, restartUnits_room]
    rfl
  · have active' : s.mode = .active := by rwa [State.withPorts_mode, restartCoils_mode] at active
    rw [State.withPorts_coil, restartCoils_coil, Coil.afterRestart] at loaded ⊢
    split at loaded
    · next was =>
      rw [if_pos was, active']
      exact ⟨rfl, rfl⟩
    · next was => exact absurd loaded was

/-- The coils that owe one more defrost: the unmasked coils of the zones whose quiet flag is cleared (R117). -/
def restartOwing (s : State) : List CoilIx := (quietZones s).flatMap (unmaskedCoils (restartCoils s))

/-- The ports when the coils have their COOL. -/
def restartCooled (s : State) : State :=
  (indices 16).foldl (fun p c => tellCool (s.coil c) c p) (restartTold s)

/-- The ports when the overdue coils are told. -/
def restartEnded (s : State) : State :=
  (restartOwing s).foldl (fun p c => tellOverdue ((restartCoils s).coil c) c p) (restartCooled s)

theorem schedulerRestart_eq (s : State) :
    schedulerRestart (quietZones s) ((restartUnits s).withPorts (restartTold s))
      = ((restartCoils s).modCoils (restartOwing s) Coil.owingMore).withPorts (restartEnded s) := by
  have agree : LinkAgrees (restartUnits s) (restartTold s) :=
    (restartUnits_agrees s).of_sameUnits (restartTold_units s)
  have cooled : forEach (indices 16) coilRestart ((restartUnits s).withPorts (restartTold s))
      = (restartCoils s).withPorts (restartCooled s) := forEach_coilRestart agree
  have agree' : LinkAgrees (restartCoils s) (restartCooled s) :=
    LinkAgrees.of_sameUnits ⟨agree.strap, agree.count, agree.addresses⟩
      (foldl_sameUnits (fun p c => tellCool_units ..) _ _)
  have nodup : (restartOwing s).Nodup :=
    nodup_flatMap_unmasked ((List.nodup_finRange 8).filter _) (restartCoils s)
  rw [schedulerRestart, cooled, forEach_raiseZoneOwed (settled_restartCoils s _)]
  exact forEach_raiseOwed nodup agree'

/-- The restart: the records of every unit over the ports that the notices and the coil commands leave. -/
theorem restarted_eq (s : State) :
    restarted s = { shuttleRestart (palletRestart
      (((restartCoils s).modCoils (restartOwing s) Coil.owingMore).withPorts (restartEnded s))) with moves := [] } := by
  have units : portalRestart (temperatureRestart (classifierRestart (restartTold s)))
      = (restartUnits s).withPorts (restartTold s) :=
    (congrArg (fun t => portalRestart (temperatureRestart (classifierRestart t)))
      (restartTold_units s).withPorts).symm
  rw [← schedulerRestart_eq, ← units]
  rfl

/-! ## What the restart leaves in the queues (R15) -/

/-- No frame from the trunk or the field, and no answer, waits. -/
structure NoFrameWaits (s : State) : Prop where
  uplink : s.uplink = []
  forwarded : s.forwarded = []
  answers : s.answers = []

section
variable {s : State}

theorem NoFrameWaits.sendNotice (h : NoFrameWaits s) (n : Notice) : NoFrameWaits (sendNotice n s) :=
  ⟨h.uplink, h.forwarded, h.answers⟩

theorem NoFrameWaits.trunkForwardStep (h : NoFrameWaits s) : NoFrameWaits (trunkForwardStep s) := by
  unfold Machine.trunkForwardStep
  rw [h.uplink]
  cases s.notices.find? fun n => !n.isAlarm with
  | some n => exact h.sendNotice n
  | none => exact h

theorem NoFrameWaits.kickTrunk (h : NoFrameWaits s) : NoFrameWaits (kickTrunk s) := by
  unfold Machine.kickTrunk trunkChoose
  rw [h.answers]
  split
  · exact h
  · dsimp only
    split
    · exact h.sendNotice _
    · split
      · split
        · exact h.sendNotice _
        · exact h.trunkForwardStep
      · exact h.trunkForwardStep

theorem NoFrameWaits.kickField (h : NoFrameWaits s) : NoFrameWaits (kickField s) := by
  unfold Machine.kickField fieldChoose
  rw [h.forwarded]
  split
  · exact h
  · split
    · exact ⟨h.uplink, rfl, h.answers⟩
    · exact h

theorem NoFrameWaits.raiseNotice (h : NoFrameWaits s) (k : NoticeKind) (o : NoticeObj) (v : Quad) :
    NoFrameWaits (raiseNotice k o v s) := by
  have kept (q : List Notice) (lost : Bool) : NoFrameWaits { s with notices := q, lost := lost } :=
    ⟨h.uplink, h.forwarded, h.answers⟩
  unfold Machine.raiseNotice offerNotice
  split
  · exact kept _ _
  · split
    · exact (kept _ _).kickTrunk
    · split
      · exact (kept _ _).kickTrunk
      · exact kept _ _

theorem NoFrameWaits.originate (h : NoFrameWaits s) (o : OrigObj) (kind : Byte) (payload : List Byte) :
    NoFrameWaits (originate o kind payload s) := by
  have kept (q : List Originated) : NoFrameWaits { s with originated := q } := ⟨h.uplink, h.forwarded, h.answers⟩
  unfold Machine.originate fillPosition
  split
  · split
    · exact kept _
    · exact (kept _).kickField
  · exact h.raiseNotice ..

theorem NoFrameWaits.foldl {α : Type} {f : State → α → State} (keeps : ∀ p a, NoFrameWaits p → NoFrameWaits (f p a))
    (h : NoFrameWaits s) (l : List α) : NoFrameWaits (l.foldl f s) := by
  induction l generalizing s with
  | nil => exact h
  | cons a l ih => exact ih (keeps _ _ h)

end

theorem noFrameWaits_restartEnded (s : State) : NoFrameWaits (restartEnded s) := by
  have told : NoFrameWaits (restartTold s) := by
    rw [restartTold_eq]
    exact NoFrameWaits.raiseNotice ⟨rfl, rfl, rfl⟩ ..
  have cooled : NoFrameWaits (restartCooled s) := told.foldl (fun p c h => by
    unfold tellCool
    split
    · exact h.originate ..
    · exact h) _
  refine cooled.foldl (fun p c h => ?_) _
  unfold tellOverdue
  split
  · exact h.raiseNotice ..
  · exact h

/-! ## The coils that owe one more (R71, R117) -/

section
variable (m : Mode) (k : Coil)

@[simp] theorem Coil.afterRestart_loaded : (k.afterRestart m).loaded = k.loaded := by
  unfold Coil.afterRestart; split <;> rfl
@[simp] theorem Coil.afterRestart_zone : (k.afterRestart m).zone = k.zone := by
  unfold Coil.afterRestart; split <;> rfl
@[simp] theorem Coil.afterRestart_mask : (k.afterRestart m).mask = k.mask := by
  unfold Coil.afterRestart; split <;> rfl
@[simp] theorem Coil.afterRestart_owed : (k.afterRestart m).owed = k.owed := by
  unfold Coil.afterRestart; split <;> rfl
@[simp] theorem Coil.afterRestart_limit : (k.afterRestart m).limit = k.limit := by
  unfold Coil.afterRestart; split <;> rfl
@[simp] theorem Coil.afterRestart_forced : (k.afterRestart m).forced = k.forced := by
  unfold Coil.afterRestart; split <;> rfl

end

theorem mem_quietZones {s : State} {z : ZoneIx} :
    z ∈ quietZones s ↔ (s.zone z).inUse = true ∧ (s.zone z).quiet = true := by
  simp [quietZones, indices]

theorem mem_restartOwing {s : State} {c : CoilIx} :
    c ∈ restartOwing s ↔ (s.coil c).loaded = true ∧ (s.coil c).mask = false
      ∧ (s.zone (s.coil c).zone).inUse = true ∧ (s.zone (s.coil c).zone).quiet = true := by
  simp only [restartOwing, List.mem_flatMap, mem_quietZones, mem_unmaskedCoils, restartCoils_coil,
    Coil.afterRestart_loaded, Coil.afterRestart_zone, Coil.afterRestart_mask]
  constructor
  · rintro ⟨z, ⟨used, quiet⟩, loaded, rfl, open_⟩
    exact ⟨loaded, open_, used, quiet⟩
  · rintro ⟨loaded, open_, used, quiet⟩
    exact ⟨_, ⟨used, quiet⟩, loaded, rfl, open_⟩

/-- The notices of the overdue coils, zone by zone and coil by coil. -/
theorem restartEnded_eq (s : State) :
    restartEnded s = (List.finRange 8).foldl (fun t z => (List.finRange 16).foldl
      (fun t c => if (s.coil c).zone = z ∧ c ∈ restartOwing s ∧ (s.coil c).owed < (s.coil c).limit
          ∧ (s.coil c).owed + 1 = (s.coil c).limit then
        raiseNotice .defrostOverdue (.coil c) (BitVec.ofInt 32 (s.coil c).limit) t else t) t) (restartCooled s) := by
  rw [restartEnded]
  conv_lhs => rw [restartOwing]
  rw [List.foldl_flatMap, quietZones, List.foldl_filter]
  refine List.foldl_ext _ _ _ fun p z _ => ?_
  by_cases quiet : ((s.zone z).inUse && (s.zone z).quiet) = true
  · rw [if_pos quiet, unmaskedCoils, zoneCoils, List.foldl_filter, List.foldl_filter]
    refine List.foldl_ext _ _ _ fun p c _ => ?_
    simp only [restartCoils_coil, Coil.afterRestart_loaded, Coil.afterRestart_zone, Coil.afterRestart_mask, tellOverdue,
      Coil.afterRestart_owed, Coil.afterRestart_limit, mem_restartOwing, ← ite_and]
    rw [Bool.and_eq_true] at quiet
    refine if_congr ?_ rfl rfl
    rw [Bool.and_eq_true, Bool.not_eq_true', beq_iff_eq]
    constructor
    · rintro ⟨⟨loaded, rfl⟩, open_, overdue⟩
      exact ⟨rfl, ⟨loaded, open_, quiet⟩, overdue⟩
    · rintro ⟨here, ⟨loaded, open_, -⟩, overdue⟩
      exact ⟨⟨loaded, here⟩, open_, overdue⟩
  · rw [if_neg quiet]
    refine (List.foldl_fixed' (fun c => if_neg ?_) _).symm
    rintro ⟨rfl, owing, -⟩
    exact quiet (by simpa using (mem_restartOwing.mp owing).2.2)

section
variable (s : State)

/-- Every record that the restart changes, and no other; the ports are those the scheduler leaves. -/
theorem restarted_fields :
    restarted s = { s.withPorts (restartEnded s) with
      classTable := tmap (fun e => { e with stored := none }) s.classTable
      probes := tmap (Probe.fresh (s.mode == .active)) s.probes
      zones := tmap Zone.restarted s.zones
      docks := tmap Dock.fresh s.docks
      rooms := tmap Room.fresh s.rooms
      coils := ((restartCoils s).modCoils (restartOwing s) Coil.owingMore).coils
      lanes := tmap (fun l => { l with reserved := 0 }) s.lanes
      pallets := tmap (Option.map Pallet.heldNow) s.pallets
      shuttles := tmap Shuttle.fresh s.shuttles
      moves := [] } := by
  rw [restarted_eq]
  simp only [shuttleRestart, palletRestart, State.modCoils, restartCoils, restartUnits, portalRestart,
    temperatureRestart, classifierRestart, State.withPorts]

theorem restarted_entry (e : Fin 128) : (restarted s).entry e = { s.entry e with stored := none } := by
  rw [restarted_fields]
  exact tget_tmap ..

theorem restarted_probe (i : ProbeIx) : (restarted s).probe i = (s.probe i).fresh (s.mode == .active) := by
  rw [restarted_fields]
  exact tget_tmap ..

theorem restarted_zone (z : ZoneIx) : (restarted s).zone z = (s.zone z).restarted := by
  rw [restarted_fields]
  exact tget_tmap ..

theorem restarted_dock (p : DockIx) : (restarted s).dock p = (s.dock p).fresh := by
  rw [restarted_fields]
  exact tget_tmap ..

theorem restarted_room (r : RoomIx) : (restarted s).room r = (s.room r).fresh := by
  rw [restarted_fields]
  exact tget_tmap ..

theorem restarted_lane (l : LaneIx) : (restarted s).lane l = { s.lane l with reserved := 0 } := by
  rw [restarted_fields]
  exact tget_tmap ..

theorem restarted_pallet (i : PalletIx) : (restarted s).pallet i = (s.pallet i).map Pallet.heldNow := by
  rw [restarted_fields]
  exact tget_tmap ..

theorem restarted_shuttle (u : ShuttleIx) : (restarted s).shuttle u = (s.shuttle u).fresh := by
  rw [restarted_fields]
  exact tget_tmap ..

/-- A coil after the whole restart. -/
theorem restarted_coil (c : CoilIx) :
    (restarted s).coil c = if c ∈ restartOwing s then ((s.coil c).afterRestart s.mode).owingMore
      else (s.coil c).afterRestart s.mode := by
  rw [restarted_fields]
  show ((restartCoils s).modCoils (restartOwing s) Coil.owingMore).coil c = _
  rw [State.coil_modCoils, restartCoils_coil]

end

/-- Settles O39: the restart's records unit by unit, over the ports that its notices and coil commands leave. -/
theorem restartEmptiesAndReturns : Obligations.RestartEmptiesAndReturns := by
  intro s q from_ told cooled raised overdue ended running
  have told_eq : told = restartTold s := (restartTold_eq s).symm
  have cooled_eq : cooled = restartCooled s := by rw [restartCooled, ← told_eq]; rfl
  have raised_iff (c : CoilIx) : raised c ↔ c ∈ restartOwing s ∧ (s.coil c).owed < (s.coil c).limit := by
    simp only [raised, mem_restartOwing, and_assoc]
  have ended_eq : ended = restartEnded s := by
    rw [restartEnded_eq, ← cooled_eq]
    simp only [ended, overdue, raised_iff, and_assoc]
  have runs (n : Nat) : (if (s.mode == .active) = true then some n else none) = running n :=
    if_congr beq_iff_eq rfl rfl
  have waits := noFrameWaits_restartEnded s
  refine ⟨restarted s, congrArg _ (takeRequest_of_admitted from_.2 from_.admits (by cases s.mode <;> rfl)), ?_,
    ?_, ?_, ?_, ?_, ?_, ?_, ?_, ?_, ?_, ?_, ?_, ?_⟩
  · rw [ended_eq, restarted_fields]
  · rw [restarted_fields]
    exact waits.uplink
  · rw [restarted_fields]
    exact waits.forwarded
  · rw [restarted_fields]
    exact waits.answers
  · exact restarted_entry s
  · intro i
    rw [restarted_probe, Probe.fresh, runs]
  · exact restarted_zone s
  · exact restarted_dock s
  · exact restarted_room s
  · intro c k
    have record := restarted_coil s c
    have kept (loaded : k.loaded = true) : (restarted s).coil c = { k.afterRestart s.mode with
        owed := ((restarted s).coil c).owed, forced := ((restarted s).coil c).forced } := by
      rw [record]
      split
      · exact Coil.owingMore_eq _
      · rfl
    refine ⟨fun unloaded => ?_, fun loaded => ?_, fun h => ?_, fun h => ?_, ?_⟩
    · have free : c ∉ restartOwing s := fun owing =>
        ne_true_of_eq_false unloaded (mem_restartOwing.mp owing).1
      rw [record, if_neg free]
      exact if_neg (ne_true_of_eq_false unloaded)
    · refine (kept loaded).trans ?_
      rw [Coil.afterRestart_of_loaded loaded]
    · obtain ⟨owing, below⟩ := (raised_iff c).mp h
      rw [record, if_pos owing, Coil.owingMore_owed, Coil.afterRestart_owed, Coil.afterRestart_limit, if_pos below]
    · rw [record]
      split
      · next owing =>
        rw [Coil.owingMore_owed, Coil.afterRestart_owed, Coil.afterRestart_limit,
          if_neg fun below => h ((raised_iff c).mpr ⟨owing, below⟩)]
      · exact Coil.afterRestart_owed ..
    · have overdue_iff : overdue c ↔ c ∈ restartOwing s ∧ k.owed < k.limit ∧ k.owed + 1 = k.limit :=
        (and_congr_left fun _ => raised_iff c).trans and_assoc
      refine Iff.trans ?_ (or_congr_right overdue_iff).symm
      rw [record]
      split
      · next owing =>
        rw [Coil.owingMore_forced, Coil.afterRestart_forced, Coil.afterRestart_owed, Coil.afterRestart_limit]
        simp [owing, k]
      · next owing => simp [owing, k]
  · exact restarted_lane s
  · intro i
    rw [restarted_pallet]
    refine Option.map_congr fun p _ => ?_
    unfold Pallet.heldNow
    split
    · rfl
    · rfl
  · exact restarted_shuttle s

end Sys2Proof.Machine
end

section
/-! SUPPORT. Reads (R7, R169, R171): a read leaves all but the answer, its content goes by parts, and the layouts of the
records, with the statement O35. -/

namespace Sys2Proof.Machine

/-! ## A read changes nothing but the answer -/

/-- A decision that leaves the state as it is. -/
def Decision.Reads (s : State) (d : Decision) : Prop :=
  (∃ r, d = .refused r) ∨ ∃ fields, d = .accepted fields s

theorem joinReply_sameButAnswer (f : Frame) (s : State) : SameButAnswer s (joinReply f s) := by
  cases tx : s.trunkTx with
  | some g =>
    rw [joinReply, kickTrunk_of_busy (s := { s with answers := s.answers ++ [.reply f] }) (by simp [tx])]
    exact rfl
  | none =>
    obtain ⟨a, rest, waits⟩ := List.exists_cons_of_ne_nil
      (List.append_ne_nil_of_right_ne_nil s.answers (List.cons_ne_nil (Answer.reply f) []))
    rw [joinReply, kickTrunk_of_idle (s := { s with answers := s.answers ++ [.reply f] }) tx,
      trunkChoose_of_answer (s := { s with answers := s.answers ++ [.reply f] }) waits]
    exact rfl

theorem takeRequest_of_read {q : Sender} {a : Access} {m : Modes} {own : State → Decision} {s : State}
    (access : a.admits q.src = true) (mode : m.admits s.mode = true) (reads : (own s).Reads s) :
    SameButAnswer s (takeRequest q true a m own s) := by
  by_cases full : 4 ≤ replyCount s
  · rw [takeRequest_of_full full]
    exact rfl
  · rw [takeRequest_of_admitted (not_le.mp full) access mode]
    rcases reads with ⟨r, h⟩ | ⟨fields, h⟩
    · rw [h]
      exact joinReply_sameButAnswer _ _
    · rw [h]
      exact joinReply_sameButAnswer _ _

theorem readReply_reads (content : List Byte) (part : Nat) (s : State) : (readReply content part s).Reads s := by
  unfold readReply
  split
  · split
    · exact .inr ⟨_, rfl⟩
    · exact .inl ⟨_, rfl⟩
  · split
    · exact .inr ⟨_, rfl⟩
    · exact .inl ⟨_, rfl⟩

theorem readEntryDecision_reads (table index part : Nat) (s : State) :
    (readEntryDecision table index part s).Reads s := by
  unfold readEntryDecision
  split
  · exact .inl ⟨_, rfl⟩
  · split
    · exact .inl ⟨_, rfl⟩
    · exact readReply_reads ..

theorem readObjectDecision_reads (objType : Nat) (key : Quad) (part : Nat) (s : State) :
    (readObjectDecision objType key part s).Reads s := by
  have refuses (r : Reason) : Decision.Reads s (.refused r) := .inl ⟨r, rfl⟩
  have replies := fun content => readReply_reads content part s
  unfold readObjectDecision
  cases objType? objType with
  | none => exact refuses _
  | some t =>
    cases t with
    | none => exact refuses _
    | zone | probe | coil | lane | shuttle =>
      dsimp only
      split
      · exact replies _
      · exact refuses _
    | portal =>
      dsimp only
      cases finOf? 23 key.toNat with
      | none => exact refuses _
      | some p =>
        dsimp only
        cases portalKind p with
        | inl d => exact replies _
        | inr r => exact replies _
    | pallet =>
      dsimp only
      cases palletIx? s key with
      | none => exact refuses _
      | some j =>
        dsimp only
        cases s.pallet j with
        | none => exact refuses _
        | some p => exact replies _
    | move =>
      dsimp only
      cases finOf? 24 key.toNat with
      | none => exact refuses _
      | some m =>
        dsimp only
        cases s.move? m with
        | none => exact refuses _
        | some r => exact replies _

/-! ## Parts (R169) -/

section
variable {content : List Byte} {part : Nat} {s : State}

theorem readReply_of_whole (short : content.length ≤ 62) :
    (part = 0 → readReply content part s = .accepted content s)
      ∧ (part ≠ 0 → readReply content part s = .refused .badValue) := by
  rw [readReply, if_pos short]
  exact ⟨fun h => if_pos h, fun h => if_neg h⟩

theorem readReply_of_parts (long : 62 < content.length) :
    (part < (content.length + 59) / 60 → readReply content part s
        = .accepted (byteOf part :: byteOf ((content.length + 59) / 60) :: (content.drop (60 * part)).take 60) s)
      ∧ ((content.length + 59) / 60 ≤ part → readReply content part s = .refused .badValue) := by
  rw [readReply, if_neg (not_le.mpr long)]
  exact ⟨fun h => if_pos h, fun h => if_neg (not_lt.mpr h)⟩

end

/-! ## Which record a read names (R171) -/

theorem finOf?_val {n : Nat} (i : Fin n) : finOf? n i.val = some i := dif_pos i.isLt

theorem finOf?_above {n i : Nat} (above : n ≤ i) : finOf? n i = none := dif_neg (not_lt.mpr above)

theorem toNat_byteOf {n : Nat} (small : n < 256) : (byteOf n).toNat = n := by
  rw [byteOf, BitVec.toNat_ofNat, Nat.mod_eq_of_lt small]

theorem toNat_key {n : Nat} (small : n < 256) : (BitVec.ofNat 32 n).toNat = n := by
  rw [BitVec.toNat_ofNat, Nat.mod_eq_of_lt (small.trans (by decide))]

theorem portalKind_dock (p : DockIx) (lt : p.val < 23) : portalKind ⟨p.val, lt⟩ = .inl p := by
  simp [portalKind]

theorem portalKind_room (r : RoomIx) (lt : 16 + r.val < 23) : portalKind ⟨16 + r.val, lt⟩ = .inr r := by
  simp [portalKind]

theorem table?_code (t : Table) : table? t.code = some t := by cases t <;> rfl

theorem table?_unknown {n : Nat} (unknown : n = 0 ∨ 9 < n) : table? n = none := by
  rcases unknown with rfl | above
  · rfl
  · obtain ⟨k, rfl⟩ := Nat.exists_eq_add_of_lt above
    rw [Nat.add_right_comm, Nat.add_comm _ k]
    rfl

theorem objType?_unknown {n : Nat} (unknown : 8 < n) : objType? n = none := by
  obtain ⟨k, rfl⟩ := Nat.exists_eq_add_of_lt unknown
  rw [Nat.add_right_comm, Nat.add_comm _ k]
  rfl

theorem tableContent_above {t : Table} {index : Nat} (above : t.entries ≤ index) (s : State) :
    tableContent t index s = none := by
  cases t <;> exact congrArg (Option.map _) (finOf?_above above)

/-- READ_ENTRY of a table's record (R171). -/
theorem readEntryDecision_of_content {t : Table} {index : Nat} {content : List Byte} {s : State}
    (found : tableContent t index s = some content) (part : Nat) :
    readEntryDecision t.code index part s = readReply content part s := by
  simp only [readEntryDecision, table?_code, found]

theorem readEntryDecision_of_unknown {table : Nat} (unknown : table = 0 ∨ 9 < table) (index part : Nat) (s : State) :
    readEntryDecision table index part s = .refused .badTable := by
  simp only [readEntryDecision, table?_unknown unknown]

theorem readEntryDecision_of_above {t : Table} {index : Nat} (above : t.entries ≤ index) (part : Nat) (s : State) :
    readEntryDecision t.code index part s = .refused .badIndex := by
  simp only [readEntryDecision, table?_code, tableContent_above above]

section
variable {q : Sender} {s : State}

theorem exec_readEntry (room : replyCount s < 4) (table index part : Byte) :
    exec (.readEntry q table index part) s
      = .next ((readEntryDecision table.toNat index.toNat part.toNat s).answer q s) :=
  congrArg _ (takeRequest_of_admitted room rfl rfl)

theorem exec_readObject (room : replyCount s < 4) (objType : Byte) (key : Quad) (part : Byte) :
    exec (.readObject q objType key part) s
      = .next ((readObjectDecision objType.toNat key part.toNat s).answer q s) :=
  congrArg _ (takeRequest_of_admitted room rfl rfl)

end

section
variable (s : State)

theorem tableContent_entry (i : Fin 128) : tableContent .classification i.val s
    = some (entryContent (s.entry i).config (s.entry i).loaded (s.entry i).runtime) :=
  congrArg (Option.map _) (finOf?_val i)

theorem tableContent_condition (i : Fin 64) : tableContent .condition i.val s
    = some (entryContent (s.condition i).config (s.condition i).loaded (s.condition i).runtime) :=
  congrArg (Option.map _) (finOf?_val i)

theorem tableContent_probe (i : ProbeIx) : tableContent .probe i.val s
    = some (entryContent (s.probe i).config (s.probe i).loaded (s.probe i).runtime) :=
  congrArg (Option.map _) (finOf?_val i)

theorem tableContent_zone (z : ZoneIx) : tableContent .zone z.val s
    = some (entryContent ((s.zone z).config z s.policy) (s.zone z).loaded (s.zone z).runtime) :=
  congrArg (Option.map _) (finOf?_val z)

theorem tableContent_dock (p : DockIx) : tableContent .portal p.val s
    = some (entryContent (s.dock p).config (s.dock p).loaded (s.dock p).runtime) := by
  rw [tableContent, finOf?_val (n := 23) ⟨p.val, by omega⟩, Option.map_some, portalKind_dock]

theorem tableContent_room (r : RoomIx) : tableContent .portal (16 + r.val) s
    = some (entryContent ((s.room r).config r) (s.room r).loaded (s.room r).runtime) := by
  rw [tableContent, finOf?_val (n := 23) ⟨16 + r.val, by omega⟩, Option.map_some, portalKind_room]

theorem tableContent_coil (c : CoilIx) : tableContent .coil c.val s
    = some (entryContent (s.coil c).config (s.coil c).loaded (s.coil c).runtime) :=
  congrArg (Option.map _) (finOf?_val c)

theorem tableContent_lane (l : LaneIx) : tableContent .lane l.val s
    = some (entryContent (s.lane l).config (s.lane l).loaded (s.lane l).runtime) :=
  congrArg (Option.map _) (finOf?_val l)

theorem tableContent_class (k : ClassIx) : tableContent .productClass k.val s
    = some (entryContent (s.cls k).config (s.cls k).loaded []) :=
  congrArg (Option.map _) (finOf?_val k)

theorem tableContent_shuttle (u : ShuttleIx) : tableContent .shuttle u.val s
    = some (entryContent (s.shuttle u).config (s.shuttle u).loaded (s.shuttle u).runtime) :=
  congrArg (Option.map _) (finOf?_val u)

end

/-! ## Objects (R171) -/

section
variable {s : State} {part : Nat}

theorem readObject_zone (z : ZoneIx) :
    readObjectDecision 1 (BitVec.ofNat 32 z.val) part s = readReply (zoneObject (s.zone z)) part s := by
  simp only [readObjectDecision, objType?, toNat_key (n := z.val) (by omega), finOf?_val]

theorem readObject_probe (p : ProbeIx) :
    readObjectDecision 2 (BitVec.ofNat 32 p.val) part s = readReply (probeObject (s.probe p)) part s := by
  simp only [readObjectDecision, objType?, toNat_key (n := p.val) (by omega), finOf?_val]

theorem readObject_dock (p : DockIx) :
    readObjectDecision 3 (BitVec.ofNat 32 p.val) part s = readReply (dockObject (s.dock p)) part s := by
  have found : finOf? 23 p.val = some ⟨p.val, by omega⟩ := finOf?_val (n := 23) ⟨p.val, by omega⟩
  simp only [readObjectDecision, objType?, toNat_key (n := p.val) (by omega), found, portalKind_dock]

theorem readObject_room (r : RoomIx) :
    readObjectDecision 3 (BitVec.ofNat 32 (16 + r.val)) part s = readReply (roomObject (s.room r)) part s := by
  have found : finOf? 23 (16 + r.val) = some ⟨16 + r.val, by omega⟩ := finOf?_val (n := 23) ⟨16 + r.val, by omega⟩
  simp only [readObjectDecision, objType?, toNat_key (n := 16 + r.val) (by omega), found, portalKind_room]

theorem readObject_coil (c : CoilIx) :
    readObjectDecision 4 (BitVec.ofNat 32 c.val) part s = readReply (coilObject (s.coil c)) part s := by
  simp only [readObjectDecision, objType?, toNat_key (n := c.val) (by omega), finOf?_val]

theorem readObject_lane (l : LaneIx) :
    readObjectDecision 5 (BitVec.ofNat 32 l.val) part s = readReply (laneObject (s.lane l)) part s := by
  simp only [readObjectDecision, objType?, toNat_key (n := l.val) (by omega), finOf?_val]

theorem readObject_pallet (distinct : PalletsDistinct s) {i : PalletIx} {p : Pallet} (record : s.pallet i = some p) :
    readObjectDecision 6 p.id part s = readReply (palletObject i p) part s := by
  simp only [readObjectDecision, objType?, palletIx?_eq_some distinct record rfl, record]

theorem readObject_stranger {key : Quad} (unknown : ∀ i p, s.pallet i = some p → p.id ≠ key) :
    readObjectDecision 6 key part s = .refused .notFound := by
  simp only [readObjectDecision, objType?, palletIx?_eq_none unknown]

theorem readObject_shuttle (u : ShuttleIx) :
    readObjectDecision 7 (BitVec.ofNat 32 u.val) part s = readReply (shuttleObject (s.shuttle u)) part s := by
  simp only [readObjectDecision, objType?, toNat_key (n := u.val) (by omega), finOf?_val]

theorem readObject_move {m : MoveId} {r : Move} (record : s.move? m = some r) :
    readObjectDecision 8 (BitVec.ofNat 32 m.val) part s = readReply (moveObject s r) part s := by
  simp only [readObjectDecision, objType?, toNat_key (n := m.val) (by omega), finOf?_val, record]

theorem readObject_no_move {key : Quad} {m : MoveId} (index : key.toNat = m.val) (unknown : s.move? m = none) :
    readObjectDecision 8 key part s = .refused .notFound := by
  simp only [readObjectDecision, objType?, index, finOf?_val, unknown]

/-- An object's index beyond its table (R171). -/
theorem readObject_above {key : Quad} {n : Nat} (above : n ≤ key.toNat) :
    (n = 8 → readObjectDecision 1 key part s = .refused .badIndex)
      ∧ (n = 32 → readObjectDecision 2 key part s = .refused .badIndex)
      ∧ (n = 23 → readObjectDecision 3 key part s = .refused .badIndex)
      ∧ (n = 16 → readObjectDecision 4 key part s = .refused .badIndex)
      ∧ (n = 48 → readObjectDecision 5 key part s = .refused .badIndex)
      ∧ (n = 4 → readObjectDecision 7 key part s = .refused .badIndex)
      ∧ (n = 24 → readObjectDecision 8 key part s = .refused .badIndex) := by
  refine ⟨?_, ?_, ?_, ?_, ?_, ?_, ?_⟩ <;> rintro rfl <;>
    simp only [readObjectDecision, objType?, finOf?_above above]

theorem readObject_unknown {objType : Nat} {key : Quad} (unknown : objType = 0 ∨ 8 < objType) :
    readObjectDecision objType key part s = .refused .badValue := by
  rcases unknown with rfl | above
  · rfl
  · simp only [readObjectDecision, objType?_unknown above]

end

/-! ## Replies to reads (R169, R171) -/

/-- The request is refused with a reason and nothing else. -/
def Refuses (q : Sender) (s : State) (reason : Nat) (i : Instr) : Prop :=
  exec i s = .next (joinReply (replyFrame s q 1 reason []) s)

/-- A read returns a content, whole or by its parts. -/
def Gives (q : Sender) (s : State) (read : Byte → Instr) (content : List Byte) : Prop :=
  ∀ part : Byte,
    (content.length ≤ 62 → (part = 0#8 → exec (read part) s = .next (accepted q content s))
      ∧ (part ≠ 0#8 → Refuses q s 4 (read part)))
    ∧ (62 < content.length →
      (part.toNat < (content.length + 59) / 60 → exec (read part) s = .next (accepted q
        (part :: byteOf ((content.length + 59) / 60) :: (content.drop (60 * part.toNat)).take 60) s))
      ∧ ((content.length + 59) / 60 ≤ part.toNat → Refuses q s 4 (read part)))

section
variable {q : Sender} {s : State}

theorem gives_of_readReply {read : Byte → Instr} {content : List Byte}
    (reply : ∀ part, exec (read part) s = .next ((readReply content part.toNat s).answer q s)) :
    Gives q s read content := by
  intro part
  rw [Refuses, reply]
  refine ⟨fun short => ⟨fun zero => ?_, fun other => ?_⟩, fun long => ⟨fun below => ?_, fun above => ?_⟩⟩
  · rw [(readReply_of_whole short).1 (by rw [zero]; rfl)]
    rfl
  · rw [(readReply_of_whole short).2 (by rwa [ne_eq, BitVec.toNat_eq] at other)]
    rfl
  · rw [(readReply_of_parts long).1 below, byteOf, BitVec.ofNat_toNat, BitVec.setWidth_eq]
    rfl
  · rw [(readReply_of_parts long).2 above]
    rfl

theorem Gives.congr {read : Byte → Instr} {content laid : List Byte} (h : Gives q s read content)
    (same : content = laid) : Gives q s read laid := same ▸ h

theorem gives_entry (room : replyCount s < 4) {t : Table} {n : Nat} (small : n < 256) {content : List Byte}
    (found : tableContent t n s = some content) : Gives q s (.readEntry q (byteOf t.code) (byteOf n)) content := by
  have code : (byteOf t.code).toNat = t.code := by cases t <;> rfl
  refine gives_of_readReply fun part => ?_
  rw [exec_readEntry room, code, toNat_byteOf small, readEntryDecision_of_content found]

theorem gives_object (room : replyCount s < 4) {type_ : Byte} {key : Quad} {content : List Byte}
    (found : ∀ part, readObjectDecision type_.toNat key part s = readReply content part s) :
    Gives q s (.readObject q type_ key) content :=
  gives_of_readReply fun part => by rw [exec_readObject room, found]

theorem refuses_readEntry (room : replyCount s < 4) {table index part : Byte} (r : Reason)
    (decided : readEntryDecision table.toNat index.toNat part.toNat s = .refused r) :
    Refuses q s r.code (.readEntry q table index part) :=
  (exec_readEntry room ..).trans (congrArg (fun d => Host.Outcome.next (Decision.answer q d s)) decided)

theorem refuses_readObject (room : replyCount s < 4) (type_ : Byte) {part : Byte} {key : Quad} (r : Reason)
    (decided : readObjectDecision type_.toNat key part.toNat s = .refused r) :
    Refuses q s r.code (.readObject q type_ key part) :=
  (exec_readObject room ..).trans (congrArg (fun d => Host.Outcome.next (Decision.answer q d s)) decided)

/-- Unknown tables, and indices beyond a table (R171). -/
theorem readEntry_refusals (room : replyCount s < 4) (table index part : Byte) :
    ((table = 0#8 ∨ 9 < table.toNat) → Refuses q s 2 (.readEntry q table index part))
      ∧ ∀ t : Table, table.toNat = t.code → t.entries ≤ index.toNat →
        Refuses q s 3 (.readEntry q table index part) := by
  refine ⟨fun unknown => refuses_readEntry room .badTable ?_, fun t code above =>
    refuses_readEntry room .badIndex ?_⟩
  · exact readEntryDecision_of_unknown (unknown.imp_left fun h => by rw [h]; rfl) ..
  · rw [code]
    exact readEntryDecision_of_above above ..

/-- Unknown object types, indices beyond a table, and objects that are not there (R171). -/
theorem readObject_refusals (room : replyCount s < 4) (type_ : Byte) (key : Quad) (part : Byte) :
    ((type_ = 0#8 ∨ 8 < type_.toNat) → Refuses q s 4 (.readObject q type_ key part))
      ∧ (∀ t : Table, ((type_ = 1#8 ∧ t = .zone) ∨ (type_ = 2#8 ∧ t = .probe) ∨ (type_ = 3#8 ∧ t = .portal)
          ∨ (type_ = 4#8 ∧ t = .coil) ∨ (type_ = 5#8 ∧ t = .lane) ∨ (type_ = 7#8 ∧ t = .shuttle)) →
        t.entries ≤ key.toNat → Refuses q s 3 (.readObject q type_ key part))
      ∧ (type_ = 8#8 → 23 < key.toNat → Refuses q s 3 (.readObject q type_ key part))
      ∧ (∀ m : MoveId, type_ = 8#8 → key.toNat = m.val → s.move? m = none →
        Refuses q s 10 (.readObject q type_ key part))
      ∧ (type_ = 6#8 → (∀ i p, s.pallet i = some p → p.id ≠ key) →
        Refuses q s 10 (.readObject q type_ key part)) := by
  refine ⟨fun unknown => ?_, fun t typed above => ?_, ?_, ?_, ?_⟩
  · exact refuses_readObject room type_ .badValue (readObject_unknown (unknown.imp_left fun h => by rw [h]; rfl))
  · obtain ⟨zone, probe, portal, coil, lane, shuttle, -⟩ := readObject_above (part := part.toNat) (s := s) above
    rcases typed with ⟨rfl, rfl⟩ | ⟨rfl, rfl⟩ | ⟨rfl, rfl⟩ | ⟨rfl, rfl⟩ | ⟨rfl, rfl⟩ | ⟨rfl, rfl⟩
    · exact refuses_readObject room 1#8 .badIndex (zone rfl)
    · exact refuses_readObject room 2#8 .badIndex (probe rfl)
    · exact refuses_readObject room 3#8 .badIndex (portal rfl)
    · exact refuses_readObject room 4#8 .badIndex (coil rfl)
    · exact refuses_readObject room 5#8 .badIndex (lane rfl)
    · exact refuses_readObject room 7#8 .badIndex (shuttle rfl)
  · rintro rfl above
    obtain ⟨-, -, -, -, -, -, move⟩ := readObject_above (part := part.toNat) (s := s) (n := 24) above
    exact refuses_readObject room 8#8 .badIndex (move rfl)
  · rintro m rfl index unknown
    exact refuses_readObject room 8#8 .notFound (readObject_no_move index unknown)
  · rintro rfl unknown
    exact refuses_readObject room 6#8 .notFound (readObject_stranger unknown)

end

/-! ## Layouts (R167)

A field that may be absent and a list, laid out from the bytes of what they hold. -/

def optBytes (w : Nat) : Option (List Byte) → List Byte
  | some l => 1#8 :: l
  | none => 0#8 :: List.replicate w 0#8

def listBytes (l : List (List Byte)) : List Byte := byteOf l.length :: l.flatten

theorem optField_eq {α : Type} (w : Nat) (lay : α → List Byte) (o : Option α) :
    optField w lay o = optBytes w (o.map lay) := by
  cases o <;> rfl

theorem listField_eq {α : Type} (lay : α → List Byte) (l : List α) : listField lay l = listBytes (l.map lay) := by
  rw [listField, listBytes, List.length_map]

theorem Stored.field_eq : Stored.field = fun p => byteOf p.payload.length :: p.payload :=
  funext fun p =>
    congrArg (byteOf p.payload.length :: ·) ((List.flatMap_def ..).symm.trans (List.flatMap_singleton' _))

theorem positionField_eq (p : Option RailPos) : positionField p = [byteOf ((p.map Fin.val).getD 0xFF)] := by
  cases p <;> rfl

theorem claimHeldField_eq :
    claimHeldField = fun c => [byteOf (16 + c.1.val)] ++ [byteOf (if c.2 then 0 else 1)] :=
  funext fun ⟨r, granted⟩ => by cases granted <;> rfl

theorem Claim.field_eq :
    Claim.field = fun c => [byteOf c.shuttle.val] ++ listBytes (c.holders.map Holder.field) :=
  funext fun c => congrArg (byteOf c.shuttle.val :: ·) (listField_eq ..)

/-- A step's order, its target, and its requester as the read lays it out: in four bytes or not at all. -/
def stepBytes (v : Shuttle) (by_ : Requester → List Byte) : Step → List Byte
  | .travel t b => [byteOf 0] ++ [byteOf t.val] ++ by_ b
  | .pick l m => [byteOf 1] ++ [byteOf l.val] ++ by_ (.move m)
  | .place l m => [byteOf 2] ++ [byteOf l.val] ++ by_ (.move m)
  | .homing => [byteOf 3] ++ [byteOf v.homePos.val] ++ by_ .shuttle

theorem stepTarget_requester (v : Shuttle) :
    (fun st => stepTarget v st ++ st.requester.field) = stepBytes v Requester.field :=
  funext fun st => by cases st <;> rfl

theorem stepTarget_eq (v : Shuttle) : stepTarget v = stepBytes v fun _ => [] :=
  funext fun st => by cases st <;> rfl

/-- Settles O35: a read changes only the answer; the content of each record, the parts of a reply, the refusals. -/
theorem readsReturnTheRecords : Obligations.ReadsReturnTheRecords := by
  refine ⟨fun s q a b c key => ⟨_, _, _, rfl, ?_, rfl, ?_, rfl, ?_⟩, ?_⟩
  · exact takeRequest_of_read rfl rfl (readEntryDecision_reads ..)
  · exact takeRequest_of_read rfl rfl (readObjectDecision_reads ..)
  · exact takeRequest_of_read rfl rfl (.inr ⟨_, rfl⟩)
  intro s q room
  have object (type_ : Byte) {key : Quad} {content : List Byte}
      (found : ∀ part, readObjectDecision type_.toNat key part s = readReply content part s) :
      Gives q s (.readObject q type_ key) content := gives_object room found
  refine ⟨fun i => ?_, fun i => ?_, fun i => ⟨?_, ?_⟩, fun z => ⟨?_, ?_⟩, fun p => ⟨?_, ?_⟩, fun r => ⟨?_, ?_⟩,
    fun c => ⟨?_, ?_⟩, fun l => ⟨?_, ?_⟩, fun k => ?_, fun u => ⟨?_, ?_⟩, fun i p distinct record => ?_,
    fun m r record => ?_, readEntry_refusals room, readObject_refusals room⟩
  · refine (gives_entry room (by omega) (tableContent_entry s i)).congr ?_
    simp only [entryContent, ClassEntry.runtime, Stored.field_eq, optField_eq, List.append_assoc]
    rfl
  · exact gives_entry room (by omega) (tableContent_condition s i)
  · refine (gives_entry room (by omega) (tableContent_probe s i)).congr ?_
    simp only [entryContent, Probe.runtime, optField_eq, List.append_assoc]
    rfl
  · refine (object 2#8 fun part => readObject_probe i).congr ?_
    simp only [probeObject, optField_eq]
    rfl
  · refine (gives_entry room (by omega) (tableContent_zone s z)).congr ?_
    simp only [entryContent, Zone.runtime, List.append_assoc]
    rfl
  · refine (object 1#8 fun part => readObject_zone z).congr ?_
    simp only [zoneObject, List.append_assoc]
    rfl
  · refine (gives_entry room (by omega) (tableContent_dock s p)).congr ?_
    simp only [entryContent, Dock.runtime, doorFields, timerField, optField_eq, List.append_assoc]
    rfl
  · refine (object 3#8 fun part => readObject_dock p).congr ?_
    simp only [dockObject, doorFields, timerField, optField_eq]
    rfl
  · refine (gives_entry room (by omega) (tableContent_room s r)).congr ?_
    simp only [entryContent, Room.runtime, doorFields, timerField, optField_eq, listField_eq, Claim.field_eq,
      List.append_assoc]
    rfl
  · refine (object 3#8 fun part => readObject_room r).congr ?_
    simp only [roomObject, doorFields, timerField, optField_eq, listField_eq, Claim.field_eq, List.append_assoc]
    rfl
  · refine (gives_entry room (by omega) (tableContent_coil s c)).congr ?_
    simp only [entryContent, Coil.runtime, Coil.readings, Coil.timers, echoField, timerField, optField_eq,
      List.append_assoc]
    rfl
  · refine (object 4#8 fun part => readObject_coil c).congr ?_
    simp only [coilObject, Coil.readings, Coil.timers, echoField, timerField, optField_eq, List.append_assoc]
    rfl
  · refine (gives_entry room (by omega) (tableContent_lane s l)).congr ?_
    simp only [entryContent, Lane.runtime, listField_eq, List.append_assoc]
    rfl
  · refine (object 5#8 fun part => readObject_lane l).congr ?_
    simp only [laneObject, listField_eq]
    rfl
  · refine (gives_entry room (by omega) (tableContent_class s k)).congr ?_
    simp only [entryContent, List.append_nil]
    rfl
  · refine (gives_entry room (by omega) (tableContent_shuttle s u)).congr ?_
    simp only [entryContent, Shuttle.runtime, Shuttle.beforeStep, Shuttle.afterStep, stepTarget_requester, timerField,
      optField_eq, positionField_eq, List.append_assoc]
    rfl
  · refine (object 7#8 fun part => readObject_shuttle u).congr ?_
    simp only [shuttleObject, Shuttle.beforeStep, Shuttle.afterStep, stepTarget_eq, timerField, optField_eq,
      positionField_eq, List.append_assoc]
    rfl
  · refine (object 6#8 fun part => readObject_pallet distinct record).congr ?_
    simp only [palletObject, optField_eq, List.append_assoc]
    rfl
  · obtain rfl : r.id = m := by simpa using List.find?_some record
    refine (object 8#8 fun part => readObject_move record).congr ?_
    simp only [moveObject, optField_eq, listField_eq, claimHeldField_eq, List.append_assoc]
    rfl

end Sys2Proof.Machine
end

section
/-! SUPPORT. The ranges of the configuration fields (R167, R170): when each single field's reader answers none, and from
that when each table's reader does. -/

namespace Sys2Proof.Machine

theorem forall_eq_some_iff {α : Type} {x : Option α} {p : Prop} : (∀ a, x = some a → p) ↔ x = none ∨ p := by
  cases x <;> simp

/-! ## Bytes -/

theorem Byte.toNat_eq_iff {b : Byte} {n : Nat} (small : n < 256) : b.toNat = n ↔ b = BitVec.ofNat 8 n := by
  rw [← BitVec.toNat_inj, BitVec.toNat_ofNat, Nat.mod_eq_of_lt small]

theorem Byte.toNat_eq_zero_iff {b : Byte} : b.toNat = 0 ↔ b = 0#8 := Byte.toNat_eq_iff (by decide)

theorem Byte.not_above (b : Byte) : ¬255 < b.toNat := not_lt.mpr (Nat.le_of_lt_succ b.isLt)

theorem toNat_half (a b : Byte) : (half a b).toNat = a.toNat * 256 + b.toNat := by
  rw [half, BitVec.toNat_append, ← Nat.shiftLeft_add_eq_or_of_lt b.isLt, Nat.shiftLeft_eq]

theorem toNat_quad (a b c d : Byte) :
    (quad a b c d).toNat = ((a.toNat * 256 + b.toNat) * 256 + c.toNat) * 256 + d.toNat := by
  rw [quad, BitVec.toNat_append, ← Nat.shiftLeft_add_eq_or_of_lt d.isLt, BitVec.toNat_append,
    ← Nat.shiftLeft_add_eq_or_of_lt c.isLt, ← half, toNat_half, Nat.shiftLeft_eq, Nat.shiftLeft_eq]

theorem half_eq_any_iff {a b : Byte} : half a b = 0xFFFF#16 ↔ a = 0xFF#8 ∧ b = 0xFF#8 := by
  simp only [← BitVec.toNat_inj, toNat_half, BitVec.toNat_ofNat]
  omega

theorem half_above_byte_iff {a b : Byte} : 255 < (half a b).toNat ↔ a ≠ 0#8 := by
  rw [ne_eq, ← BitVec.toNat_inj, toNat_half, BitVec.toNat_ofNat]
  omega

/-- The numbers of four bytes reach beyond 16777215 by their first byte. -/
theorem quad_above_iff {a b c d : Byte} : 16777215 < (quad a b c d).toNat ↔ a ≠ 0#8 := by
  rw [ne_eq, ← BitVec.toNat_inj, toNat_quad, BitVec.toNat_ofNat]
  omega

theorem quad_eq_zero_iff {a b c d : Byte} :
    (quad a b c d).toNat = 0 ↔ a = 0#8 ∧ b = 0#8 ∧ c = 0#8 ∧ d = 0#8 := by
  simp only [← BitVec.toNat_inj, toNat_quad, BitVec.toNat_ofNat]
  omega

/-! ## Single fields -/

@[simp] theorem natIn?_eq_none_iff {lo hi n : Nat} : natIn? lo hi n = none ↔ n < lo ∨ hi < n := by
  rw [natIn?, ite_eq_right_iff]
  simp only [reduceCtorEq, imp_false, not_and_or, not_le]

/-- Two bytes spell a temperature outside −880 to 2000. -/
def BeyondTemp (a b : Byte) : Prop := (half a b).toInt < -880 ∨ 2000 < (half a b).toInt

@[simp] theorem tempIn?_eq_none_iff {a b : Byte} : tempIn? a b = none ↔ BeyondTemp a b := by
  rw [tempIn?, intIn?, ite_eq_right_iff]
  simp only [reduceCtorEq, imp_false, not_and_or, not_le, Config.tempLow, Config.tempHigh, BeyondTemp]

@[simp] theorem finOf?_eq_none_iff {n i : Nat} : finOf? (n + 1) i = none ↔ n < i := by
  simp [finOf?]

theorem finOf?_eq_some {n i : Nat} {k : Fin n} (found : finOf? n i = some k) : k.val = i := by
  unfold finOf? at found
  split at found
  · exact congrArg Fin.val (Option.some.inj found).symm
  · cases found

@[simp] theorem byteIn?_eq_none_iff {n : Nat} : byteIn? n = none ↔ 255 < n := by
  rw [byteIn?, ite_eq_right_iff]
  simp only [reduceCtorEq, imp_false, not_lt]
  exact Iff.rfl

@[simp] theorem fixed?_eq_none_iff {want got : Nat} : fixed? want got = none ↔ got ≠ want := by
  simp [fixed?]

@[simp] theorem orAny?_eq_none_iff {α : Type} {read : Nat → Option α} {h : Half} :
    orAny? read h = none ↔ read h.toNat = none ∧ h ≠ 0xFFFF#16 := by
  rw [orAny?]
  split <;> simp_all

/-- A reader of the values 0 to `top` answers none above them. -/
theorem codes_eq_none_iff {α : Type} {read : Nat → Option α} {top n : Nat}
    (named : ∀ k < top + 1, (read k).isSome = true) (unnamed : ∀ k, read (k + (top + 1)) = none) :
    read n = none ↔ top < n := by
  refine ⟨fun none_ => ?_, fun above => ?_⟩
  · by_contra below
    have := named n (by omega)
    rw [none_] at this
    cases this
  · rw [← Nat.sub_add_cancel (show top + 1 ≤ n from above)]
    exact unnamed _

@[simp] theorem flag?_eq_none_iff {n : Nat} : flag? n = none ↔ 1 < n := codes_eq_none_iff (by decide) fun _ => rfl
@[simp] theorem direction?_eq_none_iff {n : Nat} : direction? n = none ↔ 1 < n :=
  codes_eq_none_iff (by decide) fun _ => rfl
@[simp] theorem forwardMode?_eq_none_iff {n : Nat} : forwardMode? n = none ↔ 2 < n :=
  codes_eq_none_iff (by decide) fun _ => rfl
@[simp] theorem policy?_eq_none_iff {n : Nat} : policy? n = none ↔ 1 < n := codes_eq_none_iff (by decide) fun _ => rfl
@[simp] theorem defrostMode?_eq_none_iff {n : Nat} : defrostMode? n = none ↔ 1 < n :=
  codes_eq_none_iff (by decide) fun _ => rfl
@[simp] theorem cmp?_eq_none_iff {n : Nat} : cmp? n = none ↔ 5 < n := codes_eq_none_iff (by decide) fun _ => rfl
@[simp] theorem action?_eq_none_iff {n : Nat} : action? n = none ↔ 5 < n := codes_eq_none_iff (by decide) fun _ => rfl
@[simp] theorem zoneAttrOf?_eq_none_iff {n : Nat} : zoneAttrOf? n = none ↔ 4 < n :=
  codes_eq_none_iff (by decide) fun _ => rfl
@[simp] theorem portalAttrOf?_eq_none_iff {n : Nat} : portalAttrOf? n = none ↔ 1 < n :=
  codes_eq_none_iff (by decide) fun _ => rfl
@[simp] theorem coilAttrOf?_eq_none_iff {n : Nat} : coilAttrOf? n = none ↔ 1 < n :=
  codes_eq_none_iff (by decide) fun _ => rfl

/-! ## Objects: a type and an index (Tables 2-1, 2-2, 3-4, 3-5, 4-1, 7-2, 8-1) -/

theorem bound?_eq_none_iff {t i : Nat} : bound? t i = none ↔
    (t = 0 ∧ 31 < i) ∨ (t = 1 ∧ 22 < i) ∨ ((t = 2 ∨ t = 3 ∨ t = 5) ∧ 15 < i) ∨ (t = 4 ∧ 3 < i)
      ∨ (t = 6 ∧ 255 < i) ∨ (t = 7 ∧ i ≠ 0) ∨ 7 < t := by
  match t with
  | 0 | 1 | 2 | 3 | 4 | 5 | 6 | 7 => simp [bound?]
  | k + 8 => simp [bound?]

theorem condTarget?_eq_none_iff {t : Nat} {i : Half} : condTarget? t i = none ↔
    (i ≠ 0xFFFF#16 ∧ ((t = 0 ∧ 22 < i.toNat) ∨ ((t = 1 ∨ t = 2) ∧ 15 < i.toNat) ∨ (t = 3 ∧ 3 < i.toNat)
      ∨ (t = 4 ∧ 255 < i.toNat))) ∨ 4 < t := by
  match t with
  | 0 | 1 | 2 | 3 | 4 => simp [condTarget?, and_comm]
  | k + 5 => simp [condTarget?]

theorem subject?_eq_none_iff {t i a : Nat} : subject? t i a = none ↔
    (t = 0 ∧ (7 < i ∨ 4 < a)) ∨ (t = 1 ∧ (31 < i ∨ a ≠ 0)) ∨ (t = 2 ∧ (22 < i ∨ 1 < a)) ∨ (t = 3 ∧ (15 < i ∨ 1 < a))
      ∨ (t = 4 ∧ (3 < i ∨ a ≠ 0)) ∨ (t = 5 ∧ (47 < i ∨ a ≠ 0)) ∨ 5 < t := by
  match t with
  | 0 | 1 | 2 | 3 | 4 | 5 => simp [subject?, forall_eq_some_iff]
  | k + 6 => simp [subject?]

theorem binding?_eq_none_iff {t i : Nat} : binding? t i = none ↔ (t = 0 ∧ 7 < i) ∨ (t = 1 ∧ 15 < i) ∨ 1 < t := by
  match t with
  | 0 | 1 => simp [binding?]
  | k + 2 => simp [binding?]

theorem rail?_eq_none_iff {t i : Nat} : rail? t i = none ↔ (t = 0 ∧ 3 < i) ∨ (t = 1 ∧ i ≠ 0) ∨ 1 < t := by
  match t with
  | 0 | 1 => simp [rail?]
  | k + 2 => simp [rail?]

theorem roomZone?_eq_none_iff {t i : Nat} :
    roomZone? t i = none ↔ 1 < t ∨ (t = 0 ∧ i ≠ 0) ∨ (t = 1 ∧ (i = 0 ∨ 7 < i)) := by
  match t, i with
  | 0, _ => simp [roomZone?]
  | 1, 0 => simp [roomZone?]
  | 1, i + 1 =>
    have above : roomZone? 1 (i + 1) = none ↔ 6 < i := by simp [roomZone?]
    rw [above]
    omega
  | k + 2, _ => simp [roomZone?]

/-! ## The fields of an entry, one after another -/

theorem bind_eq_none_iff_or {α β : Type} {x : Option α} {f : α → Option β} {p q : Prop} (missing : x = none ↔ p)
    (rest : ∀ a, x = some a → (f a = none ↔ q)) : x >>= f = none ↔ p ∨ q := by
  cases x with
  | none => simp [← missing]
  | some a => simpa [← missing] using rest a rfl

theorem some_eq_none_iff_false {α : Type} {a : α} : some a = none ↔ False := iff_of_false (Option.some_ne_none a) id

theorem readClassEntry_eq_none_iff {v d node k1 k0 t i m r p : Byte} {l : List Byte} :
    readClassEntry (v :: d :: node :: k1 :: k0 :: t :: i :: m :: r :: p :: l) = none
      ↔ 1 < v.toNat ∨ 1 < d.toNat ∨ node.toNat = 0 ∨ 0xEF < node.toNat ∨ (k1 ≠ 0#8 ∧ ¬(k1 = 0xFF#8 ∧ k0 = 0xFF#8))
        ∨ (t = 0#8 ∧ 31 < i.toNat) ∨ (t = 1#8 ∧ 22 < i.toNat) ∨ ((t = 2#8 ∨ t = 3#8 ∨ t = 5#8) ∧ 15 < i.toNat)
        ∨ (t = 4#8 ∧ 3 < i.toNat) ∨ (t = 7#8 ∧ i ≠ 0#8) ∨ 7 < t.toNat ∨ 2 < m.toNat ∨ 64 < p.toNat := by
  simp [readClassEntry, forall_eq_some_iff, or_assoc, bound?_eq_none_iff, Byte.toNat_eq_iff, Byte.not_above,
    half_above_byte_iff, half_eq_any_iff]

theorem readCondition_eq_none_iff {e a1 a0 t x1 x0 st si a c r3 r2 r1 r0 why : Byte} {l : List Byte} :
    readCondition (e :: a1 :: a0 :: t :: x1 :: x0 :: st :: si :: a :: c :: r3 :: r2 :: r1 :: r0 :: why :: l) = none
      ↔ 1 < e.toNat ∨ (5 < (half a1 a0).toNat ∧ half a1 a0 ≠ 0xFFFF#16)
        ∨ (half x1 x0 ≠ 0xFFFF#16 ∧ ((t = 0#8 ∧ 22 < (half x1 x0).toNat)
          ∨ ((t = 1#8 ∨ t = 2#8) ∧ 15 < (half x1 x0).toNat) ∨ (t = 3#8 ∧ 3 < (half x1 x0).toNat)
          ∨ (t = 4#8 ∧ 255 < (half x1 x0).toNat))) ∨ 4 < t.toNat
        ∨ (st = 0#8 ∧ (7 < si.toNat ∨ 4 < a.toNat)) ∨ (st = 1#8 ∧ (31 < si.toNat ∨ a ≠ 0#8))
        ∨ (st = 2#8 ∧ (22 < si.toNat ∨ 1 < a.toNat)) ∨ (st = 3#8 ∧ (15 < si.toNat ∨ 1 < a.toNat))
        ∨ (st = 4#8 ∧ (3 < si.toNat ∨ a ≠ 0#8)) ∨ (st = 5#8 ∧ (47 < si.toNat ∨ a ≠ 0#8)) ∨ 5 < st.toNat
        ∨ 5 < c.toNat ∨ why = 0#8 := by
  simp [readCondition, forall_eq_some_iff, or_assoc, condTarget?_eq_none_iff, subject?_eq_none_iff,
    Byte.toNat_eq_iff, Byte.not_above]

theorem readProbe_eq_none_iff {old : Probe} {t i o k t1 t0 : Byte} {l : List Byte} :
    readProbe old (t :: i :: o :: k :: t1 :: t0 :: l) = none
      ↔ (t = 0#8 ∧ 7 < i.toNat) ∨ (t = 1#8 ∧ 15 < i.toNat) ∨ 1 < t.toNat ∨ 7 < k.toNat
        ∨ (half t1 t0).toNat < 10 ∨ 600 < (half t1 t0).toNat := by
  simp [readProbe, forall_eq_some_iff, or_assoc, binding?_eq_none_iff, Byte.toNat_eq_iff]

theorem readZone_eq_none_iff {z : ZoneIx} {old : Zone} {kind u l1 l0 w1 w0 a1 a0 h ew3 ew2 ew1 ew0 ea3 ea2 ea1 ea0 rcv
      d1 d0 r1 r0 f1 f0 ws wb wu wo m : Byte} {l : List Byte} :
    readZone z old (kind :: u :: l1 :: l0 :: w1 :: w0 :: a1 :: a0 :: h :: ew3 :: ew2 :: ew1 :: ew0 :: ea3 :: ea2
        :: ea1 :: ea0 :: rcv :: d1 :: d0 :: r1 :: r0 :: f1 :: f0 :: ws :: wb :: wu :: wo :: m :: l) = none
      ↔ kind ≠ (if z = 0 then 0#8 else 1#8) ∨ 1 < u.toNat ∨ BeyondTemp l1 l0 ∨ BeyondTemp w1 w0 ∨ BeyondTemp a1 a0
        ∨ 160 < h.toNat ∨ ew3 ≠ 0#8 ∨ ea3 ≠ 0#8 ∨ 320 < (half d1 d0).toNat ∨ 3600 < (half r1 r0).toNat
        ∨ 1 < m.toNat := by
  have fields : readZone z old (kind :: u :: l1 :: l0 :: w1 :: w0 :: a1 :: a0 :: h :: ew3 :: ew2 :: ew1 :: ew0 :: ea3
      :: ea2 :: ea1 :: ea0 :: rcv :: d1 :: d0 :: r1 :: r0 :: f1 :: f0 :: ws :: wb :: wu :: wo :: m :: l) = none ↔ _ :=
    bind_eq_none_iff_or fixed?_eq_none_iff fun _ _ =>
    bind_eq_none_iff_or flag?_eq_none_iff fun _ _ =>
    bind_eq_none_iff_or tempIn?_eq_none_iff fun _ _ =>
    bind_eq_none_iff_or tempIn?_eq_none_iff fun _ _ =>
    bind_eq_none_iff_or tempIn?_eq_none_iff fun _ _ =>
    bind_eq_none_iff_or natIn?_eq_none_iff fun _ _ =>
    bind_eq_none_iff_or natIn?_eq_none_iff fun _ _ =>
    bind_eq_none_iff_or natIn?_eq_none_iff fun _ _ =>
    bind_eq_none_iff_or natIn?_eq_none_iff fun _ _ =>
    bind_eq_none_iff_or natIn?_eq_none_iff fun _ _ =>
    bind_eq_none_iff_or defrostMode?_eq_none_iff fun _ _ => some_eq_none_iff_false
  have kind_ : kind.toNat ≠ (if z = 0 then 0 else 1) ↔ kind ≠ if z = 0 then 0#8 else 1#8 := by
    split_ifs <;> simp [Byte.toNat_eq_iff]
  simpa only [kind_, Config.exposureTop, quad_above_iff, Nat.not_lt_zero, false_or, or_false] using fields

theorem readPolicy_eq_none_iff {l : List Byte} : readPolicy l = none ↔ 1 < (l.getD 29 0#8).toNat :=
  policy?_eq_none_iff

theorem readDock_eq_none_iff {old : Dock} {kind zone r d o1 o0 l1 l0 inf defl : Byte} {l : List Byte} :
    readDock old (kind :: zone :: r :: d :: o1 :: o0 :: l1 :: l0 :: inf :: defl :: l) = none
      ↔ kind ≠ 0#8 ∨ zone ≠ 0#8 ∨ 47 < r.toNat ∨ 47 < d.toNat ∨ inf = 0#8 ∨ 120 < inf.toNat ∨ defl = 0#8
        ∨ 120 < defl.toNat := by
  simp [readDock, forall_eq_some_iff, or_assoc, Byte.toNat_eq_iff]

theorem readRoom_eq_none_iff {r : RoomIx} {old : Room} {kind zone o h : Byte} {l : List Byte} :
    readRoom r old (kind :: zone :: o :: h :: l) = none
      ↔ kind ≠ 1#8 ∨ zone.toNat ≠ r.val + 1 ∨ o = 0#8 ∨ 60 < o.toNat ∨ 60 < h.toNat := by
  simp [readRoom, forall_eq_some_iff, or_assoc, Byte.toNat_eq_iff]

theorem readCoilEntry_eq_none_iff {old : Coil}
    {z i1 i0 n st p1 p0 h1 h0 t1 t0 d1 d0 f1 f0 m1 m0 s1 s0 fo : Byte} {l : List Byte} :
    readCoilEntry old (z :: i1 :: i0 :: n :: st :: p1 :: p0 :: h1 :: h0 :: t1 :: t0 :: d1 :: d0 :: f1 :: f0 :: m1
        :: m0 :: s1 :: s0 :: fo :: l) = none
      ↔ 7 < z.toNat ∨ (half i1 i0).toNat < 30 ∨ 1440 < (half i1 i0).toNat ∨ n = 0#8 ∨ 8 < n.toNat ∨ st = 0#8
        ∨ 8 < st.toNat ∨ 600 < (half p1 p0).toNat ∨ (half h1 h0).toNat < 60 ∨ 3600 < (half h1 h0).toNat
        ∨ BeyondTemp t1 t0 ∨ 900 < (half d1 d0).toNat ∨ BeyondTemp f1 f0 ∨ 900 < (half m1 m0).toNat
        ∨ 7200 < (half s1 s0).toNat ∨ fo = 0#8 ∨ 60 < fo.toNat := by
  have fields : readCoilEntry old (z :: i1 :: i0 :: n :: st :: p1 :: p0 :: h1 :: h0 :: t1 :: t0 :: d1 :: d0 :: f1 :: f0
      :: m1 :: m0 :: s1 :: s0 :: fo :: l) = none ↔ _ :=
    bind_eq_none_iff_or finOf?_eq_none_iff fun _ _ =>
    bind_eq_none_iff_or natIn?_eq_none_iff fun _ _ =>
    bind_eq_none_iff_or natIn?_eq_none_iff fun _ _ =>
    bind_eq_none_iff_or natIn?_eq_none_iff fun _ _ =>
    bind_eq_none_iff_or natIn?_eq_none_iff fun _ _ =>
    bind_eq_none_iff_or natIn?_eq_none_iff fun _ _ =>
    bind_eq_none_iff_or tempIn?_eq_none_iff fun _ _ =>
    bind_eq_none_iff_or natIn?_eq_none_iff fun _ _ =>
    bind_eq_none_iff_or tempIn?_eq_none_iff fun _ _ =>
    bind_eq_none_iff_or natIn?_eq_none_iff fun _ _ =>
    bind_eq_none_iff_or natIn?_eq_none_iff fun _ _ =>
    bind_eq_none_iff_or natIn?_eq_none_iff fun _ _ => some_eq_none_iff_false
  simpa only [Nat.lt_one_iff, Byte.toNat_eq_zero_iff, Nat.not_lt_zero, false_or, or_false, or_assoc] using fields

theorem readLane_eq_none_iff {old : Lane} {z rt ri p d q : Byte} {l : List Byte} :
    readLane old (z :: rt :: ri :: p :: d :: q :: l) = none
      ↔ 7 < z.toNat ∨ (rt = 0#8 ∧ 3 < ri.toNat) ∨ (rt = 1#8 ∧ ri ≠ 0#8) ∨ 1 < rt.toNat ∨ 63 < p.toNat ∨ d = 0#8
        ∨ 16 < d.toNat ∨ 1 < q.toNat := by
  simp [readLane, forall_eq_some_iff, or_assoc, rail?_eq_none_iff, Byte.toNat_eq_iff]

theorem readProductClass_eq_none_iff {l1 l0 b3 b2 b1 b0 mask : Byte} {l : List Byte} :
    readProductClass (l1 :: l0 :: b3 :: b2 :: b1 :: b0 :: mask :: l) = none
      ↔ BeyondTemp l1 l0 ∨ b3 ≠ 0#8 ∨ (b2 = 0#8 ∧ b1 = 0#8 ∧ b0 = 0#8) ∨ mask.getLsbD 0 = true := by
  by_cases small : b3 = 0#8 <;>
    simp [readProductClass, forall_eq_some_iff, quad_eq_zero_iff, quad_above_iff, Config.exposureTop, small]

theorem Shuttle.layoutOk_eq_false_iff {u : Shuttle} : u.layoutOk = false ↔ u.dockHigh < u.dockLow
    ∨ (u.roomA.isSome = true ∧ u.dockLow = 0) ∨ (u.roomB.isSome = true ∧ u.dockHigh = 63)
    ∨ (u.roomA.isSome = true ∧ u.roomA = u.roomB) := by
  simp [Shuttle.layoutOk, or_assoc, imp_iff_not_or, Option.isSome_iff_ne_none]

/-- A room segment is read as the zone behind its door, or as none. -/
theorem roomZone?_eq_some {t i : Nat} {room : Option RoomIx} (read : roomZone? t i = some room) :
    (t = 0 ∧ i = 0 ∧ room = none) ∨ ∃ r, t = 1 ∧ i = r.val + 1 ∧ room = some r := by
  match t, i with
  | 0, i => simpa [roomZone?, eq_comm] using read
  | 1, 0 => simp [roomZone?] at read
  | 1, i + 1 =>
    obtain ⟨r, found, rfl⟩ := Option.map_eq_some_iff.mp read
    exact .inr ⟨r, rfl, by rw [finOf?_eq_some found], rfl⟩
  | k + 2, _ => simp [roomZone?] at read

/-- The four cases of R135 that the fields of a shuttle make together. -/
theorem layoutOk_of_fields {u : Shuttle} {lo hi at_ ai bt bi : Byte} (low : u.dockLow.val = lo.toNat)
    (high : u.dockHigh.val = hi.toNat) (roomA : roomZone? at_.toNat ai.toNat = some u.roomA)
    (roomB : roomZone? bt.toNat bi.toNat = some u.roomB) :
    u.layoutOk = false ↔ hi.toNat < lo.toNat ∨ (at_ = 1#8 ∧ lo = 0#8) ∨ (bt = 1#8 ∧ hi.toNat = 63)
      ∨ (at_ = 1#8 ∧ bt = 1#8 ∧ ai = bi) := by
  have lowest : u.dockLow = 0 ↔ lo.toNat = 0 := low ▸ Fin.ext_iff
  have highest : u.dockHigh = 63 ↔ hi.toNat = 63 := high ▸ Fin.ext_iff
  rw [Shuttle.layoutOk_eq_false_iff, Fin.lt_def, low, high, lowest, highest]
  simp only [← BitVec.toNat_inj, BitVec.toNat_ofNat]
  rcases roomZone?_eq_some roomA with ⟨ta, ia, a⟩ | ⟨ra, ta, ia, a⟩ <;>
    rcases roomZone?_eq_some roomB with ⟨tb, ib, b⟩ | ⟨rb, tb, ib, b⟩ <;>
    simp [ta, ia, a, tb, ib, b, Fin.val_inj]

theorem if_layoutOk_eq_none_iff {u : Shuttle} :
    (if u.layoutOk = true then some u else none) = none ↔ u.layoutOk = false := by simp

theorem readShuttleEntry_eq_none_iff {old : Shuttle} {lo hi at_ ai bt bi home park pitch settle hand p1 p0 : Byte}
    {l : List Byte} :
    readShuttleEntry old (lo :: hi :: at_ :: ai :: bt :: bi :: home :: park :: pitch :: settle :: hand :: p1 :: p0
        :: l) = none
      ↔ 63 < lo.toNat ∨ 63 < hi.toNat ∨ 1 < at_.toNat ∨ (at_ = 0#8 ∧ ai ≠ 0#8)
        ∨ (at_ = 1#8 ∧ (ai = 0#8 ∨ 7 < ai.toNat)) ∨ 1 < bt.toNat ∨ (bt = 0#8 ∧ bi ≠ 0#8)
        ∨ (bt = 1#8 ∧ (bi = 0#8 ∨ 7 < bi.toNat)) ∨ 63 < home.toNat ∨ 63 < park.toNat ∨ pitch = 0#8 ∨ hand = 0#8
        ∨ 60 < hand.toNat ∨ 3600 < (half p1 p0).toNat ∨ hi.toNat < lo.toNat ∨ (at_ = 1#8 ∧ lo = 0#8)
        ∨ (bt = 1#8 ∧ hi.toNat = 63) ∨ (at_ = 1#8 ∧ bt = 1#8 ∧ ai = bi) := by
  have fields : readShuttleEntry old (lo :: hi :: at_ :: ai :: bt :: bi :: home :: park :: pitch :: settle :: hand
      :: p1 :: p0 :: l) = none ↔ _ :=
    bind_eq_none_iff_or finOf?_eq_none_iff fun low hlow =>
    bind_eq_none_iff_or finOf?_eq_none_iff fun high hhigh =>
    bind_eq_none_iff_or roomZone?_eq_none_iff fun roomA hA =>
    bind_eq_none_iff_or roomZone?_eq_none_iff fun roomB hB =>
    bind_eq_none_iff_or finOf?_eq_none_iff fun _ _ =>
    bind_eq_none_iff_or finOf?_eq_none_iff fun _ _ =>
    bind_eq_none_iff_or natIn?_eq_none_iff fun _ _ =>
    bind_eq_none_iff_or natIn?_eq_none_iff fun _ _ =>
    bind_eq_none_iff_or natIn?_eq_none_iff fun _ _ =>
      if_layoutOk_eq_none_iff.trans
      (layoutOk_of_fields (finOf?_eq_some hlow) (finOf?_eq_some hhigh) hA hB)
  simpa [or_assoc, Byte.toNat_eq_iff, Byte.not_above] using fields

end Sys2Proof.Machine
end

section
/-! SUPPORT. LOAD_ENTRY (R170): the steps of a load, what a read of the fields sets, and the decision of each table in
CONFIG and in ACTIVE, with the statements O30 and O31. -/

namespace Sys2Proof.Machine

/-! ## The steps of a load (R168, R170) -/

section
variable {q : Sender} {table index : Byte} {fields : List Byte} {s : State}

theorem exec_loadEntry (from_ : FromManager q s) (form : loadForm table.toNat index.toNat fields = true) :
    exec (.loadEntry q table index fields) s
      = .next ((loadDecision table.toNat index.toNat fields s).answer q s) := by
  have steps : takeRequest q (loadForm table.toNat index.toNat fields) .manager .both
      (loadDecision table.toNat index.toNat fields) s = (loadDecision table.toNat index.toNat fields s).answer q s := by
    rw [form]
    exact takeRequest_of_admitted from_.2 from_.admits rfl
  exact congrArg _ steps

/-- A load whose fields are there in full is answered by the decision of its table. -/
theorem exec_loadEntry_of_table {t : Table} {i : Nat} {d : Decision} (from_ : FromManager q s)
    (named : table.toNat = t.code) (at_ : index.toNat = i) (long : t.fieldBytes i ≤ fields.length)
    (decided : loadTable t i fields s = d) :
    exec (.loadEntry q table index fields) s = .next (d.answer q s) := by
  subst at_ decided
  have form : loadForm table.toNat index.toNat fields = true := by
    simp [loadForm, named, table?_code, long]
  rw [exec_loadEntry from_ form, named, loadDecision, table?_code]

/-- A table or an index that there is not is refused whatever the length of the fields (log entry 27). -/
theorem exec_loadEntry_of_unknown_table (from_ : FromManager q s) (unknown : table.toNat = 0 ∨ 9 < table.toNat) :
    exec (.loadEntry q table index fields) s = .next ((Decision.refused .badTable).answer q s) := by
  have none_ := table?_unknown unknown
  rw [exec_loadEntry from_ (by rw [loadForm, none_]), loadDecision, none_]

theorem loadTable_above {t : Table} {i : Nat} (above : t.entries ≤ i) :
    loadTable t i fields s = .refused .badIndex := by
  have none_ : finOf? t.entries i = none := finOf?_above above
  cases t <;> simp only [Table.entries] at none_ <;> simp only [loadTable, none_]

theorem exec_loadEntry_of_unknown_index {t : Table} (from_ : FromManager q s) (named : table.toNat = t.code)
    (above : t.entries ≤ index.toNat) :
    exec (.loadEntry q table index fields) s = .next ((Decision.refused .badIndex).answer q s) := by
  have form : loadForm table.toNat index.toNat fields = true := by
    simp [loadForm, named, table?_code, above]
  rw [exec_loadEntry from_ form, named, loadDecision, table?_code]
  exact congrArg _ (congrArg (Decision.answer q · s) (loadTable_above above))

end

/-! ## What a read of the fields sets (R170) -/

section
variable {l : List Byte}

/-- What follows from the last of the fields read follows from the whole entry. -/
theorem of_bind_eq_some {α β : Type} {x : Option α} {f : α → Option β} {b : β} {p : Prop}
    (rest : ∀ a, f a = some b → p) (read : x >>= f = some b) : p := by
  obtain ⟨a, -, found⟩ := Option.bind_eq_some_iff.mp read
  exact rest a found

theorem readClassEntry_fresh {e : ClassEntry} (read : readClassEntry l = some e) :
    e.loaded = true ∧ e.hits = 0 ∧ e.stored = none := by
  unfold readClassEntry at read
  split at read
  · iterate 7 refine of_bind_eq_some (fun _ read => ?_) read
    obtain rfl := Option.some.inj read
    exact ⟨rfl, rfl, rfl⟩
  · cases read

theorem readCondition_fresh {c : Condition} (read : readCondition l = some c) : c.loaded = true ∧ c.refusals = 0 := by
  unfold readCondition at read
  split at read
  · iterate 6 refine of_bind_eq_some (fun _ read => ?_) read
    obtain rfl := Option.some.inj read
    exact ⟨rfl, rfl⟩
  · cases read

theorem readProductClass_loaded {c : ProductClass} (read : readProductClass l = some c) : c.loaded = true := by
  unfold readProductClass at read
  split at read
  · iterate 2 refine of_bind_eq_some (fun _ read => ?_) read
    split at read
    · cases read
    · obtain rfl := Option.some.inj read
      rfl
  · cases read

theorem readProbe_keeps {old p : Probe} (read : readProbe old l = some p) : p = { old with
    loaded := true, binding := p.binding, offset := p.offset, shift := p.shift, timeout := p.timeout } := by
  unfold readProbe at read
  split at read
  · iterate 3 refine of_bind_eq_some (fun _ read => ?_) read
    obtain rfl := Option.some.inj read
    rfl
  · cases read

theorem readZone_keeps {i : ZoneIx} {old n : Zone} (read : readZone i old l = some n) : n = { old with
    loaded := true, inUse := n.inUse, limit := n.limit, warn := n.warn, alarm := n.alarm
    hysteresis := n.hysteresis, eWarn := n.eWarn, eAlarm := n.eAlarm, recovery := n.recovery
    allowance := n.allowance, recoveryTime := n.recoveryTime, frostThreshold := n.frostThreshold
    wSealed := n.wSealed, wBreach := n.wBreach, wUnsealed := n.wUnsealed, wOpen := n.wOpen
    defrostMode := n.defrostMode } := by
  unfold readZone at read
  split at read
  · iterate 11 refine of_bind_eq_some (fun _ read => ?_) read
    obtain rfl := Option.some.inj read
    rfl
  · cases read

theorem readDock_keeps {old d : Dock} (read : readDock old l = some d) : d = { old with
    loaded := true, receiveLane := d.receiveLane, dispatchLane := d.dispatchLane, sealOk := d.sealOk
    sealLow := d.sealLow, inflateTime := d.inflateTime, deflateTime := d.deflateTime } := by
  unfold readDock at read
  split at read
  · iterate 6 refine of_bind_eq_some (fun _ read => ?_) read
    obtain rfl := Option.some.inj read
    rfl
  · cases read

theorem readRoom_keeps {r : RoomIx} {old p : Room} (read : readRoom r old l = some p) : p = { old with
    loaded := true, openTime := p.openTime, holdOpenTime := p.holdOpenTime } := by
  unfold readRoom at read
  split at read
  · iterate 4 refine of_bind_eq_some (fun _ read => ?_) read
    obtain rfl := Option.some.inj read
    rfl
  · cases read

theorem readCoilEntry_keeps {old k : Coil} (read : readCoilEntry old l = some k) : k = { old with
    loaded := true, zone := k.zone, interval := k.interval, limit := k.limit, start := k.start
    pumpDown := k.pumpDown, maxHeat := k.maxHeat, terminate := k.terminate, drip := k.drip
    fanTemp := k.fanTemp, fanMax := k.fanMax, minSpacing := k.minSpacing, follow := k.follow } := by
  unfold readCoilEntry at read
  split at read
  · iterate 12 refine of_bind_eq_some (fun _ read => ?_) read
    obtain rfl := Option.some.inj read
    rfl
  · cases read

theorem readLane_keeps {old n : Lane} (read : readLane old l = some n) : n = { old with
    loaded := true, zone := n.zone, rail := n.rail, position := n.position, depth := n.depth
    quarantine := n.quarantine } := by
  unfold readLane at read
  split at read
  · iterate 5 refine of_bind_eq_some (fun _ read => ?_) read
    obtain rfl := Option.some.inj read
    rfl
  · cases read

theorem readShuttleEntry_keeps {old v : Shuttle} (read : readShuttleEntry old l = some v) : v = { old with
    loaded := true, dockLow := v.dockLow, dockHigh := v.dockHigh, roomA := v.roomA, roomB := v.roomB
    homePos := v.homePos, parkPos := v.parkPos, pitch := v.pitch, settle := v.settle
    handling := v.handling, parkTime := v.parkTime } := by
  unfold readShuttleEntry at read
  split at read
  · iterate 9 refine of_bind_eq_some (fun _ read => ?_) read
    dsimp only at read
    split at read
    · obtain rfl := Option.some.inj read
      rfl
    · cases read
  · cases read

end

/-! ## The record that a load names -/

section
variable (fields : List Byte) (s : State)

theorem loadTable_classification (i : Fin 128) :
    loadTable .classification i.val fields s = loadClassification i fields s := by simp only [loadTable, finOf?_val]

theorem loadTable_condition (i : Fin 64) : loadTable .condition i.val fields s = loadCondition i fields s := by
  simp only [loadTable, finOf?_val]

theorem loadTable_probe (i : ProbeIx) : loadTable .probe i.val fields s = loadProbe i fields s := by
  simp only [loadTable, finOf?_val]

theorem loadTable_zone (i : ZoneIx) : loadTable .zone i.val fields s = loadZone i fields s := by
  simp only [loadTable, finOf?_val]

theorem loadTable_dock (p : DockIx) : loadTable .portal p.val fields s = loadDock p fields s := by
  have found : finOf? 23 p.val = some ⟨p.val, by omega⟩ := dif_pos _
  simp only [loadTable, found, portalKind_dock]

theorem loadTable_room (r : RoomIx) : loadTable .portal (16 + r.val) fields s = loadRoom r fields s := by
  have found : finOf? 23 (16 + r.val) = some ⟨16 + r.val, by omega⟩ := dif_pos _
  simp only [loadTable, found, portalKind_room]

theorem loadTable_coil (c : CoilIx) : loadTable .coil c.val fields s = loadCoil c fields s := by
  simp only [loadTable, finOf?_val]

theorem loadTable_lane (l : LaneIx) : loadTable .lane l.val fields s = loadLane l fields s := by
  simp only [loadTable, finOf?_val]

theorem loadTable_productClass (k : ClassIx) :
    loadTable .productClass k.val fields s = loadProductClass k fields s := by simp only [loadTable, finOf?_val]

theorem loadTable_shuttle (u : ShuttleIx) : loadTable .shuttle u.val fields s = loadShuttle u fields s := by
  simp only [loadTable, finOf?_val]

end

/-! ## Fields that do not read (R170) -/

section
variable {fields : List Byte} {s : State}

theorem loadClassification_of_unread {i : Fin 128} (unread : readClassEntry fields = none) :
    loadClassification i fields s = .refused .badValue := by simp only [loadClassification, unread]

theorem loadCondition_of_unread {i : Fin 64} (unread : readCondition fields = none) :
    loadCondition i fields s = .refused .badValue := by simp only [loadCondition, unread]

theorem loadProbe_of_unread {i : ProbeIx} (unread : readProbe (s.probe i) fields = none) :
    loadProbe i fields s = .refused .badValue := by simp only [loadProbe, unread]

theorem loadZone_of_unread {i : ZoneIx} (unread : readZone i (s.zone i) fields = none) :
    loadZone i fields s = .refused .badValue := by simp only [loadZone, unread]

/-- The policy is read with zone 0 (R17). -/
theorem loadZone_of_unread_policy (unread : readPolicy fields = none) :
    loadZone 0 fields s = .refused .badValue := by
  cases read : readZone 0 (s.zone 0) fields <;> simp only [loadZone, read, unread, if_pos]

theorem loadDock_of_unread {p : DockIx} (unread : readDock (s.dock p) fields = none) :
    loadDock p fields s = .refused .badValue := by simp only [loadDock, unread]

theorem loadRoom_of_unread {r : RoomIx} (unread : readRoom r (s.room r) fields = none) :
    loadRoom r fields s = .refused .badValue := by simp only [loadRoom, unread]

theorem loadCoil_of_unread {c : CoilIx} (unread : readCoilEntry (s.coil c) fields = none) :
    loadCoil c fields s = .refused .badValue := by simp only [loadCoil, unread]

theorem loadLane_of_unread {l : LaneIx} (unread : readLane (s.lane l) fields = none) :
    loadLane l fields s = .refused .badValue := by simp only [loadLane, unread]

theorem loadProductClass_of_unread {k : ClassIx} (unread : readProductClass fields = none) :
    loadProductClass k fields s = .refused .badValue := by simp only [loadProductClass, unread]

theorem loadShuttle_of_unread {u : ShuttleIx} (unread : readShuttleEntry (s.shuttle u) fields = none) :
    loadShuttle u fields s = .refused .badValue := by simp only [loadShuttle, unread]

end

theorem fieldBytes_zone {i : ZoneIx} {n : Nat} (long : (if i = 0 then 30 else 29) ≤ n) :
    Table.zone.fieldBytes i.val ≤ n := by
  simpa only [Table.fieldBytes, Fin.val_eq_zero_iff] using long

theorem fieldBytes_dock {p : DockIx} {n : Nat} (long : 10 ≤ n) : Table.portal.fieldBytes p.val ≤ n := by
  rwa [Table.fieldBytes, if_pos p.isLt]

theorem fieldBytes_room {r : RoomIx} {n : Nat} (long : 4 ≤ n) : Table.portal.fieldBytes (16 + r.val) ≤ n := by
  rwa [Table.fieldBytes, if_neg (by omega)]

/-- Settles O31: fields that do not read are refused by each table, and do not read when one is out of its range. -/
theorem fieldRangesAreChecked : Obligations.FieldRangesAreChecked := by
  refine ⟨?_, fun _ _ _ _ _ _ _ _ _ _ _ => readClassEntry_eq_none_iff,
    fun _ _ _ _ _ _ _ _ _ _ _ _ _ _ _ _ => readCondition_eq_none_iff,
    fun _ _ _ _ _ _ _ _ => readProbe_eq_none_iff,
    fun _ _ _ _ _ _ _ _ _ _ _ _ _ _ _ _ _ _ _ _ _ _ _ _ _ _ _ _ _ _ _ _ => readZone_eq_none_iff,
    fun _ => readPolicy_eq_none_iff, fun _ _ _ _ _ _ _ _ _ _ _ _ => readDock_eq_none_iff,
    fun _ _ _ _ _ _ _ => readRoom_eq_none_iff,
    fun _ _ _ _ _ _ _ _ _ _ _ _ _ _ _ _ _ _ _ _ _ _ => readCoilEntry_eq_none_iff,
    fun _ _ _ _ _ _ _ _ => readLane_eq_none_iff, fun _ _ _ _ _ _ _ _ => readProductClass_eq_none_iff,
    fun _ _ _ _ _ _ _ _ _ _ _ _ _ _ _ => readShuttleEntry_eq_none_iff⟩
  intro s q table index l from_ refused
  have entry {t : Table} {i : Nat} (named : table.toNat = t.code) (at_ : index.toNat = i)
      (long : t.fieldBytes i ≤ l.length) (decided : loadTable t i l s = .refused .badValue) :
      exec (.loadEntry q table index l) s = .next (joinReply (replyFrame s q 1 4 []) s) :=
    exec_loadEntry_of_table from_ named at_ long decided
  refine ⟨?_, ?_, ?_, ?_, ?_, ?_, ?_, ?_, ?_, ?_, ?_⟩
  · rintro rfl below unread long
    exact entry (t := .classification) rfl rfl long
      ((loadTable_classification l s ⟨_, below⟩).trans (loadClassification_of_unread unread))
  · rintro rfl below unread long
    exact entry (t := .condition) rfl rfl long
      ((loadTable_condition l s ⟨_, below⟩).trans (loadCondition_of_unread unread))
  · rintro i rfl at_ unread long
    exact entry (t := .probe) rfl at_ long ((loadTable_probe l s i).trans (loadProbe_of_unread unread))
  · rintro i rfl at_ unread long
    exact entry (t := .zone) rfl at_ (fieldBytes_zone long) ((loadTable_zone l s i).trans (loadZone_of_unread unread))
  · rintro rfl rfl unread long
    exact entry (t := .zone) rfl rfl long ((loadTable_zone l s 0).trans (loadZone_of_unread_policy unread))
  · rintro p rfl at_ unread long
    exact entry (t := .portal) rfl at_ (fieldBytes_dock long)
      ((loadTable_dock l s p).trans (loadDock_of_unread unread))
  · rintro r rfl at_ unread long
    exact entry (t := .portal) rfl at_ (fieldBytes_room long)
      ((loadTable_room l s r).trans (loadRoom_of_unread unread))
  · rintro c rfl at_ unread long
    exact entry (t := .coil) rfl at_ long ((loadTable_coil l s c).trans (loadCoil_of_unread unread))
  · rintro i rfl at_ unread long
    exact entry (t := .lane) rfl at_ long ((loadTable_lane l s i).trans (loadLane_of_unread unread))
  · rintro rfl below unread long
    exact entry (t := .productClass) rfl rfl long
      ((loadTable_productClass l s ⟨_, below⟩).trans (loadProductClass_of_unread unread))
  · rintro u rfl at_ unread long
    exact entry (t := .shuttle) rfl at_ long ((loadTable_shuttle l s u).trans (loadShuttle_of_unread unread))

/-! ## Fields that read: the decision of each table -/

section
variable {fields : List Byte} {s : State}

theorem loadClassification_of_read {i : Fin 128} {e : ClassEntry} (read : readClassEntry fields = some e) :
    loadClassification i fields s = .accepted [] { s with classTable := tset s.classTable i e } := by
  simp only [loadClassification, read]

theorem loadCondition_of_read {i : Fin 64} {c : Condition} (read : readCondition fields = some c) :
    loadCondition i fields s = .accepted [] { s with conditions := tset s.conditions i c } := by
  simp only [loadCondition, read]

theorem loadRoom_of_read {r : RoomIx} {p : Room} (read : readRoom r (s.room r) fields = some p) :
    loadRoom r fields s = .accepted [] (s.modRoom r fun _ => p) := by
  simp only [loadRoom, read]

theorem loadProductClass_of_read {k : ClassIx} {c : ProductClass} (read : readProductClass fields = some c) :
    loadProductClass k fields s = .accepted [] { s with classes := tset s.classes k c } := by
  simp only [loadProductClass, read]

section
variable {i : ProbeIx} {p : Probe} (read : readProbe (s.probe i) fields = some p)
include read

theorem loadProbe_config (config : s.mode = .config) :
    loadProbe i fields s = .accepted [] (dropUnboundReadings (s.modProbe i fun _ => p)) := by
  simp only [loadProbe, read, config]

/-- The binding is structural (R52). -/
theorem loadProbe_active (active : s.mode = .active) :
    loadProbe i fields s =
      if (s.probe i).loaded = true ∧ p.binding = (s.probe i).binding then
        .accepted [] (s.modProbe i fun _ => p)
      else .refused .liveFieldOnly := by
  simp only [loadProbe, read, active]

end

section
variable {i : ZoneIx} {n : Zone} {policy : UpPolicy} (read : readZone i (s.zone i) fields = some n)
  (readPolicy_ : (if i = 0 then readPolicy fields else some s.policy) = some policy)

/-- The zone's record and, with zone 0, the policy (R17); the zone's selection follows (R102). -/
theorem storeZone_eq (i : ZoneIx) (n : Zone) (policy : UpPolicy) (s : State) :
    storeZone i n policy s
      = selectZone i
          { s with zones := tset s.zones i n, policy := if i = 0 then policy else s.policy } := by
  unfold storeZone
  split <;> rfl

include read readPolicy_

theorem loadZone_config (config : s.mode = .config) :
    loadZone i fields s = .accepted [] (storeZone i n policy s) := by
  simp only [loadZone, read, readPolicy_, config]

/-- The field for use is structural, warn and alarm are ordering pairs (R59). -/
theorem loadZone_active (active : s.mode = .active) :
    loadZone i fields s =
      if n.inUse ≠ (s.zone i).inUse then .refused .liveFieldOnly
      else if n.ordered then .accepted [] (storeZone i n policy s)
      else .refused .badValue := by
  simp only [loadZone, read, readPolicy_, active]

end

section
variable {p : DockIx} {d : Dock} (read : readDock (s.dock p) fields = some d)
include read

theorem loadDock_config (config : s.mode = .config) :
    loadDock p fields s = .accepted [] (s.modDock p fun _ => d) := by
  simp only [loadDock, read, config]

/-- The lanes are structural, the two thresholds an ordering pair (R76). -/
theorem loadDock_active (active : s.mode = .active) :
    loadDock p fields s =
      if (s.dock p).loaded = false ∨ d.receiveLane ≠ (s.dock p).receiveLane
          ∨ d.dispatchLane ≠ (s.dock p).dispatchLane then .refused .liveFieldOnly
      else if d.sealLow < d.sealOk then .accepted [] (s.modDock p fun _ => d)
      else .refused .badValue := by
  simp only [loadDock, read, active]

end

section
variable {c : CoilIx} {k : Coil} (read : readCoilEntry (s.coil c) fields = some k)
include read

theorem loadCoil_config (config : s.mode = .config) :
    loadCoil c fields s = .accepted [] (s.modCoil c fun _ => k) := by
  simp only [loadCoil, read, config]

/-- The zone is structural, S and L an ordering pair; a new L acts on the owed count (R97, R101). -/
theorem loadCoil_active (active : s.mode = .active) :
    loadCoil c fields s =
      if (s.coil c).loaded = false ∨ k.zone ≠ (s.coil c).zone then .refused .liveFieldOnly
      else if k.limit < k.start then .refused .badValue
      else
        .accepted []
          (owedChanged (if k.limit = (s.coil c).limit then k else k.newLimit).zone
            (s.modCoil c fun _ => if k.limit = (s.coil c).limit then k else k.newLimit)) := by
  simp only [loadCoil, read, active]

end

section
variable {l : LaneIx} {n : Lane} (read : readLane (s.lane l) fields = some n)

theorem laneBusy_iff {old new : Lane} : laneBusy old new = true ↔
    old.pallets ≠ [] ∧ (new.zone ≠ old.zone ∨ new.depth < old.pallets.length) := by
  simp [laneBusy]

include read

/-- A lane that holds pallets keeps its zone and their number (R120). -/
theorem loadLane_config (config : s.mode = .config) :
    loadLane l fields s =
      if (s.lane l).pallets ≠ [] ∧ (n.zone ≠ (s.lane l).zone ∨ n.depth < (s.lane l).pallets.length) then
        .refused .busy
      else .accepted [] (s.modLane l fun _ => n) := by
  simp only [loadLane, read, config, laneBusy_iff]

/-- Zone, rail, rail position and depth are structural (R120). -/
theorem loadLane_active (active : s.mode = .active) :
    loadLane l fields s =
      if (s.lane l).loaded = true ∧ n.zone = (s.lane l).zone ∧ n.rail = (s.lane l).rail
          ∧ n.position = (s.lane l).position ∧ n.depth = (s.lane l).depth then
        .accepted [] (s.modLane l fun _ => n)
      else .refused .liveFieldOnly := by
  simp only [loadLane, read, active]

end

section
variable {u : ShuttleIx} {v : Shuttle} (read : readShuttleEntry (s.shuttle u) fields = some v)
include read

theorem loadShuttle_config (config : s.mode = .config) :
    loadShuttle u fields s = .accepted [] (s.modShuttle u fun _ => v) := by
  simp only [loadShuttle, read, config]

/-- The rail layout, home and park are structural; a park time of 0 stops the park timer (R135, R145). -/
theorem loadShuttle_active (active : s.mode = .active) :
    loadShuttle u fields s =
      if (s.shuttle u).loaded = true ∧ v.sameLayout (s.shuttle u) = true then
        .accepted []
          (s.modShuttle u fun _ => { v with parkTimer := if v.parkTime = 0 then none else v.parkTimer })
      else .refused .liveFieldOnly := by
  simp only [loadShuttle, read, active]

end

end

/-! ## What stands behind a load in CONFIG (R57, R102) -/

/-- No selection is made in CONFIG (R102). -/
theorem selectOnce_of_config {z : ZoneIx} {s : State} (config : s.mode = .config) : selectOnce z s = (s, false) :=
  if_neg fun acting => by simp [config] at acting

theorem storeZone_of_not_due {i : ZoneIx} {n : Zone} {policy : UpPolicy} {s : State}
    (policy_ : i ≠ 0 → policy = s.policy)
    (nothing : selectOnce i { s with zones := tset s.zones i n, policy := policy }
      = ({ s with zones := tset s.zones i n, policy := policy }, false)) :
    storeZone i n policy s = { s with zones := tset s.zones i n, policy := policy } := by
  have kept : (if i = 0 then policy else s.policy) = policy := by
    split_ifs with zone
    · rfl
    · exact (policy_ zone).symm
  rw [storeZone_eq, kept, selectZone_of_not_due nothing]

theorem hasProbe_iff {s : State} {c : CoilIx} :
    hasProbe s c = true ↔ ∃ j, (s.probe j).loaded = true ∧ (s.probe j).binding = .coil c := by
  simp [hasProbe, Vector.any_eq_true, State.probe, tget, Fin.exists_iff]

section
variable {s : State} {i : ProbeIx} {f : Probe → Probe} {c : CoilIx}

theorem dropUnboundReadings_coil :
    (dropUnboundReadings s).coil c
      = if hasProbe s c then s.coil c else { s.coil c with probeState := .none, probeValue := none } := tget_ofFn ..

theorem hasProbe_dropUnboundReadings : hasProbe (dropUnboundReadings s) c = hasProbe s c := by
  simp only [hasProbe, dropUnboundReadings]

theorem dropUnboundReadings_of_bound {t : State} (t_eq : t = dropUnboundReadings (s.modProbe i f))
    (bound : ∃ j, (t.probe j).loaded = true ∧ (t.probe j).binding = .coil c) : t.coil c = s.coil c := by
  rw [← hasProbe_iff, t_eq, hasProbe_dropUnboundReadings] at bound
  rw [t_eq, dropUnboundReadings_coil, if_pos bound, State.modProbe_coil]

theorem dropUnboundReadings_of_unbound {t : State} (t_eq : t = dropUnboundReadings (s.modProbe i f))
    (unbound : ∀ j, (t.probe j).loaded = true → (t.probe j).binding ≠ .coil c) :
    t.coil c = { s.coil c with probeState := .none, probeValue := none } := by
  have missing : ¬hasProbe t c = true := fun bound =>
    have ⟨j, loaded, binding⟩ := hasProbe_iff.mp bound
    unbound j loaded binding
  rw [t_eq, hasProbe_dropUnboundReadings] at missing
  rw [t_eq, dropUnboundReadings_coil, if_neg missing, State.modProbe_coil]

end

/-- Settles O30: the decision of each table in CONFIG, or in both modes where all its fields are live, the order of the
refusals, and what a read of the fields keeps of the record. -/
theorem loadsStoreTheirFields : Obligations.LoadsStoreTheirFields := by
  refine ⟨?_, fun _ _ => readClassEntry_fresh, fun _ _ => readCondition_fresh, fun _ _ => readProductClass_loaded,
    fun _ _ _ => readProbe_keeps, fun _ _ _ _ => readZone_keeps, fun _ _ _ => readDock_keeps,
    fun _ _ _ _ => readRoom_keeps, fun _ _ _ => readCoilEntry_keeps, fun _ _ _ => readLane_keeps,
    fun _ _ _ => readShuttleEntry_keeps⟩
  intro s q table index fields from_ loads refused
  have entry {t : Table} {i : Nat} {d : Decision} (named : table.toNat = t.code) (at_ : index.toNat = i)
      (long : t.fieldBytes i ≤ fields.length) (decided : loadTable t i fields s = d) :=
    exec_loadEntry_of_table from_ named at_ long decided
  refine ⟨?_, ?_, ?_, ?_, ?_, ?_, ?_, ?_, ?_, ?_, ?_, ?_, ?_, ?_⟩
  · rintro i e rfl at_ read long
    exact entry (t := .classification) rfl at_ long
      ((loadTable_classification ..).trans (loadClassification_of_read read))
  · rintro i c rfl at_ read long
    exact entry (t := .condition) rfl at_ long ((loadTable_condition ..).trans (loadCondition_of_read read))
  · rintro i c rfl at_ read long
    exact entry (t := .productClass) rfl at_ long
      ((loadTable_productClass ..).trans (loadProductClass_of_read read))
  · rintro r p rfl at_ read long
    exact entry (t := .portal) rfl at_ (fieldBytes_room long) ((loadTable_room ..).trans (loadRoom_of_read read))
  · rintro i p config rfl at_ read long
    exact ⟨_, entry (t := .probe) rfl at_ long ((loadTable_probe ..).trans (loadProbe_config read config)), rfl,
      fun c => ⟨dropUnboundReadings_of_bound rfl, dropUnboundReadings_of_unbound rfl⟩⟩
  · rintro i n config rfl at_ room read long
    have decided := (loadTable_zone ..).trans (loadZone_config read (if_neg room) config)
    rw [storeZone_of_not_due (fun _ => rfl) (selectOnce_of_config config)] at decided
    exact entry (t := .zone) rfl at_ (fieldBytes_zone (by rwa [if_neg room])) decided
  · rintro n policy config rfl rfl read policy_ long
    have decided := (loadTable_zone _ s 0).trans (loadZone_config read ((if_pos rfl).trans policy_) config)
    rw [storeZone_of_not_due (fun room => absurd rfl room) (selectOnce_of_config config)] at decided
    exact entry (t := .zone) rfl rfl long decided
  · rintro p d config rfl at_ read long
    exact entry (t := .portal) rfl at_ (fieldBytes_dock long)
      ((loadTable_dock ..).trans (loadDock_config read config))
  · rintro c k config rfl at_ read long
    exact entry (t := .coil) rfl at_ long ((loadTable_coil ..).trans (loadCoil_config read config))
  · rintro l n config rfl at_ read
    have decided := (loadTable_lane ..).trans (loadLane_config read config)
    refine ⟨fun empty long => ?_, fun full change long => ?_⟩
    · exact entry (t := .lane) rfl at_ long (decided.trans (if_neg fun busy => busy.1 empty))
    · exact entry (t := .lane) rfl at_ long (decided.trans (if_pos ⟨full, change⟩))
  · rintro u v config rfl at_ read long
    exact entry (t := .shuttle) rfl at_ long ((loadTable_shuttle ..).trans (loadShuttle_config read config))
  · intro unknown
    refine exec_loadEntry_of_unknown_table from_ (unknown.imp_left fun zero => ?_)
    rw [zero]
    rfl
  · intro t named above
    exact exec_loadEntry_of_unknown_index from_ named above
  · rintro rfl below long unread
    exact entry (t := .classification) rfl rfl long
      ((loadTable_classification _ s ⟨_, below⟩).trans (loadClassification_of_unread unread))

end Sys2Proof.Machine
end

section
/-! SUPPORT. The time base (R177): a running second, and the exposure interval's expiry, which leaves the mode as it is
and starts the interval again, with the statement O29. -/

namespace Sys2Proof.Machine

/-! ## The exposure expiry and the clock (R62, R177) -/

/-- The mode and the exposure interval are the same. -/
def SameClock (s t : State) : Prop := t.mode = s.mode ∧ t.exposureTimer = s.exposureTimer

theorem SameClock.refl (s : State) : SameClock s s := ⟨rfl, rfl⟩

theorem SameClock.trans {a b c : State} (h : SameClock a b) (k : SameClock b c) : SameClock a c :=
  ⟨k.1.trans h.1, k.2.trans h.2⟩

theorem Ripple.sameClock {s t : State} (h : Ripple s t) : SameClock s t := ⟨h.mode, h.exposureTimer⟩

theorem SameUnits.sameClock {s t : State} (h : SameUnits s t) : SameClock s t := ⟨h.mode, h.exposureTimer⟩

theorem modZone_sameClock (z : ZoneIx) (f : Zone → Zone) (s : State) : SameClock s (s.modZone z f) := ⟨rfl, rfl⟩

theorem raiseNotice_sameClock (k : NoticeKind) (o : NoticeObj) (v : Quad) (s : State) :
    SameClock s (raiseNotice k o v s) := (raiseNotice_portStep ..).units.sameClock

theorem forEach_sameClock {α : Type} (l : List α) (f : α → State → State) (step : ∀ a s, SameClock s (f a s))
    (s : State) : SameClock s (forEach l f s) :=
  forEach_rel SameClock SameClock.refl SameClock.trans l f (fun a _ => step a) s

theorem frostStep_sameClock (z : ZoneIx) (s : State) : SameClock s (frostStep z s) := by
  unfold frostStep
  dsimp only
  split
  · exact SameClock.refl s
  · split
    · exact (modZone_sameClock z _ s).trans (raiseZoneOwed_ripple ..).sameClock
    · exact modZone_sameClock z _ s

theorem zoneAlarmStep_sameClock (z : ZoneIx) (s : State) : SameClock s (zoneAlarmStep z s) := by
  unfold zoneAlarmStep
  dsimp only
  split
  · exact (modZone_sameClock z _ s).trans (raiseNotice_sameClock ..)
  · exact modZone_sameClock z _ s

theorem zoneExpiry_sameClock (z : ZoneIx) (s : State) : SameClock s (zoneExpiry z s) := by
  unfold zoneExpiry
  split
  · exact (modZone_sameClock z _ s).trans ((zoneAlarmStep_sameClock ..).trans (frostStep_sameClock ..))
  · exact SameClock.refl s

theorem quarantineStep_sameClock (i : PalletIx) (s : State) : SameClock s (quarantineStep i s) := by
  unfold quarantineStep
  split
  · exact SameClock.refl s
  · split
    · exact raiseNotice_sameClock ..
    · exact SameClock.refl s

theorem palletExpiry_sameClock (s : State) : SameClock s (palletExpiry s) :=
  have accrued : SameClock s { s with pallets := tmap (Option.map (accruePallet s)) s.pallets } := ⟨rfl, rfl⟩
  accrued.trans (forEach_sameClock (indices 256) quarantineStep quarantineStep_sameClock _)

theorem exposureExpiry_restarts (s : State) :
    (exposureExpiry s).mode = s.mode ∧ (exposureExpiry s).exposureTimer = some 10 :=
  (forEach_sameClock (indices 8) zoneExpiry zoneExpiry_sameClock { s with exposureTimer := some 10 }).trans
    (palletExpiry_sameClock _)

/-! ## Expiry and tick (R177) -/

section
variable {s : State}

theorem exposureDue_of_due (due : s.exposureTimer = some 0) : exposureDue s = exposureExpiry s := if_pos due

theorem exposureDue_of_not_due (early : s.exposureTimer ≠ some 0) : exposureDue s = s := if_neg early

theorem exec_exposureIntervalExpiry : exec .exposureIntervalExpiry s = .next (exposureDue s) := rfl

theorem exec_timeBaseTick_config (config : s.mode = .config) : exec .timeBaseTick s = .next s :=
  congrArg _ (if_neg (by rw [config]; decide))

theorem exec_timeBaseTick_active (active : s.mode = .active) :
    exec .timeBaseTick s = .next (ticked (exposureDue s)) := congrArg _ (if_pos active)

end

/-- Settles O29: an interval that is due expires first and is then not due; a second that passes is `ticked`, table by
table. -/
theorem timeBaseCountsRunningSeconds : Obligations.TimeBaseCountsRunningSeconds := by
  refine ⟨fun s q n from_ => ?_, fun s => exec_timeBaseTick_config,
    fun s early => congrArg _ (exposureDue_of_not_due early), fun s t active due expired => ?_,
    ?_⟩
  · exact congrArg _ (takeRequest_of_admitted from_.2 from_.admits rfl)
  · obtain rfl : exposureExpiry s = t := by
      rw [exec_exposureIntervalExpiry, exposureDue_of_due due] at expired
      exact Host.Outcome.next.inj expired
    obtain ⟨mode, restarted⟩ := exposureExpiry_restarts s
    refine ⟨mode.trans active, restarted, ?_⟩
    rw [exec_timeBaseTick_active active, exec_timeBaseTick_active (mode.trans active), exposureDue_of_due due,
      exposureDue_of_not_due (by rw [restarted]; decide)]
  · intro s active early down
    have tick : exec .timeBaseTick s = .next (ticked s) := by
      rw [exec_timeBaseTick_active active, exposureDue_of_not_due early]
    exact ⟨ticked s, tick, rfl, fun _ => tget_tmap .., fun _ => tget_tmap .., fun _ => tget_tmap ..,
      fun _ => tget_tmap .., fun _ => tget_tmap .., fun _ => tget_tmap .., fun _ => tget_tmap ..⟩

end Sys2Proof.Machine
end

section
/-! SUPPORT. Loads in ACTIVE (R92, R97, R101, R170): a zone that starts no defrost, what the claims and the hold leave
of the coils, and the mark of a hold after a new limit, with the statement O32. -/

namespace Sys2Proof.Machine

/-! ## A zone that starts no defrost (R102 to R104) -/

/-- The loaded coil belongs to the zone. -/
def InZone (s : State) (z : ZoneIx) (d : CoilIx) : Prop := (s.coil d).loaded = true ∧ (s.coil d).zone = z

/-- An unmasked coil of the zone is out of COOL, or the zone has no unmasked coil. -/
def Still (s : State) (z : ZoneIx) : Prop :=
  (∃ d, InZone s z d ∧ (s.coil d).mask = false ∧ (s.coil d).phase ≠ .cool) ∨ ∀ d, InZone s z d → (s.coil d).mask = true

theorem mem_zoneCoils_of_pointerOrder {s : State} {z : ZoneIx} {c : CoilIx} (mem : c ∈ pointerOrder s z) :
    c ∈ zoneCoils s z := by
  rcases List.mem_append.mp mem with mem | mem <;> exact (List.mem_filter.mp mem).1

theorem selectStaggered_of_still {s : State} {z : ZoneIx} (still : Still s z) : selectStaggered z s = (s, false) := by
  rcases still with ⟨d, inZone, -, out⟩ | masked
  · exact if_pos (List.any_eq_true.mpr ⟨d, mem_zoneCoils.mpr inZone, by simpa [Coil.outOfCool] using out⟩)
  · have nobody (quiet : Bool) : ((pointerOrder s z).find? fun c => (s.coil c).eligible quiet) = none := by
      refine List.find?_eq_none.mpr fun c mem => ?_
      have mask := masked c (mem_zoneCoils.mp (mem_zoneCoils_of_pointerOrder mem))
      simp [Coil.eligible, mask]
    simp [selectStaggered, nobody]

theorem selectAll_of_still {s : State} {z : ZoneIx} (still : Still s z) : selectAll z s = (s, false) := by
  refine if_neg fun ready => ?_
  simp only [Bool.and_eq_true, List.all_eq_true, List.any_eq_true, List.mem_filter, mem_zoneCoils,
    Bool.not_eq_true'] at ready
  obtain ⟨⟨cool, -⟩, c, ⟨inZone, open_⟩, -⟩ := ready
  rcases still with ⟨d, inZone, open_, out⟩ | masked
  · exact out (by simpa using (cool d ⟨inZone, open_⟩).1)
  · exact Bool.false_ne_true (open_.symm.trans (masked c inZone))

theorem selectOnce_of_still {s : State} {z : ZoneIx} (still : Still s z) : selectOnce z s = (s, false) := by
  unfold selectOnce
  split
  · split
    · exact selectStaggered_of_still still
    · exact selectAll_of_still still
  · rfl

/-- The coil stays in its zone with its mask, and out of COOL if it was. -/
structure StaysPut (a b : Coil) : Prop where
  loaded : b.loaded = a.loaded
  zone : b.zone = a.zone
  mask : b.mask = a.mask
  out : a.phase ≠ .cool → b.phase ≠ .cool

theorem StaysPut.refl (a : Coil) : StaysPut a a := ⟨rfl, rfl, rfl, id⟩

theorem StaysPut.trans {a b c : Coil} (h : StaysPut a b) (k : StaysPut b c) : StaysPut a c :=
  ⟨k.loaded.trans h.loaded, k.zone.trans h.zone, k.mask.trans h.mask, k.out ∘ h.out⟩

theorem Still.of_staysPut {s t : State} {z : ZoneIx} (still : Still s z)
    (stays : ∀ d, StaysPut (s.coil d) (t.coil d)) : Still t z := by
  have inZone {d : CoilIx} : InZone t z d ↔ InZone s z d := by rw [InZone, InZone, (stays d).loaded, (stays d).zone]
  rcases still with ⟨d, here, open_, out⟩ | masked
  · exact .inl ⟨d, inZone.mpr here, (stays d).mask.trans open_, (stays d).out out⟩
  · exact .inr fun d here => (stays d).mask.trans (masked d (inZone.mp here))

/-- An owed change in a zone that starts no defrost is the report of the mark (R100). -/
theorem owedChanged_of_still {z : ZoneIx} {s : State} (still : Still (reportMark z s).1 z) :
    owedChanged z s = (reportMark z s).1 := selectZone_of_not_due (selectOnce_of_still still)

/-! ## Claims leave the coils as they are (R86, R87, R137) -/

section
variable (r : RoomIx) (u : ShuttleIx) (h : Holder) (s : State)

theorem beginTravel_coils (p : RailPos) (q : Requester) : (beginTravel u p q s).coils = s.coils :=
  (originateOrder_portStep ..).units.coils

theorem beginHoming_coils : (beginHoming u s).coils = s.coils := (originateOrder_portStep ..).units.coils

theorem testWaiting_coils : (testWaiting u s).coils = s.coils := by
  have armed : (testArmed u s).coils = s.coils := by
    unfold testArmed
    split
    · split
      · exact beginTravel_coils ..
      · rfl
    · rfl
  refine Eq.trans ?_ armed
  unfold testWaiting testHoming
  dsimp only
  split
  · exact beginHoming_coils ..
  · rfl

theorem tellReady_coils : (tellReady r u s).coils = s.coils := testWaiting_coils ..

theorem askOpen_coils : (askOpen r s).coils = s.coils := (originateDoor_portStep ..).units.coils

theorem openForEntry_coils : (openForEntry r s).coils = s.coils := askOpen_coils ..

theorem actOnEntry_coils : (actOnEntry r u s).coils = s.coils := by
  unfold actOnEntry
  split
  · exact openForEntry_coils ..
  · exact openForEntry_coils ..
  · exact openForEntry_coils ..
  · split
    · rfl
    · exact askOpen_coils ..
  · exact tellReady_coils ..
  · rfl

theorem formEntry_coils : (formEntry r u h s).coils = s.coils :=
  (testWaiting_coils ..).trans ((actOnEntry_coils ..).trans (withdrawCommands_portStep ..).units.coils)

theorem joinEntry_coils : (joinEntry r u h s).coils = s.coils := by
  unfold joinEntry
  dsimp only
  split
  · exact tellReady_coils ..
  · rfl

theorem grantClaim_coils : (grantClaim r u h s).coils = s.coils := by
  unfold grantClaim
  split
  · exact joinEntry_coils ..
  · exact formEntry_coils ..

theorem grantWaiting_coils : (grantWaiting r s).coils = s.coils := by
  unfold grantWaiting
  refine forEach_keeps State.coils _ _ (fun w t => ?_) s
  exact grantClaim_coils ..

theorem setHold_coils : (setHold r s).coils = s.coils :=
  (withdrawCommands_portStep ..).units.coils

end

/-! ## A hold's grant with pump-down times (R91, R107, R108) -/

theorem commandCoil_phase (c d : CoilIx) (p : CmdPhase) (s : State) :
    ((commandCoil c p s).coil d).phase = (s.coil d).phase := by
  have sent (d : CoilIx) : (originateCoil c p s).coil d = s.coil d :=
    congrArg (tget · d) (originateCoil_portStep c p s).units.coils
  rw [commandCoil, State.coil_modCoil]
  split
  · next same => rw [sent, same]
  · rw [sent]

theorem enterPumpDown_phase (c d : CoilIx) (s : State) :
    ((enterPumpDown c s).coil d).phase = if c = d then .pumpDown else (s.coil d).phase := by
  have told : (enterPumpDown c s).coils = ((commandCoil c .pumpDown s).modCoil c fun k =>
      { k with phase := .pumpDown, phaseTimer := some k.pumpDown }).coils := (raiseNotice_portStep ..).units.coils
  rw [State.coil, told, ← State.coil, State.coil_modCoil]
  split
  · rfl
  · exact commandCoil_phase ..

theorem SameCoil.fixed {a b : Coil} (same : SameCoil a b) :
    b.loaded = a.loaded ∧ b.zone = a.zone ∧ b.mask = a.mask ∧ b.pumpDown = a.pumpDown := by
  rw [SameCoil] at same
  rw [same]
  exact ⟨rfl, rfl, rfl, rfl⟩

theorem staysPut_of_claimStep {s t : State} (step : ClaimStep s t)
    (out : ∀ d, (s.coil d).phase ≠ .cool → (t.coil d).phase ≠ .cool) (d : CoilIx) : StaysPut (s.coil d) (t.coil d) :=
  have ⟨loaded, zone, mask, _⟩ := (step.coils d).fixed
  ⟨loaded, zone, mask, out d⟩

theorem enterPumpDown_staysPut (c : CoilIx) (s : State) (d : CoilIx) :
    StaysPut (s.coil d) ((enterPumpDown c s).coil d) := by
  refine staysPut_of_claimStep (enterPumpDown_claimStep c s) (fun d out => ?_) d
  rw [enterPumpDown_phase]
  split
  · decide
  · exact out

theorem forEach_enterPumpDown_staysPut (cs : List CoilIx) (s : State) (d : CoilIx) :
    StaysPut (s.coil d) ((forEach cs enterPumpDown s).coil d) :=
  forEach_rel (fun s t => StaysPut (s.coil d) (t.coil d)) (fun _ => StaysPut.refl _) StaysPut.trans cs enterPumpDown
    (fun c _ s => enterPumpDown_staysPut c s d) s

theorem forEachCoil_of_idle {f : CoilIx → State → State × Bool} {cs : List CoilIx} {s : State}
    (idle : ∀ c ∈ cs, f c s = (s, false)) : forEachCoil f cs s = (s, false) := by
  induction cs with
  | nil => rfl
  | cons c cs ih =>
    simp only [forEachCoil, idle c (by simp), ih fun d mem => idle d (by simp [mem]), Bool.or_self]

/-- Coils whose pump-down times are not 0 stay in PUMP_DOWN (R108). -/
theorem startPumpDown_of_lasting {cs : List CoilIx} {s : State} (lasting : ∀ c ∈ cs, (s.coil c).pumpDown ≠ 0) :
    startPumpDown cs s = (forEach cs enterPumpDown s, false) := by
  refine forEachCoil_of_idle fun c mem => if_neg ?_
  have step := forEach_claimStep cs enterPumpDown (fun c _ s => enterPumpDown_claimStep c s) s
  obtain ⟨-, -, -, pumpDown⟩ := (step.coils c).fixed
  exact pumpDown ▸ lasting c mem

/-- The coils of a room's zone that wait for its hold. -/
def holdWaiters (r : RoomIx) (s : State) : List CoilIx :=
  (zoneCoils (setHold r s) (roomZone r)).filter fun c => ((setHold r s).coil c).phase == .portalWait

/-- A hold granted to coils whose pump-down times are not 0: no selection is due, and no coil returns to COOL. -/
theorem grantHold_of_lasting {r : RoomIx} {s : State}
    (lasting : ∀ d, InZone s (roomZone r) d → (s.coil d).phase = .portalWait → (s.coil d).pumpDown ≠ 0) :
    (grantHold r s).2 = false ∧ ∀ d, StaysPut (s.coil d) ((grantHold r s).1.coil d) := by
  have same (d : CoilIx) : (setHold r s).coil d = s.coil d := congrArg (tget · d) (setHold_coils r s)
  have started : grantHold r s = (forEach (holdWaiters r s) enterPumpDown (setHold r s), false) := by
    refine startPumpDown_of_lasting fun c mem => ?_
    obtain ⟨here, waits⟩ := List.mem_filter.mp mem
    rw [mem_zoneCoils, same] at here
    rw [same] at waits ⊢
    exact lasting c here (by simpa using waits)
  rw [started]
  exact ⟨rfl, fun d => same d ▸ forEach_enterPumpDown_staysPut ..⟩

/-! ## The mark of a hold (R92, R100) -/

theorem requestMark_iff {s : State} {z : ZoneIx} : requestMark s z = true ↔
    ∃ d, (s.coil d).loaded = true ∧ (s.coil d).zone = z ∧ (s.coil d).forced = true
      ∧ ((s.coil d).group = true ∨ (s.coil d).phase = .portalWait ∨ (s.coil d).phase = .pumpDown
        ∨ (s.coil d).phase = .heat ∨ (s.coil d).phase = .drip) := by
  have request (k : Coil) : k.inRequest = true ↔ k.group = true ∨ k.phase = .portalWait ∨ k.phase = .pumpDown
      ∨ k.phase = .heat ∨ k.phase = .drip := by
    cases phase : k.phase <;> simp [Coil.inRequest, CoilPhase.underHold, phase]
  simp only [requestMark, List.any_eq_true, mem_zoneCoils, Bool.and_eq_true, request, and_assoc]
  exact exists_congr fun d => by tauto

theorem Room.holdGrantable_iff {p : Room} : p.holdGrantable = true ↔ p.claims = [] ∧ p.state = .closed := by
  simp [Room.holdGrantable]

section
variable {r : RoomIx} {s : State}

/-- The report of a room zone's mark (R92). -/
theorem reportMark_roomZone : reportMark (roomZone r) s =
    if (s.room r).hold = .clear ∨ (s.room r).holdForced = requestMark s (roomZone r) then (s, false)
    else if (s.room r).hold = .waiting then
      if (s.room r).holdGrantable then
        grantHold r (s.modRoom r fun p => { p with holdForced := requestMark s (roomZone r) })
      else
        (if requestMark s (roomZone r) then s.modRoom r fun p => { p with holdForced := requestMark s (roomZone r) }
        else grantWaiting r (s.modRoom r fun p => { p with holdForced := requestMark s (roomZone r) }), false)
    else (s.modRoom r fun p => { p with holdForced := requestMark s (roomZone r) }, false) := by
  simp only [reportMark, zoneRoom?_roomZone]

end

/-- The room portal of a hold with the mark of its zone's request stored. -/
def marked (r : RoomIx) (s : State) : State :=
  s.modRoom r fun p => { p with holdForced := requestMark s (roomZone r) }

section
variable {r : RoomIx} {s : State}

theorem reportMark_of_stored (held : (s.room r).hold ≠ .clear)
    (stored : (s.room r).hold = .set ∨ requestMark s (roomZone r) = (s.room r).holdForced) :
    reportMark (roomZone r) s = (marked r s, false) := by
  rw [reportMark_roomZone]
  split
  · next same =>
    have unchanged : (s.room r).holdForced = requestMark s (roomZone r) := same.resolve_left held
    have whole : marked r s = s := by
      rw [marked, ← unchanged]
      exact congrArg (fun rooms => { s with rooms := rooms }) (tset_tget s.rooms r)
    rw [whole]
  · next changed =>
    rw [if_neg]
    · rfl
    · intro waits
      rw [waits] at stored
      exact changed (.inr (stored.resolve_left (by decide)).symm)

theorem reportMark_of_changed (waits : (s.room r).hold = .waiting)
    (changed : requestMark s (roomZone r) ≠ (s.room r).holdForced) :
    reportMark (roomZone r) s =
      if (s.room r).holdGrantable then grantHold r (marked r s)
      else (if requestMark s (roomZone r) then marked r s else grantWaiting r (marked r s), false) := by
  rw [reportMark_roomZone, if_neg, if_pos waits]
  · rfl
  · rintro (clear | same)
    · cases clear.symm.trans waits
    · exact changed same.symm

/-- WAITING_CLAIM_GRANT beside a hold that waits unforced (R92). -/
theorem exec_waitingClaimGrant_of_unforced (waits : (s.room r).hold = .waiting)
    (unforced : (s.room r).holdForced = false) : exec (.waitingClaimGrant r) s = .next (grantWaiting r s) :=
  congrArg _ (if_pos (by simp [Room.mayGrantWaiting, waits, unforced]))

/-- HOLD_GRANT of a hold that may be granted, to coils whose pump-down times are not 0 (R91). -/
theorem exec_holdGrant_of_lasting (waits : (s.room r).hold = .waiting) (free : (s.room r).holdGrantable = true)
    (lasting : ∀ d, InZone s (roomZone r) d → (s.coil d).phase = .portalWait → (s.coil d).pumpDown ≠ 0) :
    exec (.holdGrant r) s = .next (grantHold r s).1 := by
  have examined : examineHold r s = grantHold r s := if_pos ⟨waits, free⟩
  have settled : thenSelect (roomZone r) (examineHold r s) = (grantHold r s).1 := by
    rw [examined]
    exact if_neg (by rw [(grantHold_of_lasting lasting).1]; exact Bool.false_ne_true)
  exact congrArg _ settled

end

/-! ## A coil with a new limit (R101) -/

theorem Coil.newLimit_zone (k : Coil) : k.newLimit.zone = k.zone := by
  unfold Coil.newLimit
  split_ifs <;> rfl

/-- The record that a load in ACTIVE stores: an unchanged L does nothing to the owed count (log entry 19). -/
def Coil.reloaded (old k : Coil) : Coil := if k.limit = old.limit then k else k.newLimit

theorem Coil.reloaded_zone (old k : Coil) : (Coil.reloaded old k).zone = k.zone := by
  unfold Coil.reloaded
  split_ifs
  · rfl
  · exact k.newLimit_zone

theorem readCoilEntry_runtime {old k : Coil} {l : List Byte} (read : readCoilEntry old l = some k) :
    k.loaded = true ∧ k.mask = old.mask ∧ k.phase = old.phase ∧ k.owed = old.owed := by
  rw [readCoilEntry_keeps read]
  exact ⟨rfl, rfl, rfl, rfl⟩

theorem Coil.reloaded_staysPut {old k : Coil} {l : List Byte} (read : readCoilEntry old l = some k)
    (loaded : old.loaded = true) (zone : k.zone = old.zone) : StaysPut old (Coil.reloaded old k) := by
  obtain ⟨loaded', mask, phase, -⟩ := readCoilEntry_runtime read
  have put : StaysPut old k := ⟨loaded'.trans loaded.symm, zone, mask, fun out => phase ▸ out⟩
  unfold Coil.reloaded Coil.newLimit
  split_ifs <;> exact ⟨put.loaded, put.zone, put.mask, put.out⟩

/-- The owed count that the new limit meets is the record's own (R101). -/
theorem Coil.reloaded_eq {old k : Coil} {l : List Byte} (read : readCoilEntry old l = some k) :
    Coil.reloaded old k =
      if k.limit = old.limit then k
      else if k.limit < old.owed then { k with owed := k.limit, forced := true }
      else if k.limit = old.owed then { k with forced := true }
      else { k with forced := false } := by
  obtain ⟨-, -, -, owed⟩ := readCoilEntry_runtime read
  rw [Coil.reloaded, Coil.newLimit, owed]

section
variable {fields : List Byte} {s : State} {c : CoilIx} {k : Coil}

/-- The state that the load leaves before the mark is reported. -/
def withReloaded (s : State) (c : CoilIx) (k : Coil) : State := s.modCoil c fun old => Coil.reloaded old k

theorem loadCoil_of_live (active : s.mode = .active) (read : readCoilEntry (s.coil c) fields = some k)
    (loaded : (s.coil c).loaded = true) (zone : k.zone = (s.coil c).zone) (ordered : k.start ≤ k.limit) :
    loadCoil c fields s = .accepted [] (owedChanged k.zone (withReloaded s c k)) := by
  rw [loadCoil_active read active, if_neg (by simp [loaded, zone]), if_neg (not_lt.mpr ordered),
    ← Coil.reloaded, Coil.reloaded_zone]
  rfl

theorem withReloaded_staysPut (read : readCoilEntry (s.coil c) fields = some k)
    (loaded : (s.coil c).loaded = true) (zone : k.zone = (s.coil c).zone) (d : CoilIx) :
    StaysPut (s.coil d) ((withReloaded s c k).coil d) := by
  rw [withReloaded, State.coil_modCoil]
  split
  · next same => exact same ▸ Coil.reloaded_staysPut read loaded zone
  · exact StaysPut.refl _

end

/-! ## Loads in ACTIVE, table by table -/

theorem storeZone_of_still {fields : List Byte} {s : State} {i : ZoneIx} (still : Still s i) (n : Zone)
    {policy : UpPolicy} (policy_ : if i = 0 then readPolicy fields = some policy else policy = s.policy) :
    storeZone i n policy s = { s with zones := tset s.zones i n, policy := policy } :=
  storeZone_of_not_due (fun room => (if_neg room).mp policy_) (selectOnce_of_still still)

theorem Shuttle.sameLayout_iff {a b : Shuttle} : a.sameLayout b = true ↔ a.dockLow = b.dockLow
    ∧ a.dockHigh = b.dockHigh ∧ a.roomA = b.roomA ∧ a.roomB = b.roomB ∧ a.homePos = b.homePos
    ∧ a.parkPos = b.parkPos := by
  simp [Shuttle.sameLayout, and_assoc]

/-- A shuttle that is loaded with its layout as it was changes in its live fields alone. -/
theorem Shuttle.eq_of_sameLayout {old v : Shuttle} {fields : List Byte} (read : readShuttleEntry old fields = some v)
    (loaded : old.loaded = true) (same : v.sameLayout old = true) :
    v = { old with pitch := v.pitch, settle := v.settle, handling := v.handling, parkTime := v.parkTime } := by
  obtain ⟨low, high, roomA, roomB, home, park⟩ := Shuttle.sameLayout_iff.mp same
  refine (readShuttleEntry_keeps read).trans ?_
  rw [low, high, roomA, roomB, home, park, loaded]

/-! ## The owed change of a load (R92, R100) -/

section
variable {r : RoomIx} {s : State} {z : ZoneIx}

theorem owedChanged_of_unheld (unheld : z = 0 ∨ ∃ r, z = roomZone r ∧ (s.room r).hold = .clear) (still : Still s z) :
    owedChanged z s = s := by
  refine owedChanged_of_idle (fun r' room => ?_) (selectOnce_of_still still)
  rcases unheld with rfl | ⟨r, rfl, clear⟩
  · cases room
  · obtain rfl := Option.some.inj ((zoneRoom?_roomZone r).symm.trans room)
    exact clear

variable (still : Still s (roomZone r))
include still

theorem owedChanged_of_stored (held : (s.room r).hold ≠ .clear)
    (stored : (s.room r).hold = .set ∨ requestMark s (roomZone r) = (s.room r).holdForced) :
    owedChanged (roomZone r) s = marked r s := by
  have report := reportMark_of_stored held stored
  rw [owedChanged_of_still (by rw [report]; exact still), report]

variable (waits : (s.room r).hold = .waiting) (changed : requestMark s (roomZone r) ≠ (s.room r).holdForced)
include waits changed

theorem owedChanged_of_forced (barred : ¬(s.room r).holdGrantable = true) (mark : requestMark s (roomZone r) = true) :
    owedChanged (roomZone r) s = marked r s := by
  have report := (reportMark_of_changed waits changed).trans (if_neg barred)
  rw [if_pos mark] at report
  rw [owedChanged_of_still (by rw [report]; exact still), report]

/-- The mark of a WAITING hold fell: the waiting list is granted (R92). -/
theorem owedChanged_of_unforced (barred : ¬(s.room r).holdGrantable = true)
    (mark : requestMark s (roomZone r) = false) :
    exec (.waitingClaimGrant r) (marked r s) = .next (owedChanged (roomZone r) s) := by
  have report := (reportMark_of_changed waits changed).trans (if_neg barred)
  rw [if_neg (ne_true_of_eq_false mark)] at report
  have granted : Still (grantWaiting r (marked r s)) (roomZone r) := by
    refine still.of_staysPut fun d => ?_
    rw [State.coil, State.coil, grantWaiting_coils]
    exact StaysPut.refl _
  have room : (marked r s).room r = { s.room r with holdForced := requestMark s (roomZone r) } :=
    State.room_modRoom_self ..
  rw [owedChanged_of_still (by rw [report]; exact granted), report]
  exact exec_waitingClaimGrant_of_unforced (by rw [room]; exact waits) (by rw [room]; exact mark)

/-- The mark of a WAITING hold changed and the door is free: the hold is granted (R91, R92). -/
theorem owedChanged_of_granted (free : (s.room r).holdGrantable = true)
    (lasting : ∀ d, InZone s (roomZone r) d → (s.coil d).phase = .portalWait → (s.coil d).pumpDown ≠ 0) :
    exec (.holdGrant r) (marked r s) = .next (owedChanged (roomZone r) s) := by
  have report := (reportMark_of_changed waits changed).trans (if_pos free)
  have granted : Still (grantHold r (marked r s)).1 (roomZone r) :=
    still.of_staysPut (grantHold_of_lasting (s := marked r s) lasting).2
  have room : (marked r s).room r = { s.room r with holdForced := requestMark s (roomZone r) } :=
    State.room_modRoom_self ..
  rw [owedChanged_of_still (by rw [report]; exact granted), report]
  exact exec_holdGrant_of_lasting (by rw [room]; exact waits) (by rw [room]; exact free) lasting

end

/-- The owed change of a held room zone by its hold and its mark: what holds of the state it leaves holds of the marked
state, or of what WAITING_CLAIM_GRANT or HOLD_GRANT makes of it (R91, R92). -/
theorem owedChanged_by_mark {r : RoomIx} {s : State} {out : State → Prop} (left : out (owedChanged (roomZone r) s))
    (still : Still s (roomZone r)) (held : (s.room r).hold ≠ .clear) :
    let mark := requestMark s (roomZone r)
    let grantable : Prop := (s.room r).claims = [] ∧ (s.room r).state = .closed
    ((s.room r).hold = .set ∨ mark = (s.room r).holdForced → out (marked r s))
    ∧ ((s.room r).hold = .waiting → mark ≠ (s.room r).holdForced →
      (¬grantable → mark = true → out (marked r s))
      ∧ (¬grantable → mark = false → ∀ t, exec (.waitingClaimGrant r) (marked r s) = .next t → out t)
      ∧ (grantable →
        (∀ d, InZone s (roomZone r) d → (s.coil d).phase = .portalWait → (s.coil d).pumpDown ≠ 0) →
        ∀ t, exec (.holdGrant r) (marked r s) = .next t → out t)) := by
  intro mark grantable
  have free_iff : (s.room r).holdGrantable = true ↔ grantable := Room.holdGrantable_iff
  refine ⟨fun stored => ?_, fun waits changed => ⟨fun barred forced => ?_, fun barred unforced t granted => ?_,
    fun free lasting t granted => ?_⟩⟩
  · exact owedChanged_of_stored still held stored ▸ left
  · exact owedChanged_of_forced still waits changed (mt free_iff.mp barred) forced ▸ left
  · have step := owedChanged_of_unforced still waits changed (mt free_iff.mp barred) unforced
    exact Host.Outcome.next.inj (step.symm.trans granted) ▸ left
  · have step := owedChanged_of_granted still waits changed (free_iff.mpr free) lasting
    exact Host.Outcome.next.inj (step.symm.trans granted) ▸ left

/-- Settles O32: the decision of each table in ACTIVE; a coil's load reports the mark of its zone's hold, and no
selection follows in a zone that starts no defrost. -/
theorem structuralFieldsAreFixedWhileActive : Obligations.StructuralFieldsAreFixedWhileActive := by
  intro s q index fields from_ active refused fixed taken mine still
  have entry {t : Table} {i : Nat} {d : Decision} (at_ : index.toNat = i) (long : t.fieldBytes i ≤ fields.length)
      (decided : loadTable t i fields s = d) :
      exec (.loadEntry q (byteOf t.code) index fields) s = .next (d.answer q s) :=
    exec_loadEntry_of_table from_ (toNat_byteOf (by cases t <;> decide)) at_ long decided
  refine ⟨?_, ?_, ?_, ?_, ?_, ?_⟩
  · intro i p long at_ read
    have decided := (loadTable_probe fields s i).trans (loadProbe_active read active)
    refine ⟨fun changed => ?_, fun loaded binding => ?_⟩
    · refine entry (t := .probe) at_ long (decided.trans (if_neg fun ⟨loaded, binding⟩ => ?_))
      simp [loaded, binding] at changed
    · exact entry (t := .probe) at_ long (decided.trans (if_pos ⟨loaded, binding⟩))
  · intro i n long at_ read policy policy_
    have readPolicy_ : (if i = 0 then readPolicy fields else some s.policy) = some policy := by
      split_ifs at policy_ ⊢
      · exact policy_
      · exact congrArg some policy_.symm
    have decided := (loadTable_zone fields s i).trans (loadZone_active read readPolicy_ active)
    refine ⟨fun changed => ?_, fun same turned => ?_, fun same warn eWarn still_ => ?_⟩
    · exact entry (t := .zone) at_ (fieldBytes_zone long) (decided.trans (if_pos changed))
    · refine entry (t := .zone) at_ (fieldBytes_zone long)
        (decided.trans ((if_neg (not_not.mpr same)).trans (if_neg ?_)))
      simpa [Zone.ordered, imp_iff_not_or] using turned
    · have ordered : n.ordered = true := by simp [Zone.ordered, warn, eWarn]
      rw [← storeZone_of_still still_ n policy_]
      exact entry (t := .zone) at_ (fieldBytes_zone long)
        (decided.trans ((if_neg (not_not.mpr same)).trans (if_pos ordered)))
  · intro i d long at_ read
    have decided := (loadTable_dock fields s i).trans (loadDock_active read active)
    refine ⟨fun changed => ?_, fun loaded receive dispatch => ?_⟩
    · exact entry (t := .portal) at_ (fieldBytes_dock long) (decided.trans (if_pos changed))
    · have live := decided.trans (if_neg (by simp [loaded, receive, dispatch]))
      refine ⟨fun ordered => ?_, fun turned => ?_⟩
      · exact entry (t := .portal) at_ (fieldBytes_dock long) (live.trans (if_pos ordered))
      · exact entry (t := .portal) at_ (fieldBytes_dock long) (live.trans (if_neg (not_lt.mpr turned)))
  · intro i k long at_ read old owes
    refine ⟨fun changed => ?_, fun loaded zone => ⟨fun turned => ?_, fun ordered still_ => ?_⟩⟩
    · exact entry (t := .coil) at_ long
        ((loadTable_coil fields s i).trans ((loadCoil_active read active).trans (if_pos changed)))
    · have live := (loadCoil_active read active).trans
        (if_neg (not_or.mpr ⟨ne_false_of_eq_true loaded, not_not.mpr zone⟩))
      exact entry (t := .coil) at_ long ((loadTable_coil fields s i).trans (live.trans (if_pos turned)))
    · let u : State := { s with coils := tset s.coils i owes }
      have reloaded : withReloaded s i k = u :=
        congrArg (fun k => { s with coils := tset s.coils i k }) (Coil.reloaded_eq read)
      have stays := reloaded ▸ withReloaded_staysPut read loaded zone
      have still_u : Still u k.zone := Still.of_staysPut still_ stays
      have decided := entry (t := .coil) at_ long
        ((loadTable_coil fields s i).trans (loadCoil_of_live active read loaded zone ordered))
      rw [reloaded] at decided
      refine ⟨fun unheld => ?_, ?_⟩
      · rw [owedChanged_of_unheld (s := u) unheld still_u] at decided
        exact decided
      · intro r b here held p t grantable mark
        rw [here] at decided still_u mark
        have mark_u : requestMark u (roomZone r) = b := Bool.eq_iff_iff.mpr (requestMark_iff.trans mark.symm)
        have marked_u : marked r u = t := by
          rw [marked, mark_u]
          rfl
        have same (d : CoilIx) : InZone u (roomZone r) d → mine k.zone d := fun ⟨loaded_u, zone_u⟩ =>
          ⟨(stays d).loaded.symm.trans loaded_u, ((stays d).zone.symm.trans zone_u).trans here.symm⟩
        have by_mark := owedChanged_by_mark (out := taken 6#8) decided still_u held
        simp only [mark_u, marked_u] at by_mark
        obtain ⟨stored, waiting⟩ := by_mark
        refine ⟨stored, fun waits changed => ?_⟩
        obtain ⟨forced, unforced, granted⟩ := waiting waits changed
        exact ⟨forced, unforced, fun free lasting => granted free fun d inZone => lasting d (same d inZone)⟩
  · intro i n long at_ read
    have decided := (loadTable_lane fields s i).trans (loadLane_active read active)
    refine ⟨fun changed => ?_, fun loaded live => ?_⟩
    · refine entry (t := .lane) at_ long (decided.trans (if_neg fun ⟨loaded, zone, rail, position, depth⟩ => ?_))
      simp [loaded, zone, rail, position, depth] at changed
    · refine entry (t := .lane) at_ long (decided.trans (if_pos ?_))
      rw [live]
      exact ⟨loaded, rfl, rfl, rfl, rfl⟩
  · intro i v long at_ read old moved
    have decided := (loadTable_shuttle fields s i).trans (loadShuttle_active read active)
    have same_iff : v.sameLayout old = true ↔ ¬moved := by
      simp only [Shuttle.sameLayout_iff, moved, not_or, not_not]
    refine ⟨fun changed => ?_, fun loaded kept => ?_⟩
    · refine entry (t := .shuttle) at_ long (decided.trans (if_neg fun ⟨loaded, same⟩ => ?_))
      exact changed.elim (fun unloaded => Bool.false_ne_true (unloaded.symm.trans loaded)) (same_iff.mp same)
    · have eq := Shuttle.eq_of_sameLayout read loaded (same_iff.mpr kept)
      have record : { v with parkTimer := if v.parkTime = 0 then none else v.parkTimer }
          = { old with
              pitch := v.pitch, settle := v.settle, handling := v.handling, parkTime := v.parkTime
              parkTimer := if v.parkTime = 0 then none else old.parkTimer } := by
        rw [eq]
      rw [← record]
      exact entry (t := .shuttle) at_ long (decided.trans (if_pos ⟨loaded, same_iff.mpr kept⟩))

end Sys2Proof.Machine
end

section
/-! SUPPORT. The command gate (section 3): a bound ACT_COMMAND reaches the gate, the built-in checks of Table 3-2, the
interlock conditions with the subjects of Table 3-5, and the placement, with the statements O20 and O21. -/

namespace Sys2Proof.Machine

/-! ## The way to the gate (R20, R21, R32) -/

/-- The frame of an ACT_COMMAND row. -/
def actFrame (h : Header) (action argument : Byte) (extra : List Byte) : Frame :=
  headerFrame h 0x20#8 ([action, argument] ++ extra)

theorem action?_of_le {n : Nat} (le : n ≤ 5) : ∃ a, action? n = some a := by
  interval_cases n <;> exact ⟨_, rfl⟩

/-- A known action for a target in service passes the classifier's tests (R20, R21). -/
theorem matchedDown_of_command {f : Frame} {s : State} {e : Fin 128} {b : Bound} {t : Target} {a : Action}
    (long : (s.entry e).tooLong f = false) (kind : f.kind = kindActCommand) (object : (s.entry e).object = b)
    (target : b.target? = some t) (read : readAction f.payload = some a) (service : b.inService s = true) :
    matchedDown e f s = gateCommand e f b t a s := by
  simp [matchedDown, long, kind, matchedCommand, object, target, read, service]

section
variable {s : State} {h : Header} {action argument : Byte} {extra : List Byte} {e : Fin 128} {b : Bound} {t : Target}
  {a : Action}

/-- A command that its entry binds to a target in service is decided by the gate, its hit counted (R18, R32). -/
theorem exec_actCommand_bound (bound : BoundDown s h (2 + extra.length) e b) (target : b.target? = some t)
    (known : action? action.toNat = some a) (service : b.inService s = true) :
    exec (.actCommand h action argument extra) s
      = .next (gateCommand e (actFrame h action argument extra) b t a (countHit e s)) := by
  have length : (actFrame h action argument extra).payload.length = 2 + extra.length :=
    Nat.add_comm extra.length 2
  have long : ((countHit e s).entry e).tooLong (actFrame h action argument extra) = false := by
    rw [countHit_tooLong]
    exact ClassEntry.tooLong_eq_false (length ▸ bound.admitted)
  rw [exec_trunk_row (f := actFrame h action argument extra) rfl bound.active bound.dest bound.other
      (length ▸ bound.fits), classifyDown_of_matched bound.active bound.matched,
    matchedDown_of_command long rfl ((countHit_object e s).trans bound.object) target known
      ((Bound.inService_countHit e s b).trans service)]

end

/-! ## The steps of the gate (Table 3-1) -/

section
variable {e : Fin 128} {f : Frame} {b : Bound} {t : Target} {a : Action} {s : State}

theorem gateCommand_of_builtIn {why : GateReason} (check : builtInRefusal? s t a = some why) :
    gateCommand e f b t a s = refuseCommand f (byteOf why.code) 0xFF#8 s := by
  rw [gateCommand, check]
  rfl

theorem gateCommand_of_condition {i : Fin 64} (check : builtInRefusal? s t a = none)
    (refusing : refusingEntry? s b a = some i) : gateCommand e f b t a s = refuseByCondition f i s := by
  rw [gateCommand, check, refusing]

theorem gateCommand_of_passed (check : builtInRefusal? s t a = none) (refusing : refusingEntry? s b a = none) :
    gateCommand e f b t a s = placeCommand e f b t a s := by
  rw [gateCommand, check, refusing]

/-- The checks of the gate do not read the classification table. -/
theorem builtInRefusal?_countHit (e : Fin 128) (s : State) (t : Target) (a : Action) :
    builtInRefusal? (countHit e s) t a = builtInRefusal? s t a := rfl

theorem refusingEntry?_countHit (e : Fin 128) (s : State) (b : Bound) (a : Action) :
    refusingEntry? (countHit e s) b a = refusingEntry? s b a := rfl

/-! ## The interlock conditions (R44 to R46) -/

/-- Types are compared exactly: a DOOR entry covers no SEAL command of the same portal (R44). -/
theorem CondTarget.covers_iff {c : CondTarget} (coil : ∀ k, b ≠ .coil k) (shuttle : ∀ u, b ≠ .shuttle u) :
    c.covers b = true ↔
      (∃ i, b = .door i ∧ (c = .door none ∨ c = .door (some i)))
        ∨ (∃ i, b = .seal i ∧ (c = .seal none ∨ c = .seal (some i)))
        ∨ (∃ k, b = .actuator k ∧ (c = .actuator none ∨ c = .actuator (some k))) := by
  cases b
  case coil k => exact absurd rfl (coil k)
  case shuttle u => exact absurd rfl (shuttle u)
  all_goals cases c <;> simp [CondTarget.covers, anyOr_iff]

/-- The targets that the built-in checks let pass are no objects of the part's own (R36). -/
theorem not_owned_of_passed (target : b.target? = some t) (check : builtInRefusal? s t a = none) :
    (∀ k, b ≠ .coil k) ∧ ∀ u, b ≠ .shuttle u := by
  constructor <;> rintro x rfl <;> cases target <;> cases check

theorem Condition.applies_iff {c : Condition} :
    c.applies b a = true ↔ c.enabled = true ∧ (c.action = none ∨ c.action = some a) ∧ c.target.covers b = true := by
  simp [Condition.applies, anyOr_iff, and_assoc]

theorem Condition.holds_iff {c : Condition} :
    c.holds s = true ↔ ∃ v, subjectValue? s c.subject = some v ∧ c.cmp.holds v c.reference = true := by
  unfold Condition.holds
  cases subjectValue? s c.subject <;> simp

theorem Cmp.holds_iff {cmp : Cmp} {value reference : Int} :
    cmp.holds value reference = true ↔
      match cmp with
      | .eq => value = reference
      | .ne => value ≠ reference
      | .gt => reference < value
      | .ge => reference ≤ value
      | .lt => value < reference
      | .le => value ≤ reference := by
  cases cmp <;> exact decide_eq_true_iff

theorem refusingEntry?_eq_some_iff {i : Fin 64} :
    refusingEntry? s b a = some i ↔
      ((s.condition i).applies b a = true ∧ ¬(s.condition i).holds s = true)
        ∧ ∀ j < i, (s.condition j).applies b a = true → (s.condition j).holds s = true := by
  simp [refusingEntry?, tfind_eq_some_iff, State.condition]

theorem refusingEntry?_eq_none_iff :
    refusingEntry? s b a = none ↔ ∀ i, (s.condition i).applies b a = true → (s.condition i).holds s = true := by
  simp [refusingEntry?, tfind_eq_none_iff, State.condition]

theorem refusingEntry?_of_disabled (disabled : ∀ i, (s.condition i).enabled = false) :
    refusingEntry? s b a = none :=
  refusingEntry?_eq_none_iff.mpr fun i applies =>
    absurd ((disabled i).symm.trans (Condition.applies_iff.mp applies).1) Bool.false_ne_true

/-! ## Placement (R38 to R41) -/

theorem placeForwarded_of_busy {target : Option Bound} (busy : s.fieldTx ≠ none) :
    placeForwarded f target s = { s with forwarded := s.forwarded ++ [{ frame := f, target := target }] } :=
  kickField_of_busy (s := { s with forwarded := s.forwarded ++ [{ frame := f, target := target }] }) busy

theorem placeCommand_of_full (full : 16 ≤ s.forwarded.length) :
    placeCommand e f b t a s = refuseCommand f 7#8 0xFF#8 (countEvent .trunk .overflow s) :=
  if_pos (decide_eq_true full)

theorem placeCommand_of_room (room : s.forwarded.length < 16) (busy : s.fieldTx ≠ none) :
    placeCommand e f b t a s = placementEffect t a
      { storePayload e f s with forwarded := s.forwarded ++ [{ frame := f, target := some b }] } := by
  rw [placeCommand, forwardedFull_eq_false room, if_neg Bool.false_ne_true, placeForwarded_of_busy busy]
  rfl

/-- A placed command joins the share, its entry counts the hit and stores the payload, and its portal is marked (R18,
R23, R38). -/
theorem placeCommand_countHit (room : s.forwarded.length < 16) (busy : s.fieldTx ≠ none) :
    placeCommand e f b t a (countHit e s) = placementEffect t a
      { s with
        forwarded := s.forwarded ++ [{ frame := f, target := some b }]
        classTable := tset s.classTable e
          { s.entry e with
            hits := min 65535 ((s.entry e).hits + 1)
            stored := some { payload := f.payload, time := s.count, age := 0 } } } := by
  rw [placeCommand_of_room (s := countHit e s) room busy, storePayload_countHit]
  rfl

theorem placementEffect_inflate (p : DockIx) (s : State) :
    placementEffect (.dock p) .sealInflate s =
      if (s.dock p).state = .idle then
        { s with
          docks := tset s.docks p
            { s.dock p with state := .inflating, sealTimer := some (s.dock p).inflateTime } }
      else s := rfl

theorem placementEffect_deflate (p : DockIx) (s : State) :
    placementEffect (.dock p) .sealDeflate s =
      if (s.dock p).state = .sealed then
        { s with
          docks := tset s.docks p
            { s.dock p with state := .deflating, sealTimer := some (s.dock p).deflateTime } }
      else s := rfl

theorem placementEffect_open (r : RoomIx) (s : State) :
    placementEffect (.room r) .doorOpen s =
      if (s.room r).claims = [] then { s with rooms := tset s.rooms r { s.room r with openedBy := .outside } }
      else s := by
  simp only [placementEffect, List.isEmpty_iff]
  rfl

/-- A command other than the three of R39 to R41 marks no portal. -/
theorem placementEffect_of_unmarked (inflate : ∀ p, t = .dock p → a ≠ .sealInflate)
    (deflate : ∀ p, t = .dock p → a ≠ .sealDeflate) (opens : ∀ r, t = .room r → a ≠ .doorOpen) :
    placementEffect t a s = s := by
  unfold placementEffect
  split
  · exact absurd rfl (inflate _ rfl)
  · exact absurd rfl (deflate _ rfl)
  · exact absurd rfl (opens _ rfl)
  · rfl

/-- A placement marks records of portals alone. -/
theorem placementEffect_frame (t : Target) (a : Action) (s : State) :
    ∃ docks rooms, placementEffect t a s = { s with docks := docks, rooms := rooms } := by
  unfold placementEffect
  split
  · split <;> exact ⟨_, _, rfl⟩
  · split <;> exact ⟨_, _, rfl⟩
  · split <;> exact ⟨_, _, rfl⟩
  · exact ⟨_, _, rfl⟩

end

/-! ## The built-in checks (R34 to R36) -/

section
variable {s : State} {h : Header} {action argument : Byte} {extra : List Byte} {e : Fin 128} {b : Bound} {t : Target}
  {a : Action}

theorem exec_actCommand_refused {why : GateReason} (bound : BoundDown s h (2 + extra.length) e b)
    (target : b.target? = some t) (known : action? action.toNat = some a) (service : b.inService s = true)
    (check : builtInRefusal? s t a = some why) :
    exec (.actCommand h action argument extra) s
      = .next (refuseCommand (actFrame h action argument extra) (byteOf why.code) 0xFF#8 (countHit e s)) := by
  rw [exec_actCommand_bound bound target known service,
    gateCommand_of_builtIn ((builtInRefusal?_countHit e s t a).trans check)]

/-- A command that no check refuses is placed, or refused at a full share (R38). -/
theorem exec_actCommand_passed (bound : BoundDown s h (2 + extra.length) e b)
    (target : b.target? = some t) (known : action? action.toNat = some a) (service : b.inService s = true)
    (check : builtInRefusal? s t a = none) (refusing : refusingEntry? s b a = none) :
    exec (.actCommand h action argument extra) s
      = .next (placeCommand e (actFrame h action argument extra) b t a (countHit e s)) := by
  rw [exec_actCommand_bound bound target known service,
    gateCommand_of_passed ((builtInRefusal?_countHit e s t a).trans check)
      ((refusingEntry?_countHit e s b a).trans refusing)]

end

theorem Bound.target?_door_dock (p : DockIx) : (Bound.door (dockPortal p)).target? = some (.dock p) := by
  simp only [Bound.target?, dockPortal, portalKind_dock]

theorem Bound.target?_door_room (r : RoomIx) : (Bound.door (roomPortal r)).target? = some (.room r) := by
  simp only [Bound.target?, roomPortal, portalKind_room]

theorem Bound.inService_door_dock (p : DockIx) (s : State) :
    (Bound.door (dockPortal p)).inService s = (s.dock p).loaded := by
  simp only [Bound.inService, portalInService, dockPortal, portalKind_dock]

theorem Bound.inService_door_room (r : RoomIx) (s : State) :
    (Bound.door (roomPortal r)).inService s = (s.zone (roomZone r)).inUse := by
  simp only [Bound.inService, portalInService, roomPortal, portalKind_room]

theorem CoilPhase.underHold_iff {p : CoilPhase} :
    p.underHold = true ↔ p = .pumpDown ∨ p = .heat ∨ p = .drip := by
  cases p <;> simp [CoilPhase.underHold]

theorem zoneHeating_iff {s : State} {z : ZoneIx} :
    zoneHeating s z = true ↔ ∃ c, (s.coil c).loaded = true ∧ (s.coil c).zone = z
      ∧ ((s.coil c).phase = .pumpDown ∨ (s.coil c).phase = .heat ∨ (s.coil c).phase = .drip) := by
  simp only [zoneHeating, List.any_eq_true, mem_zoneCoils, CoilPhase.underHold_iff, and_assoc]

/-- A DOOR_OPEN of a room door by its three outcomes (R35). -/
theorem roomRefusal?_open (s : State) (r : RoomIx) :
    let held : Prop := (s.room r).hold = .set ∨ zoneHeating s (roomZone r) = true
    (held → roomRefusal? s r .doorOpen = some .defrostHold)
      ∧ (¬held → (s.zone (roomZone r)).quiet = true → roomRefusal? s r .doorOpen = some .zoneQuiet)
      ∧ (¬held → (s.zone (roomZone r)).quiet = false → roomRefusal? s r .doorOpen = none) := by
  refine ⟨fun held => if_pos held, fun free quiet => ?_, fun free quiet => ?_⟩
  · exact (if_neg free).trans (if_pos quiet)
  · exact (if_neg free).trans (if_neg (Bool.eq_false_iff.mp quiet))

/-- Settles O20: each row of Table 3-2 is one value of `builtInRefusal?`. -/
theorem builtInChecksRefuseCommands : Obligations.BuiltInChecksRefuseCommands := by
  intro s h action argument extra e b bound f refused passes
  have refuses {t a why} (target : b.target? = some t) (service : b.inService s = true)
      (known : action? action.toNat = some a) (check : builtInRefusal? s t a = some why) :
      refused (byteOf why.code) := exec_actCommand_refused bound target known service check
  have pass {t a} (target : b.target? = some t) (service : b.inService s = true)
      (known : action? action.toNat = some a) (check : builtInRefusal? s t a = none) : passes := by
    intro disabled room busy
    have decided := exec_actCommand_passed (argument := argument) bound target known service check
      (refusingEntry?_of_disabled disabled)
    rw [placeCommand_countHit room busy] at decided
    obtain ⟨docks, rooms, frame⟩ := placementEffect_frame t a _
    exact ⟨_, decided.trans (congrArg _ frame), rfl, rfl, rfl, rfl⟩
  have named {x : Byte} {a} (is : action = x) (code : action? x.toNat = some a) : action? action.toNat = some a :=
    is ▸ code
  refine ⟨fun p door loaded => ?_, fun r door inUse => ?_, fun c coil loaded le => ?_,
    fun u shuttle loaded le => ?_, fun k actuator le => ?_⟩
  · have target : b.target? = some (.dock p) := by
      rcases door with rfl | rfl
      · exact Bound.target?_door_dock p
      · rfl
    have service : b.inService s = true := by
      rcases door with rfl | rfl
      · exact (Bound.inService_door_dock p s).trans loaded
      · exact loaded
    refine ⟨fun is unsealed => ?_, fun is sealed_ => ?_, fun is ajar => ?_, fun is shut still => ?_, fun is => ?_⟩
    · exact refuses target service (named is rfl) (if_neg unsealed)
    · exact pass target service (named is rfl) (if_pos sealed_)
    · exact refuses target service (named is rfl) (if_pos ajar)
    · exact pass target service (named is rfl) (if_neg (not_or.mpr ⟨shut, still⟩))
    · rcases is with is | is | is | is <;> exact pass target service (named is rfl) rfl
  · intro heating
    have target : b.target? = some (.room r) := door ▸ Bound.target?_door_room r
    have service : b.inService s = true := door ▸ (Bound.inService_door_room r s).trans inUse
    obtain ⟨held, quiet, free⟩ := roomRefusal?_open s r
    rw [zoneHeating_iff] at held quiet free
    refine ⟨fun is why => ?_, fun is clear cool hush => ?_, fun is clear cool loud => ?_, fun is claimed => ?_,
      fun is unclaimed => ?_, fun is => ?_⟩
    · exact refuses target service (named is rfl) (held why)
    · exact refuses target service (named is rfl) (quiet (not_or.mpr ⟨clear, cool⟩) hush)
    · exact pass target service (named is rfl) (free (not_or.mpr ⟨clear, cool⟩) loud)
    · exact refuses target service (named is rfl) (if_neg (mt List.isEmpty_iff.mp claimed))
    · exact pass target service (named is rfl) (if_pos (List.isEmpty_iff.mpr unclaimed))
    · rcases is with is | is | is | is <;> exact pass target service (named is rfl) rfl
  · obtain ⟨a, known⟩ := action?_of_le le
    subst coil
    exact refuses rfl loaded known rfl
  · obtain ⟨a, known⟩ := action?_of_le le
    subst shuttle
    exact refuses rfl loaded known rfl
  · obtain ⟨a, known⟩ := action?_of_le le
    subst actuator
    exact pass rfl rfl known rfl

/-! ## The subjects of Table 3-5 (R45) -/

section
variable (s : State)

theorem subjectValue?_zone_used {z : ZoneIx} (used : (s.zone z).inUse = true) (x : ZoneAttr) :
    subjectValue? s (.zone z x) = zoneAttr? z (s.zone z) x := if_pos used

theorem subjectValue?_zone_unused {z : ZoneIx} (unused : (s.zone z).inUse = false) (x : ZoneAttr) :
    subjectValue? s (.zone z x) = none := if_neg (Bool.eq_false_iff.mp unused)

theorem ProbeState.usable_iff {x : ProbeState} : x.usable = true ↔ x = .valid ∨ x = .overRange := by
  cases x <;> simp [ProbeState.usable]

theorem subjectValue?_probe (p : ProbeIx) :
    subjectValue? s (.probeTemperature p) =
      if (s.probe p).loaded = true ∧ ((s.probe p).state = .valid ∨ (s.probe p).state = .overRange) then
        some (((s.probe p).filtered + 8) / 16)
      else none := by
  simp only [subjectValue?, ProbeState.usable_iff]
  rfl

theorem subjectValue?_dock (p : DockIx) (x : PortalAttr) :
    subjectValue? s (.portal (dockPortal p) x) = dockAttr? (s.dock p) x := by
  simp only [subjectValue?, dockPortal, portalKind_dock]

theorem subjectValue?_room (r : RoomIx) (x : PortalAttr) :
    subjectValue? s (.portal (roomPortal r) x) = roomAttr? (s.zone (roomZone r)).inUse (s.room r) x := by
  simp only [subjectValue?, roomPortal, portalKind_room]

theorem dockAttr?_unknown {d : Dock} (unknown : d.loaded = false ∨ d.state = .unknown) : dockAttr? d .state = none :=
  if_neg fun ⟨loaded, state⟩ => unknown.elim (Bool.eq_false_iff.mp · loaded) state

theorem roomAttr?_unknown {inUse : Bool} {p : Room} (unknown : inUse = false ∨ p.state = .unknown) :
    roomAttr? inUse p .state = none :=
  if_neg fun ⟨used, state⟩ => unknown.elim (Bool.eq_false_iff.mp · used) state

theorem subjectValue?_coil_loaded {c : CoilIx} (loaded : (s.coil c).loaded = true) :
    subjectValue? s (.coil c .owed) = some ((s.coil c).owed : Int)
      ∧ subjectValue? s (.coil c .phase) = some ((s.coil c).phase.code : Int) :=
  ⟨if_pos loaded, if_pos loaded⟩

theorem subjectValue?_coil_unloaded {c : CoilIx} (unloaded : (s.coil c).loaded = false) (x : CoilAttr) :
    subjectValue? s (.coil c x) = none := if_neg (Bool.eq_false_iff.mp unloaded)

end

/-- Settles O21: the conditions by the first refusing entry, the placement by its effect, the subjects by their rows. -/
theorem conditionsAdmitCommandsToTheShare : Obligations.ConditionsAdmitCommandsToTheShare := by
  refine ⟨?_, ?_, ?_⟩
  · intro s h action argument extra e b t a bound target known service check applies holds f
    have decided := exec_actCommand_bound (argument := argument) bound target known service
    have check_hit := (builtInRefusal?_countHit e s t a).trans check
    have holds_iff (c : Condition) : c.holds s = true ↔ holds c :=
      Condition.holds_iff.trans (exists_congr fun _ => and_congr_right fun _ => Cmp.holds_iff)
    have applies_iff (c : Condition) : c.applies b a = true ↔ applies c := by
      obtain ⟨coil, shuttle⟩ := not_owned_of_passed target check
      rw [Condition.applies_iff, CondTarget.covers_iff coil shuttle]
    refine ⟨fun i covers fails first => ?_, fun passes => ?_⟩
    · have refusing : refusingEntry? s b a = some i :=
        refusingEntry?_eq_some_iff.mpr ⟨⟨(applies_iff _).mpr covers, mt (holds_iff _).mp fails⟩,
          fun j lt covered => (holds_iff _).mpr (first j lt ((applies_iff _).mp covered))⟩
      rw [decided, gateCommand_of_condition check_hit ((refusingEntry?_countHit e s b a).trans refusing)]
      rfl
    · have refusing : refusingEntry? s b a = none :=
        refusingEntry?_eq_none_iff.mpr fun i covered => (holds_iff _).mpr (passes i ((applies_iff _).mp covered))
      rw [decided, gateCommand_of_passed check_hit ((refusingEntry?_countHit e s b a).trans refusing)]
      rfl
  · intro s h action argument extra e b t a bound target known service check disabled busy f placed
    have decided := exec_actCommand_passed (argument := argument) bound target known service check
      (refusingEntry?_of_disabled disabled)
    refine ⟨fun full => ?_, fun room => ?_⟩
    · rw [decided, placeCommand_of_full (s := countHit e s) full]
      rfl
    · rw [decided, placeCommand_countHit room busy]
      refine congrArg _ ?_
      split
      · exact placementEffect_inflate _ placed
      · exact placementEffect_deflate _ placed
      · exact placementEffect_open _ placed
      · next inflate deflate opens => exact placementEffect_of_unmarked inflate deflate opens
  · intro s none? is
    refine ⟨fun z x unused => subjectValue?_zone_unused s unused x, fun z used => ?_, fun p => ?_, fun p => ?_,
      fun r => ?_, fun c x unloaded => subjectValue?_coil_unloaded s unloaded x, fun c loaded => ?_, fun u => ?_,
      fun l => ?_⟩
    · have attr := subjectValue?_zone_used s used
      refine ⟨fun valid => ?_, fun stale => ?_, attr .exposure, attr .frostLoad, attr .quiet, ?_⟩
      · exact (attr .temperature).trans (if_pos valid)
      · exact (attr .temperature).trans (if_neg (by simp [stale]))
      · exact (attr .alarmState).trans (congrArg some (by cases (s.zone z).alarmState <;> rfl))
    · exact ⟨fun usable => (subjectValue?_probe s p).trans (if_pos usable),
        fun unusable => (subjectValue?_probe s p).trans (if_neg unusable)⟩
    · have attr := subjectValue?_dock s p
      refine ⟨attr .claims, fun unknown => (attr .state).trans (dockAttr?_unknown unknown), fun loaded state => ?_⟩
      exact (attr .state).trans
        ((if_pos ⟨loaded, state⟩).trans (congrArg some (by cases (s.dock p).state <;> rfl)))
    · have attr := subjectValue?_room s r
      refine ⟨fun unused => ?_, fun used => ?_, fun unknown => ?_, fun used state => ?_⟩
      · exact (attr .claims).trans (if_neg (Bool.eq_false_iff.mp unused))
      · exact (attr .claims).trans (if_pos used)
      · exact (attr .state).trans (roomAttr?_unknown unknown)
      · exact (attr .state).trans
          ((if_pos ⟨used, state⟩).trans (congrArg some (by cases (s.room r).state <;> rfl)))
    · obtain ⟨owed, phase⟩ := subjectValue?_coil_loaded s loaded
      exact ⟨owed, phase.trans (congrArg some (by cases (s.coil c).phase <;> rfl))⟩
    · refine ⟨fun unloaded => if_neg (Bool.eq_false_iff.mp unloaded), fun loaded => (if_pos loaded).trans ?_⟩
      exact congrArg some (by cases (s.shuttle u).state <;> rfl)
    · exact ⟨fun unloaded => if_neg (Bool.eq_false_iff.mp unloaded), fun loaded => if_pos loaded⟩

end Sys2Proof.Machine
end

section
/-! SUPPORT. One zone at a time: what the coils of a zone, its hold and the claims at its door do in one handling. The
laws of Laws/Ripple say what such a handling leaves of every record; `ZoneRun` adds that it stays inside its zone, keeps
the owed counts in range, and raises none of the notices of section 4. -/

namespace Sys2Proof.Machine

/-! ## Notices that a step leaves alone (R161, R162) -/

/-- While a frame is in transmission no notice leaves the queue: nothing stops the transmission, a lost notice stays
noted, and unless one was lost the queue holds the same notices of the keys in `W` as before. -/
structure NoticesStand (W : NoticeKind × NoticeObj → Prop) (s t : State) : Prop where
  tx : t.trunkTx = s.trunkTx
  lost : s.lost = true → t.lost = true
  same : t.lost = false → ∀ n : Notice, W n.key → (n ∈ t.notices ↔ n ∈ s.notices)

/-- The same of a step that may find the trunk transmitter idle. -/
def NoticesQuiet (W : NoticeKind × NoticeObj → Prop) (s t : State) : Prop := s.trunkTx ≠ none → NoticesStand W s t

section
variable {W : NoticeKind × NoticeObj → Prop} {s t u : State}

theorem NoticesQuiet.of_same (tx : t.trunkTx = s.trunkTx) (lost : t.lost = s.lost) (notices : t.notices = s.notices) :
    NoticesQuiet W s t :=
  fun _ => ⟨tx, fun h => lost.trans h, fun _ _ _ => by rw [notices]⟩

theorem NoticesQuiet.refl (s : State) : NoticesQuiet W s s := .of_same rfl rfl rfl

theorem NoticesQuiet.trans (h : NoticesQuiet W s t) (k : NoticesQuiet W t u) : NoticesQuiet W s u := fun busy => by
  obtain ⟨tx, lost, same⟩ := h busy
  obtain ⟨tx', lost', same'⟩ := k (tx ▸ busy)
  refine ⟨tx'.trans tx, lost' ∘ lost, fun kept n watched => (same' kept n watched).trans (same ?_ n watched)⟩
  exact Bool.eq_false_iff.mpr fun gone => Bool.false_ne_true (kept.symm.trans (lost' gone))

theorem NoticesQuiet.mono {V : NoticeKind × NoticeObj → Prop} (h : NoticesQuiet W s t) (sub : ∀ k, V k → W k) :
    NoticesQuiet V s t := fun busy =>
  let ⟨tx, lost, same⟩ := h busy
  ⟨tx, lost, fun kept n watched => same kept n (sub _ watched)⟩

theorem forEach_noticesQuiet {α : Type} (l : List α) (f : α → State → State)
    (step : ∀ a ∈ l, ∀ s, NoticesQuiet W s (f a s)) (s : State) : NoticesQuiet W s (forEach l f s) :=
  forEach_rel (NoticesQuiet W) NoticesQuiet.refl NoticesQuiet.trans l f step s

/-- A notice of another key is offered: it replaces its like, joins, or costs the queue a notice that is then lost. -/
theorem offerNotice_quiet (n : Notice) (other : ¬W n.key) (s : State) : NoticesQuiet W s (offerNotice n s) :=
  fun busy => by
    have apart {m : Notice} (watched : W m.key) : m ≠ n := fun same => other (same ▸ watched)
    have kick {t : State} (tx : t.trunkTx = s.trunkTx) : kickTrunk t = t := kickTrunk_of_busy (tx ▸ busy)
    by_cases pending : s.notices.any (fun m => m.sameKey n) = true
    · rw [offerNotice_of_pending pending]
      refine ⟨rfl, id, fun _ m watched => ?_⟩
      have differs : ¬m.sameKey n = true := fun same => other ((Notice.sameKey_iff m n).mp same ▸ watched)
      simp only [List.mem_map]
      constructor
      · rintro ⟨x, mem, replaced⟩
        split at replaced
        · exact absurd replaced.symm (apart watched)
        · exact replaced ▸ mem
      · exact fun mem => ⟨m, mem, if_neg differs⟩
    · by_cases room : s.notices.length < Config.noticeDepth
      · rw [offerNotice_of_room pending room, kick (by rfl)]
        refine ⟨rfl, id, fun _ m watched => ?_⟩
        simp [apart watched]
      · obtain ⟨gives, keeps⟩ := offerNotice_of_full pending room
        cases displaced : displaced? n.severity s.notices with
        | some q =>
          rw [gives q displaced, kick (by rfl)]
          exact ⟨rfl, fun _ => rfl, fun kept => absurd kept (by simp)⟩
        | none =>
          rw [keeps displaced]
          exact ⟨rfl, fun _ => rfl, fun kept => absurd kept (by simp)⟩

theorem raiseNotice_quiet (k : NoticeKind) (o : NoticeObj) (v : Quad) (other : ¬W (k, o)) (s : State) :
    NoticesQuiet W s (raiseNotice k o v s) := offerNotice_quiet _ other s

theorem originate_quiet (o : OrigObj) (kind : Byte) (payload : List Byte)
    (other : ¬W (.frameUnaddressed, o.noticeObj)) (s : State) : NoticesQuiet W s (originate o kind payload s) := by
  unfold originate fillPosition
  split
  · split
    · exact .of_same rfl rfl rfl
    · have taken (q : List Originated) := kickField_taken { s with originated := q }
      have lost (q : List Originated) : (kickField { s with originated := q }).lost = s.lost := by
        unfold kickField fieldChoose
        repeat' split
        all_goals rfl
      exact .of_same (taken _).trunkTx (lost _) (taken _).notices
  · exact raiseNotice_quiet _ _ _ other s

theorem joinRefusal_quiet (f : Frame) (s : State) : NoticesQuiet W s (joinRefusal f s) := fun busy => by
  have kick {t : State} (tx : t.trunkTx = s.trunkTx) : kickTrunk t = t := kickTrunk_of_busy (tx ▸ busy)
  unfold joinRefusal
  split
  · exact NoticesQuiet.of_same rfl rfl rfl busy
  · rw [kick (by rfl)]
    exact NoticesQuiet.of_same rfl rfl rfl busy

theorem withdrawCommands_quiet (r : RoomIx) (a : Action) (why : GateReason) (s : State) :
    NoticesQuiet W s (withdrawCommands r a why s) :=
  .trans (.of_same (t := { s with forwarded := s.forwarded.filter fun w => !w.isCommand r a }) rfl rfl rfl)
    (forEach_noticesQuiet _ _ (fun _ _ _ => joinRefusal_quiet _ _) _)

end

/-- The kinds that the exposure interval raises besides those of the defrosts: the alarm states of the zones and the
quarantine of a pallet (R65, R70). -/
def OfAccounts (k : NoticeKind × NoticeObj) : Prop :=
  k.1 = .zoneNormal ∨ k.1 = .zoneWarning ∨ k.1 = .zoneAlarm ∨ k.1 = .palletQuarantine

/-! ## What a run inside a zone may change -/

/-- A coil's record keeps its place and its limit, and its owed count stays at −8 or above and at the limit or below
(R99, R111). -/
structure OwedKept (a b : Coil) : Prop where
  loaded : b.loaded = a.loaded
  zone : b.zone = a.zone
  limit : b.limit = a.limit
  floor : 1 ≤ a.limit → -8 ≤ a.owed → -8 ≤ b.owed
  top : 1 ≤ a.limit → a.owed ≤ a.limit → b.owed ≤ a.limit

theorem OwedKept.of_same {a b : Coil} (loaded : b.loaded = a.loaded) (zone : b.zone = a.zone)
    (limit : b.limit = a.limit) (owed : b.owed = a.owed) : OwedKept a b :=
  ⟨loaded, zone, limit, fun _ h => owed ▸ h, fun _ h => owed ▸ h⟩

theorem OwedKept.refl (a : Coil) : OwedKept a a := .of_same rfl rfl rfl rfl

theorem OwedKept.trans {a b c : Coil} (h : OwedKept a b) (k : OwedKept b c) : OwedKept a c where
  loaded := k.loaded.trans h.loaded
  zone := k.zone.trans h.zone
  limit := k.limit.trans h.limit
  floor l f := k.floor (h.limit ▸ l) (h.floor l f)
  top l f := h.limit ▸ k.top (h.limit ▸ l) (h.limit.symm ▸ h.top l f)

/-- What a handling inside one zone leaves: the mode, the coils and the records of other zones and their rooms, the
ranges of its own coils' owed counts, and the notices of section 4. -/
structure ZoneRun (z : ZoneIx) (s t : State) : Prop where
  mode : t.mode = s.mode
  coils : ∀ c, OwedKept (s.coil c) (t.coil c)
  otherCoils : ∀ c, (s.coil c).zone ≠ z → t.coil c = s.coil c
  otherRooms : ∀ r, roomZone r ≠ z → t.room r = s.room r
  otherZones : ∀ y, y ≠ z → t.zone y = s.zone y
  notices : NoticesQuiet OfAccounts s t

section
variable {z : ZoneIx} {s₀ s t : State}

theorem roomZone_of_zoneRoom? {r : RoomIx} (room : zoneRoom? z = some r) : roomZone r = z := by
  unfold zoneRoom? at room
  split at room
  · cases room
  · cases room; exact Fin.succ_pred z _

theorem ZoneRun.refl (z : ZoneIx) (s : State) : ZoneRun z s s :=
  ⟨rfl, fun _ => .refl _, fun _ _ => rfl, fun _ _ => rfl, fun _ _ => rfl, .refl s⟩

theorem ZoneRun.trans {u : State} (h : ZoneRun z s t) (k : ZoneRun z t u) : ZoneRun z s u where
  mode := k.mode.trans h.mode
  coils c := (h.coils c).trans (k.coils c)
  otherCoils c other := (k.otherCoils c ((h.coils c).zone.symm ▸ other)).trans (h.otherCoils c other)
  otherRooms r other := (k.otherRooms r other).trans (h.otherRooms r other)
  otherZones y other := (k.otherZones y other).trans (h.otherZones y other)
  notices := h.notices.trans k.notices

theorem ZoneRun.zoneOf (k : ZoneRun z s₀ s) {c : CoilIx} (here : (s₀.coil c).zone = z) : (s.coil c).zone = z :=
  (k.coils c).zone.trans here

theorem ZoneRun.of_mem (k : ZoneRun z s₀ s) {c : CoilIx} (mem : c ∈ zoneCoils s z) : (s₀.coil c).zone = z :=
  (k.coils c).zone.symm.trans (mem_zoneCoils.mp mem).2

/-- A step that leaves the mode, the zones, the rooms and the coils alone. -/
theorem ZoneRun.aside (k : ZoneRun z s₀ s) (mode : t.mode = s.mode) (zones : t.zones = s.zones)
    (rooms : t.rooms = s.rooms) (coils : t.coils = s.coils) (notices : NoticesQuiet OfAccounts s t) :
    ZoneRun z s₀ t :=
  k.trans
    { mode := mode
      coils := fun c => by simp only [State.coil, coils]; exact .refl _
      otherCoils := fun c _ => by simp only [State.coil, coils]
      otherRooms := fun r _ => by simp only [State.room, rooms]
      otherZones := fun y _ => by simp only [State.zone, zones]
      notices := notices }

theorem ZoneRun.ports (k : ZoneRun z s₀ s) (units : SameUnits s t) (notices : NoticesQuiet OfAccounts s t) :
    ZoneRun z s₀ t := k.aside units.mode units.zones units.rooms units.coils notices

theorem ZoneRun.modShuttle (u f) (k : ZoneRun z s₀ s) : ZoneRun z s₀ (s.modShuttle u f) :=
  k.aside rfl rfl rfl rfl (.of_same rfl rfl rfl)

theorem ZoneRun.modRoom {r : RoomIx} (f) (here : roomZone r = z) (k : ZoneRun z s₀ s) : ZoneRun z s₀ (s.modRoom r f) :=
  k.trans { ZoneRun.refl z s with
    otherRooms := fun _ other => State.room_modRoom_ne _ _ _ fun same => other (same ▸ here)
    notices := .of_same rfl rfl rfl }

theorem ZoneRun.modZone (f) (k : ZoneRun z s₀ s) : ZoneRun z s₀ (s.modZone z f) :=
  k.trans { ZoneRun.refl z s with
    otherZones := fun _ other => State.zone_modZone_ne _ _ _ (Ne.symm other)
    notices := .of_same rfl rfl rfl }

theorem ZoneRun.modCoil {c : CoilIx} {f : Coil → Coil} (here : (s₀.coil c).zone = z)
    (owed : OwedKept (s.coil c) (f (s.coil c))) (k : ZoneRun z s₀ s) : ZoneRun z s₀ (s.modCoil c f) :=
  k.trans { ZoneRun.refl z s with
    coils := fun d => by
      rw [State.coil_modCoil]
      split
      · next same => exact same ▸ owed
      · exact .refl _
    otherCoils := fun d other => State.coil_modCoil_ne _ _ _ fun same => other (same ▸ k.zoneOf here)
    notices := .of_same rfl rfl rfl }

theorem forEach_run {α : Type} {l : List α} {f : α → State → State}
    (step : ∀ a ∈ l, ∀ s, ZoneRun z s₀ s → ZoneRun z s₀ (f a s)) (k : ZoneRun z s₀ s) :
    ZoneRun z s₀ (forEach l f s) := by
  induction l generalizing s with
  | nil => exact k
  | cons a l ih => exact ih (fun b mem => step b (List.mem_cons_of_mem a mem)) (step a List.mem_cons_self s k)

theorem raiseNotice_run (a o v) (other : ¬OfAccounts (a, o)) (k : ZoneRun z s₀ s) :
    ZoneRun z s₀ (raiseNotice a o v s) :=
  k.ports (raiseNotice_portStep ..).units (raiseNotice_quiet _ _ _ other s)

theorem originate_run (o kind p) (k : ZoneRun z s₀ s) : ZoneRun z s₀ (originate o kind p s) :=
  k.ports (originate_portStep ..).units (originate_quiet _ _ _ (by simp [OfAccounts]) s)

theorem withdrawCommands_run (r a w) (k : ZoneRun z s₀ s) : ZoneRun z s₀ (withdrawCommands r a w s) :=
  k.ports (withdrawCommands_portStep ..).units (withdrawCommands_quiet _ _ _ s)

/-! ### Travel -/

theorem beginTravel_run (u p q) (k : ZoneRun z s₀ s) : ZoneRun z s₀ (beginTravel u p q s) :=
  originate_run _ _ _ (k.modShuttle u _)

theorem beginHoming_run (u) (k : ZoneRun z s₀ s) : ZoneRun z s₀ (beginHoming u s) :=
  originate_run _ _ _ (k.modShuttle u _)

theorem testArmed_run (u) (k : ZoneRun z s₀ s) : ZoneRun z s₀ (testArmed u s) := by
  unfold testArmed
  split
  · split
    · exact beginTravel_run _ _ _ k
    · exact k
  · exact k

theorem testHoming_run (u) (k : ZoneRun z s₀ s) : ZoneRun z s₀ (testHoming u s) := by
  unfold testHoming
  dsimp only
  split
  · exact beginHoming_run u k
  · exact k

theorem testWaiting_run (u) (k : ZoneRun z s₀ s) : ZoneRun z s₀ (testWaiting u s) :=
  testHoming_run u (testArmed_run u k)

/-! ### Claims -/

theorem tellReady_run (r u) (k : ZoneRun z s₀ s) : ZoneRun z s₀ (tellReady r u s) :=
  testWaiting_run u (k.modShuttle u _)

section
variable {r : RoomIx} (here : roomZone r = z)
include here

theorem askOpen_run (k : ZoneRun z s₀ s) : ZoneRun z s₀ (askOpen r s) := (originate_run _ _ _ k).modRoom _ here

theorem openForEntry_run (k : ZoneRun z s₀ s) : ZoneRun z s₀ (openForEntry r s) := (askOpen_run here k).modRoom _ here

theorem actOnEntry_run (u) (k : ZoneRun z s₀ s) : ZoneRun z s₀ (actOnEntry r u s) := by
  unfold actOnEntry
  split
  · exact openForEntry_run here k
  · exact openForEntry_run here k
  · exact openForEntry_run here k
  · split
    · exact k
    · exact askOpen_run here k
  · exact tellReady_run r u k
  · exact k

theorem formEntry_run (u h) (k : ZoneRun z s₀ s) : ZoneRun z s₀ (formEntry r u h s) :=
  testWaiting_run u (actOnEntry_run here u ((withdrawCommands_run _ _ _ (k.modRoom _ here)).modRoom _ here))

theorem joinEntry_run (u h) (k : ZoneRun z s₀ s) : ZoneRun z s₀ (joinEntry r u h s) := by
  unfold joinEntry
  dsimp only
  split
  · exact tellReady_run r u (k.modRoom _ here)
  · exact k.modRoom _ here

theorem grantClaim_run (u h) (k : ZoneRun z s₀ s) : ZoneRun z s₀ (grantClaim r u h s) := by
  unfold grantClaim
  split
  · exact joinEntry_run here u h k
  · exact formEntry_run here u h k

theorem grantWaiting_run (k : ZoneRun z s₀ s) : ZoneRun z s₀ (grantWaiting r s) :=
  forEach_run (fun w _ _ k => grantClaim_run here w.shuttle w.holder (k.modRoom _ here)) k

theorem releaseHold_run (k : ZoneRun z s₀ s) : ZoneRun z s₀ (releaseHold r s) := by
  unfold releaseHold
  split
  · exact grantWaiting_run here (k.modRoom _ here)
  · exact k

theorem expireHoldOpen_run (k : ZoneRun z s₀ s) : ZoneRun z s₀ (expireHoldOpen r s) := by
  unfold expireHoldOpen
  dsimp only
  split
  · exact (originate_run _ _ _ (k.modRoom _ here)).modRoom _ here
  · exact k.modRoom _ here

theorem setHold_run (k : ZoneRun z s₀ s) : ZoneRun z s₀ (setHold r s) := by
  unfold setHold
  extract_lets m
  have marked : ZoneRun z s₀ m := k.modRoom _ here
  exact withdrawCommands_run _ _ _ (marked.aside rfl rfl rfl rfl (.of_same rfl rfl rfl))

end

/-! ### Defrost phases -/

section
variable {c : CoilIx} (here : (s₀.coil c).zone = z)
include here

theorem commandCoil_run (p) (k : ZoneRun z s₀ s) : ZoneRun z s₀ (commandCoil c p s) :=
  (originate_run _ _ _ k).modCoil here (.of_same rfl rfl rfl rfl)

/-- A completion takes one from the owed count, to no less than −8 (R111). -/
theorem completeCoil_run (k : ZoneRun z s₀ s) : ZoneRun z s₀ (completeCoil c s) := by
  refine raiseNotice_run _ _ _ (by simp [OfAccounts])
    (k.modCoil here ⟨rfl, rfl, rfl, fun _ floor => ?_, fun _ top => ?_⟩)
  · dsimp only [Config.owedFloor]
    split <;> omega
  · dsimp only [Config.owedFloor]
    split <;> omega

omit here in
theorem reportCompletion_run (k : ZoneRun z s₀ s) : ZoneRun z s₀ (reportCompletion z c s) := by
  unfold reportCompletion
  split
  · exact k
  · exact k.modZone _

theorem endFanDelay_run (k : ZoneRun z s₀ s) : ZoneRun z s₀ (endFanDelay c s).1 := by
  have cooled := reportCompletion_run (c := c) ((commandCoil_run here .cool k).modCoil
    (f := fun k => { k with phase := .cool, phaseTimer := none }) here (.of_same rfl rfl rfl rfl))
  unfold endFanDelay
  dsimp only
  rw [k.zoneOf here]
  split
  · split
    · refine forEach_run (fun d mem t j => ?_) cooled
      have inZone := cooled.of_mem (List.mem_of_mem_filter mem)
      exact completeCoil_run inZone (j.modCoil inZone (.of_same rfl rfl rfl rfl))
    · exact cooled
  · exact completeCoil_run here cooled

theorem enterFanDelay_run (k : ZoneRun z s₀ s) : ZoneRun z s₀ (enterFanDelay c s).1 := by
  unfold enterFanDelay
  extract_lets y due m1 m2 m3
  have begun : ZoneRun z s₀ m1 := k.modCoil here (.of_same rfl rfl rfl rfl)
  have freed : ZoneRun z s₀ m2 := by
    show ZoneRun z s₀ (match zoneRoom? y with
      | some r => if due then releaseHold r m1 else m1
      | none => m1)
    cases room : zoneRoom? y with
    | none => exact begun
    | some r =>
      dsimp only
      split
      · refine releaseHold_run ?_ begun
        exact (roomZone_of_zoneRoom? room).trans (k.zoneOf here)
      · exact begun
  have sent : ZoneRun z s₀ m3 := commandCoil_run here _ freed
  split
  · exact endFanDelay_run here sent
  · exact sent

theorem enterDrip_run (k : ZoneRun z s₀ s) : ZoneRun z s₀ (enterDrip c s).1 := by
  unfold enterDrip
  dsimp only
  split
  · exact enterFanDelay_run here ((commandCoil_run here _ k).modCoil here (.of_same rfl rfl rfl rfl))
  · exact (commandCoil_run here _ k).modCoil here (.of_same rfl rfl rfl rfl)

theorem enterHeat_run (k : ZoneRun z s₀ s) : ZoneRun z s₀ (enterHeat c s).1 := by
  unfold enterHeat
  dsimp only
  split
  · exact enterDrip_run here ((commandCoil_run here _ k).modCoil here (.of_same rfl rfl rfl rfl))
  · exact (commandCoil_run here _ k).modCoil here (.of_same rfl rfl rfl rfl)

theorem enterPumpDown_run (k : ZoneRun z s₀ s) : ZoneRun z s₀ (enterPumpDown c s) := by
  unfold enterPumpDown
  extract_lets m1 m2 m3
  have begun : ZoneRun z s₀ m2 := (commandCoil_run here _ k).modCoil here (.of_same rfl rfl rfl rfl)
  have opened : ZoneRun z s₀ m3 := by
    show ZoneRun z s₀ (openWindow (m2.coil c).zone m2)
    rw [begun.zoneOf here]
    exact begun.modZone _
  exact raiseNotice_run _ _ _ (by simp [OfAccounts]) opened

end

theorem forEachCoil_run {f : CoilIx → State → State × Bool} {l : List CoilIx}
    (step : ∀ c ∈ l, ∀ s, ZoneRun z s₀ s → ZoneRun z s₀ (f c s).1) (k : ZoneRun z s₀ s) :
    ZoneRun z s₀ (forEachCoil f l s).1 := by
  induction l generalizing s with
  | nil => exact k
  | cons c l ih => exact ih (fun d mem => step d (List.mem_cons_of_mem c mem)) (step c List.mem_cons_self s k)

theorem startPumpDown_run {cs : List CoilIx} (here : ∀ c ∈ cs, (s₀.coil c).zone = z) (k : ZoneRun z s₀ s) :
    ZoneRun z s₀ (startPumpDown cs s).1 := by
  refine forEachCoil_run (fun c mem t j => ?_) (forEach_run (fun c mem _ j => enterPumpDown_run (here c mem) j) k)
  split
  · exact enterHeat_run (here c mem) j
  · exact j

/-! ### The hold -/

section
variable {r : RoomIx} (here : roomZone r = z)
include here

theorem grantHold_run (k : ZoneRun z s₀ s) : ZoneRun z s₀ (grantHold r s).1 := by
  have set := setHold_run here k
  subst here
  exact startPumpDown_run (fun c mem => set.of_mem (List.mem_of_mem_filter mem)) set

theorem examineHold_run (k : ZoneRun z s₀ s) : ZoneRun z s₀ (examineHold r s).1 := by
  unfold examineHold
  dsimp only
  split
  · exact grantHold_run here k
  · exact k

theorem requestHold_run (mark) (k : ZoneRun z s₀ s) : ZoneRun z s₀ (requestHold r mark s).1 := by
  unfold requestHold
  dsimp only
  split
  · split
    · exact grantHold_run here (k.modRoom _ here)
    · dsimp only
      split
      · exact expireHoldOpen_run here (k.modRoom _ here)
      · exact k.modRoom _ here
  · exact k.modRoom _ here
  · exact k.modRoom _ here

end

theorem renewHold_run (k : ZoneRun z s₀ s) : ZoneRun z s₀ (renewHold z s) := by
  unfold renewHold
  split
  · exact k
  · next r room =>
    split
    · exact requestHold_run (roomZone_of_zoneRoom? room) _ k
    · exact k

theorem reportMark_run (k : ZoneRun z s₀ s) : ZoneRun z s₀ (reportMark z s).1 := by
  unfold reportMark
  split
  · exact k
  · next r room =>
    have here := roomZone_of_zoneRoom? room
    extract_lets p mark m
    have marked : ZoneRun z s₀ m := k.modRoom _ here
    split
    · exact k
    · split
      · split
        · exact grantHold_run here marked
        · dsimp only
          split
          · exact marked
          · exact grantWaiting_run here marked
      · exact marked

/-! ### Selection and the owed count -/

theorem beginDefrost_run {cs : List CoilIx} (here : ∀ c ∈ cs, (s₀.coil c).zone = z) (k : ZoneRun z s₀ s) :
    ZoneRun z s₀ (beginDefrost z cs s).1 := by
  unfold beginDefrost
  split
  · exact startPumpDown_run here k
  · next r room =>
    exact requestHold_run (roomZone_of_zoneRoom? room) _
      (forEach_run (fun c mem _ j => j.modCoil (here c mem) (.of_same rfl rfl rfl rfl)) k)

theorem selectStaggered_run (k : ZoneRun z s₀ s) : ZoneRun z s₀ (selectStaggered z s).1 := by
  unfold selectStaggered
  split
  · exact k
  · dsimp only
    split
    · exact k
    · next c found =>
      have here := k.of_mem (mem_zoneCoils_of_pointerOrder (List.mem_of_find?_eq_some found))
      exact beginDefrost_run (by simpa using here)
        (ZoneRun.modZone _ (k.modCoil here (.of_same rfl rfl rfl rfl)))

theorem selectAll_run (k : ZoneRun z s₀ s) : ZoneRun z s₀ (selectAll z s).1 := by
  unfold selectAll
  dsimp only
  split
  · have here : ∀ c ∈ (zoneCoils s z).filter fun c => !(s.coil c).mask, (s₀.coil c).zone = z :=
      fun c mem => k.of_mem (List.mem_of_mem_filter mem)
    exact beginDefrost_run here (forEach_run (fun c mem _ j => j.modCoil (here c mem) (.of_same rfl rfl rfl rfl)) k)
  · exact k

theorem selectOnce_run (k : ZoneRun z s₀ s) : ZoneRun z s₀ (selectOnce z s).1 := by
  unfold selectOnce
  split
  · split
    · exact selectStaggered_run k
    · exact selectAll_run k
  · exact k

theorem selectLoop_run (n) (k : ZoneRun z s₀ s) : ZoneRun z s₀ (selectLoop n z s) := by
  induction n generalizing s with
  | zero => exact k
  | succ n ih =>
    unfold selectLoop
    dsimp only
    split
    · exact ih (renewHold_run (selectOnce_run k))
    · exact selectOnce_run k

theorem selectZone_run (k : ZoneRun z s₀ s) : ZoneRun z s₀ (selectZone z s) := selectLoop_run _ k

theorem thenSelect_run {p : State × Bool} (k : ZoneRun z s₀ p.1) : ZoneRun z s₀ (thenSelect z p) := by
  unfold thenSelect
  split
  · exact selectZone_run (renewHold_run k)
  · exact k

/-- A raise stops at the limit (R100). -/
theorem raiseOwed_run {c : CoilIx} (here : (s₀.coil c).zone = z) (n) (k : ZoneRun z s₀ s) :
    ZoneRun z s₀ (raiseOwed n c s) := by
  unfold raiseOwed
  dsimp only
  split
  · exact k
  · have raised := k.modCoil (c := c) here (f := fun k => { k with
        owed := min (s.coil c).limit ((s.coil c).owed + n)
        forced := if min (s.coil c).limit ((s.coil c).owed + n) = k.limit then true else k.forced })
      ⟨rfl, rfl, rfl, fun _ floor => by dsimp only; omega, fun _ _ => min_le_left _ _⟩
    split
    · exact raiseNotice_run _ _ _ (by simp [OfAccounts]) raised
    · exact raised

theorem owedChanged_run (k : ZoneRun z s₀ s) : ZoneRun z s₀ (owedChanged z s) := selectZone_run (reportMark_run k)

theorem raiseZoneOwed_run (n) (k : ZoneRun z s₀ s) : ZoneRun z s₀ (raiseZoneOwed n z s) :=
  owedChanged_run (forEach_run (fun _ mem _ j => raiseOwed_run (k.of_mem (List.mem_of_mem_filter mem)) n j) k)

end

end Sys2Proof.Machine
end

section
/-! SUPPORT. The ranges of filtered values, exposure accounts and owed counts (R56, R64, R69, R97, R99, R101): every
command keeps them, with the statement O16. Only a sample moves a filtered value, only the exposure interval an
account, and what a defrost does to an owed count `ZoneRun` says; everything else leaves the values as they are. -/

namespace Sys2Proof.Machine

/-! ## What keeps the ranges -/

/-- The three rules of O16, kept from one state to the next. -/
structure RangesKept (s t : State) : Prop where
  filtered : FilteredInRange s → FilteredInRange t
  accounts : AccountsInRange s → AccountsInRange t
  owed : OwedInRange s → OwedInRange t

theorem RangesKept.refl (s : State) : RangesKept s s := ⟨id, id, id⟩

theorem RangesKept.trans {s t u : State} (h : RangesKept s t) (k : RangesKept t u) : RangesKept s u :=
  ⟨k.filtered ∘ h.filtered, k.accounts ∘ h.accounts, k.owed ∘ h.owed⟩

/-- A filtered value, an account and an owed count stand as they were. -/
structure SameValues (s t : State) : Prop where
  mode : t.mode = s.mode
  probes : ∀ i, (t.probe i).filtered = (s.probe i).filtered
  zones : ∀ z, (t.zone z).exposure = (s.zone z).exposure
  coils : ∀ c, OwedKept (s.coil c) (t.coil c)
  pallets : ∀ i p, t.pallet i = some p → ∃ q, s.pallet i = some q ∧ p.exposure = q.exposure

theorem OwedInRange.of_kept {s t : State} (mode : t.mode = s.mode) (coils : ∀ c, OwedKept (s.coil c) (t.coil c))
    (h : OwedInRange s) : OwedInRange t := by
  constructor
  · exact fun c => (coils c).limit ▸ h.limits c
  · exact fun c => (coils c).floor (h.limits c).1 (h.floor c)
  · intro active c loaded
    have top := h.top (mode ▸ active) c ((coils c).loaded ▸ loaded)
    exact (coils c).limit ▸ (coils c).top (h.limits c).1 top

theorem SameValues.kept {s t : State} (h : SameValues s t) : RangesKept s t where
  filtered inRange i := h.probes i ▸ inRange i
  accounts inRange :=
    ⟨fun z => h.zones z ▸ inRange.zones z, fun i p at_ => by
      obtain ⟨q, before, same⟩ := h.pallets i p at_
      exact same ▸ inRange.pallets i q before⟩
  owed := .of_kept h.mode h.coils

section
variable {s₀ s t : State}

/-- A change outside the probes, the zones, the coils and the pallets. -/
theorem RangesKept.aside (k : RangesKept s₀ s) (mode : t.mode = s.mode) (probes : t.probes = s.probes)
    (zones : t.zones = s.zones) (coils : t.coils = s.coils) (pallets : t.pallets = s.pallets) : RangesKept s₀ t :=
  k.trans <| SameValues.kept
    { mode := mode
      probes := fun i => by simp only [State.probe, probes]
      zones := fun z => by simp only [State.zone, zones]
      coils := fun c => by simp only [State.coil, coils]; exact .refl _
      pallets := fun i p at_ => ⟨p, by simpa only [State.pallet, pallets] using at_, rfl⟩ }

theorem RangesKept.ports (k : RangesKept s₀ s) (units : SameUnits s t) : RangesKept s₀ t :=
  k.aside units.mode units.probes units.zones units.coils units.pallets

/-- What the portals, the coils and the waiting shuttles of one zone do. -/
theorem RangesKept.run {z : ZoneIx} (k : RangesKept s₀ s) (ripple : Ripple s t) (run : ZoneRun z s t) :
    RangesKept s₀ t :=
  k.trans <| SameValues.kept
    { mode := run.mode
      probes := fun i => by simp only [State.probe, ripple.probes]
      zones := fun z => by rw [ripple.zones z]
      coils := run.coils
      pallets := fun i p at_ => ⟨p, by simpa only [State.pallet, ripple.pallets] using at_, rfl⟩ }

/-! ## The records -/

theorem State.modRoom_ranged (i f) (k : RangesKept s₀ s) : RangesKept s₀ (s.modRoom i f) :=
  k.aside rfl rfl rfl rfl rfl

theorem State.modDock_ranged (i f) (k : RangesKept s₀ s) : RangesKept s₀ (s.modDock i f) :=
  k.aside rfl rfl rfl rfl rfl

theorem State.modLane_ranged (i f) (k : RangesKept s₀ s) : RangesKept s₀ (s.modLane i f) :=
  k.aside rfl rfl rfl rfl rfl

theorem State.modShuttle_ranged (i f) (k : RangesKept s₀ s) : RangesKept s₀ (s.modShuttle i f) :=
  k.aside rfl rfl rfl rfl rfl

theorem State.modEntry_ranged (i f) (k : RangesKept s₀ s) : RangesKept s₀ (s.modEntry i f) :=
  k.aside rfl rfl rfl rfl rfl

theorem State.modCondition_ranged (i f) (k : RangesKept s₀ s) : RangesKept s₀ (s.modCondition i f) :=
  k.aside rfl rfl rfl rfl rfl

theorem State.modMove_ranged (i f) (k : RangesKept s₀ s) : RangesKept s₀ (s.modMove i f) :=
  k.aside rfl rfl rfl rfl rfl

/-- A probe record with a filtered value in range. -/
theorem State.modProbe_ranged {i : ProbeIx} {f : Probe → Probe}
    (value : -14080 ≤ (s.probe i).filtered → (s.probe i).filtered ≤ 32000 →
      -14080 ≤ (f (s.probe i)).filtered ∧ (f (s.probe i)).filtered ≤ 32000)
    (k : RangesKept s₀ s) : RangesKept s₀ (s.modProbe i f) := by
  refine k.trans ⟨fun inRange j => ?_, fun h => ⟨h.zones, h.pallets⟩, fun h => ⟨h.limits, h.floor, h.top⟩⟩
  rw [State.probe_modProbe]
  split
  · next same => exact same ▸ value (inRange i).1 (inRange i).2
  · exact inRange j

/-- A zone record with an account in range. -/
theorem State.modZone_ranged {i : ZoneIx} {f : Zone → Zone}
    (account : (s.zone i).exposure ≤ 16777215 → (f (s.zone i)).exposure ≤ 16777215) (k : RangesKept s₀ s) :
    RangesKept s₀ (s.modZone i f) := by
  refine k.trans ⟨id, fun inRange => ⟨fun z => ?_, inRange.pallets⟩, fun h => ⟨h.limits, h.floor, h.top⟩⟩
  rw [State.zone_modZone]
  split
  · next same => exact same ▸ account (inRange.zones i)
  · exact inRange.zones z

/-- A coil record whose place, limit and owed count stand. -/
theorem State.modCoil_ranged {i : CoilIx} {f : Coil → Coil} (loaded : (f (s.coil i)).loaded = (s.coil i).loaded)
    (zone : (f (s.coil i)).zone = (s.coil i).zone) (limit : (f (s.coil i)).limit = (s.coil i).limit)
    (owed : (f (s.coil i)).owed = (s.coil i).owed) (k : RangesKept s₀ s) : RangesKept s₀ (s.modCoil i f) := by
  refine k.trans ⟨id, fun h => ⟨h.zones, h.pallets⟩, .of_kept rfl fun c => ?_⟩
  rw [State.coil_modCoil]
  split
  · next same => exact same ▸ .of_same loaded zone limit owed
  · exact .refl _

/-- A pallet record whose account stands. -/
theorem State.modPallet_ranged {i : PalletIx} {f : Pallet → Pallet} (account : ∀ p, (f p).exposure = p.exposure)
    (k : RangesKept s₀ s) : RangesKept s₀ (s.modPallet i f) := by
  refine k.trans ⟨id, fun inRange => ⟨inRange.zones, fun j p at_ => ?_⟩, fun h => ⟨h.limits, h.floor, h.top⟩⟩
  rw [State.pallet_modPallet] at at_
  split at at_
  · obtain ⟨q, before, rfl⟩ := Option.map_eq_some_iff.mp at_
    exact account q ▸ inRange.pallets i q before
  · exact inRange.pallets j p at_

theorem forEach_ranged {α : Type} {l : List α} {f : α → State → State}
    (step : ∀ a s, RangesKept s₀ s → RangesKept s₀ (f a s)) (k : RangesKept s₀ s) :
    RangesKept s₀ (forEach l f s) := by
  induction l generalizing s with
  | nil => exact k
  | cons a l ih => exact ih (step a s k)

/-! ## The ports and the notices -/

theorem countEvent_ranged (p n) (k : RangesKept s₀ s) : RangesKept s₀ (countEvent p n s) :=
  k.ports (countEvent_portStep ..).units

theorem joinUplink_ranged (f) (k : RangesKept s₀ s) : RangesKept s₀ (joinUplink f s) :=
  k.ports (joinUplink_portStep ..).units

theorem joinRefusal_ranged (f) (k : RangesKept s₀ s) : RangesKept s₀ (joinRefusal f s) :=
  k.ports (joinRefusal_portStep ..).units

theorem joinForwarded_ranged (f) (k : RangesKept s₀ s) : RangesKept s₀ (joinForwarded f s) :=
  k.ports (joinForwarded_portStep ..).units

theorem placeForwarded_ranged (f b) (k : RangesKept s₀ s) : RangesKept s₀ (placeForwarded f b s) := by
  have joined (q) : RangesKept s₀ { s with forwarded := q } := k.aside rfl rfl rfl rfl rfl
  exact (joined _).ports (kickField_units _)

theorem raiseNotice_ranged (a o v) (k : RangesKept s₀ s) : RangesKept s₀ (raiseNotice a o v s) :=
  k.ports (raiseNotice_portStep ..).units

theorem originateDoor_ranged (r a) (k : RangesKept s₀ s) : RangesKept s₀ (originateDoor r a s) :=
  k.ports (originateDoor_portStep ..).units

theorem originateCoil_ranged (c p) (k : RangesKept s₀ s) : RangesKept s₀ (originateCoil c p s) :=
  k.ports (originateCoil_portStep ..).units

theorem originateOrder_ranged (u o b) (k : RangesKept s₀ s) : RangesKept s₀ (originateOrder u o b s) :=
  k.ports (originateOrder_portStep ..).units

theorem withdrawCommands_ranged (r a w) (k : RangesKept s₀ s) : RangesKept s₀ (withdrawCommands r a w s) :=
  k.ports (withdrawCommands_portStep ..).units

/-! ## Defrosts -/

theorem enterHeat_ranged (c) (k : RangesKept s₀ s) : RangesKept s₀ (enterHeat c s).1 :=
  k.run (enterHeat_ripple ..) (enterHeat_run rfl (.refl _ s))

theorem enterDrip_ranged (c) (k : RangesKept s₀ s) : RangesKept s₀ (enterDrip c s).1 :=
  k.run (enterDrip_ripple ..) (enterDrip_run rfl (.refl _ s))

theorem enterFanDelay_ranged (c) (k : RangesKept s₀ s) : RangesKept s₀ (enterFanDelay c s).1 :=
  k.run (enterFanDelay_ripple ..) (enterFanDelay_run rfl (.refl _ s))

theorem endFanDelay_ranged (c) (k : RangesKept s₀ s) : RangesKept s₀ (endFanDelay c s).1 :=
  k.run (endFanDelay_claimStep ..).toRipple (endFanDelay_run rfl (.refl _ s))

theorem examineHold_ranged (r) (k : RangesKept s₀ s) : RangesKept s₀ (examineHold r s).1 :=
  k.run (examineHold_ripple ..) (examineHold_run rfl (.refl _ s))

theorem thenSelect_ranged (z) {p : State × Bool} (k : RangesKept s₀ p.1) : RangesKept s₀ (thenSelect z p) :=
  k.run (thenSelect_ripple z p (Ripple.refl _)) (thenSelect_run (.refl z p.1))

theorem selectZone_ranged (z) (k : RangesKept s₀ s) : RangesKept s₀ (selectZone z s) :=
  k.run (selectZone_ripple ..) (selectZone_run (.refl z s))

theorem owedChanged_ranged (z) (k : RangesKept s₀ s) : RangesKept s₀ (owedChanged z s) :=
  k.run (owedChanged_ripple ..) (owedChanged_run (.refl z s))

theorem raiseOwed_ranged (n c) (k : RangesKept s₀ s) : RangesKept s₀ (raiseOwed n c s) :=
  k.run (raiseOwed_claimStep ..).toRipple (raiseOwed_run rfl n (.refl _ s))

theorem raiseZoneOwed_ranged (n z) (k : RangesKept s₀ s) : RangesKept s₀ (raiseZoneOwed n z s) :=
  k.run (raiseZoneOwed_ripple ..) (raiseZoneOwed_run n (.refl z s))

/-! ### Travel -/

theorem setShuttleState_ranged (u st) (k : RangesKept s₀ s) : RangesKept s₀ (setShuttleState u st s) := by
  grind [setShuttleState, State.modShuttle_ranged]

theorem beginTravel_ranged (u target by_) (k : RangesKept s₀ s) : RangesKept s₀ (beginTravel u target by_ s) :=
  originateOrder_ranged _ _ _ (State.modShuttle_ranged u _ k)

theorem beginHandling_ranged (u o st step) (k : RangesKept s₀ s) :
    RangesKept s₀ (beginHandling u o st step s) := by
  grind [beginHandling, originateOrder_ranged, State.modShuttle_ranged]

theorem beginHoming_ranged (u) (k : RangesKept s₀ s) : RangesKept s₀ (beginHoming u s) := by
  grind [beginHoming, originateOrder_ranged, State.modShuttle_ranged]

theorem testArmed_ranged (u) (k : RangesKept s₀ s) : RangesKept s₀ (testArmed u s) := by
  grind [testArmed, beginTravel_ranged]

theorem testHoming_ranged (u) (k : RangesKept s₀ s) : RangesKept s₀ (testHoming u s) := by
  grind [testHoming, beginHoming_ranged]

theorem testWaiting_ranged (u) (k : RangesKept s₀ s) : RangesKept s₀ (testWaiting u s) := by
  grind [testWaiting, testHoming_ranged, testArmed_ranged]

/-! ### Claims -/

theorem tellReady_ranged (r u) (k : RangesKept s₀ s) : RangesKept s₀ (tellReady r u s) := by
  grind [tellReady, testWaiting_ranged, State.modShuttle_ranged]

theorem tellNotReady_ranged (r u) (k : RangesKept s₀ s) : RangesKept s₀ (tellNotReady r u s) := by
  grind [tellNotReady, State.modShuttle_ranged]

theorem tellAllReady_ranged (r) (k : RangesKept s₀ s) : RangesKept s₀ (tellAllReady r s) := by
  grind [tellAllReady, tellReady_ranged, forEach_ranged]

theorem tellAllNotReady_ranged (r) (k : RangesKept s₀ s) : RangesKept s₀ (tellAllNotReady r s) := by
  grind [tellAllNotReady, tellNotReady_ranged, forEach_ranged]

theorem askOpen_ranged (r) (k : RangesKept s₀ s) : RangesKept s₀ (askOpen r s) := by
  grind [askOpen, originateDoor_ranged, State.modRoom_ranged]

theorem openForClaims_ranged (r) (k : RangesKept s₀ s) : RangesKept s₀ (openForClaims r s) := by
  grind [openForClaims, askOpen_ranged, State.modRoom_ranged]

theorem openForEntry_ranged (r) (k : RangesKept s₀ s) : RangesKept s₀ (openForEntry r s) := by
  grind [openForEntry, askOpen_ranged, State.modRoom_ranged]

theorem actOnEntry_ranged (r u) (k : RangesKept s₀ s) : RangesKept s₀ (actOnEntry r u s) := by
  grind [actOnEntry, openForEntry_ranged, askOpen_ranged, tellReady_ranged]

theorem formEntry_ranged (r u h) (k : RangesKept s₀ s) : RangesKept s₀ (formEntry r u h s) := by
  grind [formEntry, withdrawCommands_ranged, testWaiting_ranged, actOnEntry_ranged, State.modRoom_ranged]

theorem joinEntry_ranged (r u h) (k : RangesKept s₀ s) : RangesKept s₀ (joinEntry r u h s) := by
  grind [joinEntry, tellReady_ranged, State.modRoom_ranged]

theorem grantClaim_ranged (r u h) (k : RangesKept s₀ s) : RangesKept s₀ (grantClaim r u h s) := by
  grind [grantClaim, joinEntry_ranged, formEntry_ranged]

theorem requestClaim_ranged (r u h) (k : RangesKept s₀ s) : RangesKept s₀ (requestClaim r u h s) := by
  grind [requestClaim, joinEntry_ranged, formEntry_ranged, State.modRoom_ranged]

theorem requestClaims_ranged (u h doors) (k : RangesKept s₀ s) : RangesKept s₀ (requestClaims u h doors s).1 := by
  induction doors generalizing s with
  | nil => exact k
  | cons r rest ih => grind [requestClaims, requestClaim_ranged]

theorem grantWaiting_ranged (r) (k : RangesKept s₀ s) : RangesKept s₀ (grantWaiting r s) := by
  grind [grantWaiting, grantClaim_ranged, State.modRoom_ranged, forEach_ranged]

theorem releaseHold_ranged (r) (k : RangesKept s₀ s) : RangesKept s₀ (releaseHold r s) := by
  grind [releaseHold, grantWaiting_ranged, State.modRoom_ranged]

theorem expireHoldOpen_ranged (r) (k : RangesKept s₀ s) : RangesKept s₀ (expireHoldOpen r s) := by
  grind [expireHoldOpen, originateDoor_ranged, State.modRoom_ranged]

theorem startHoldOpen_ranged (r) (k : RangesKept s₀ s) : RangesKept s₀ (startHoldOpen r s) := by
  grind [startHoldOpen, expireHoldOpen_ranged, State.modRoom_ranged]

theorem handBackDoor_ranged (r) (k : RangesKept s₀ s) : RangesKept s₀ (handBackDoor r s) := by
  grind [handBackDoor, startHoldOpen_ranged, State.modRoom_ranged]

/-! ### Defrost -/

theorem examineRoom_ranged (r) (k : RangesKept s₀ s) : RangesKept s₀ (examineRoom r s) := by
  grind [examineRoom, thenSelect_ranged, examineHold_ranged]

theorem testPhaseEnd_ranged (c) (k : RangesKept s₀ s) : RangesKept s₀ (testPhaseEnd c s).1 := by
  grind [testPhaseEnd, enterDrip_ranged, endFanDelay_ranged]

theorem expireInterval_ranged (c) (k : RangesKept s₀ s) : RangesKept s₀ (expireInterval c s) := by
  grind [expireInterval, selectZone_ranged, owedChanged_ranged, raiseOwed_ranged, raiseNotice_ranged,
    State.modCoil_ranged]

theorem expireSpacing_ranged (c) (k : RangesKept s₀ s) : RangesKept s₀ (expireSpacing c s) := by
  grind [expireSpacing, selectZone_ranged, State.modCoil_ranged]

theorem expirePhase_ranged (c) (k : RangesKept s₀ s) : RangesKept s₀ (expirePhase c s) := by
  grind [expirePhase, thenSelect_ranged, enterHeat_ranged, enterDrip_ranged, raiseNotice_ranged, enterFanDelay_ranged,
    endFanDelay_ranged, State.modCoil_ranged]

theorem expireFollow_ranged (c) (k : RangesKept s₀ s) : RangesKept s₀ (expireFollow c s) := by
  grind [expireFollow, raiseNotice_ranged, State.modCoil_ranged]

/-! ### Pallets -/

theorem locatePallet_ranged (id loc st) (k : RangesKept s₀ s) : RangesKept s₀ (locatePallet id loc st s) := by
  grind [locatePallet, State.modPallet_ranged]

theorem appendToLane_ranged (l id) (k : RangesKept s₀ s) : RangesKept s₀ (appendToLane l id s) := by
  grind [appendToLane, locatePallet_ranged, State.modLane_ranged]

theorem releaseReservation_ranged (l) (k : RangesKept s₀ s) : RangesKept s₀ (releaseReservation l s) := by
  grind [releaseReservation, State.modLane_ranged]

theorem takeReservation_ranged (l) (k : RangesKept s₀ s) : RangesKept s₀ (takeReservation l s) := by
  grind [takeReservation, State.modLane_ranged]

theorem pickFromLane_ranged (l u) (k : RangesKept s₀ s) : RangesKept s₀ (pickFromLane l u s).1 := by
  grind [pickFromLane, locatePallet_ranged, State.modLane_ranged, State.modShuttle_ranged]

theorem placeFromDeck_ranged (l u) (k : RangesKept s₀ s) : RangesKept s₀ (placeFromDeck l u s) := by
  grind [placeFromDeck, releaseReservation_ranged, appendToLane_ranged, State.modShuttle_ranged]

theorem setDeckStatus_ranged (u st) (k : RangesKept s₀ s) : RangesKept s₀ (setDeckStatus u st s) := by
  grind [setDeckStatus, locatePallet_ranged]

theorem holdDeck_ranged (u) (k : RangesKept s₀ s) : RangesKept s₀ (holdDeck u s) := by
  grind [holdDeck, setDeckStatus_ranged]

theorem carryDeck_ranged (u) (k : RangesKept s₀ s) : RangesKept s₀ (carryDeck u s) := by
  grind [carryDeck, setDeckStatus_ranged]

theorem returnToLane_ranged (l u) (k : RangesKept s₀ s) : RangesKept s₀ (returnToLane l u s) := by
  grind [returnToLane, appendToLane_ranged, State.modShuttle_ranged]

theorem unplaceDeck_ranged (u) (k : RangesKept s₀ s) : RangesKept s₀ (unplaceDeck u s) := by
  grind [unplaceDeck, locatePallet_ranged, State.modShuttle_ranged]

/-! ### Portal -/

theorem releaseClaim_ranged (r u h) (k : RangesKept s₀ s) : RangesKept s₀ (releaseClaim r u h s) := by
  grind [releaseClaim, tellNotReady_ranged, examineRoom_ranged, handBackDoor_ranged, State.modRoom_ranged]

theorem releaseAllClaims_ranged (u h) (k : RangesKept s₀ s) : RangesKept s₀ (releaseAllClaims u h s) := by
  grind [releaseAllClaims, releaseClaim_ranged, forEach_ranged]

theorem releaseOtherClaims_ranged (u h keep) (k : RangesKept s₀ s) :
    RangesKept s₀ (releaseOtherClaims u h keep s) := by
  grind [releaseOtherClaims, releaseClaim_ranged, forEach_ranged]

theorem handOverClaims_ranged (u m) (k : RangesKept s₀ s) : RangesKept s₀ (handOverClaims u m s) :=
  forEach_ranged (fun r _ h => State.modRoom_ranged r _ h) k

theorem alarmRoom_ranged (r l value) (k : RangesKept s₀ s) : RangesKept s₀ (alarmRoom r l value s) := by
  grind [alarmRoom, raiseNotice_ranged, State.modRoom_ranged]

theorem enterOpen_ranged (r) (k : RangesKept s₀ s) : RangesKept s₀ (enterOpen r s) := by
  grind [enterOpen, tellAllReady_ranged, State.modRoom_ranged]

theorem enterClosed_ranged (r) (k : RangesKept s₀ s) : RangesKept s₀ (enterClosed r s) := by
  grind [enterClosed, examineRoom_ranged, State.modRoom_ranged]

theorem noteOpenInDefrost_ranged (r pos) (k : RangesKept s₀ s) : RangesKept s₀ (noteOpenInDefrost r pos s) := by
  grind [noteOpenInDefrost, raiseNotice_ranged, State.modRoom_ranged]

theorem closedOnClaim_ranged (r) (k : RangesKept s₀ s) : RangesKept s₀ (closedOnClaim r s) := by
  grind [closedOnClaim, raiseNotice_ranged, openForClaims_ranged, tellAllNotReady_ranged]

theorem roomClosedReport_ranged (r) (k : RangesKept s₀ s) : RangesKept s₀ (roomClosedReport r s) := by
  grind [roomClosedReport, enterClosed_ranged, closedOnClaim_ranged, openForClaims_ranged]

theorem roomMovingReport_ranged (r) (k : RangesKept s₀ s) : RangesKept s₀ (roomMovingReport r s) := by
  grind [roomMovingReport, noteOpenInDefrost_ranged, closedOnClaim_ranged, openForClaims_ranged, State.modRoom_ranged]

theorem roomOpenReport_ranged (r) (k : RangesKept s₀ s) : RangesKept s₀ (roomOpenReport r s) := by
  grind [roomOpenReport, enterOpen_ranged, noteOpenInDefrost_ranged, State.modRoom_ranged]

theorem roomFaultReport_ranged (r) (k : RangesKept s₀ s) : RangesKept s₀ (roomFaultReport r s) := by
  grind [roomFaultReport, tellAllNotReady_ranged, alarmRoom_ranged, State.modRoom_ranged]

theorem roomReport_ranged (r pos truck) (k : RangesKept s₀ s) : RangesKept s₀ (roomReport r pos truck s) := by
  cases pos <;> grind [roomReport, roomClosedReport_ranged, roomMovingReport_ranged, roomOpenReport_ranged,
    roomFaultReport_ranged, State.modRoom_ranged]

theorem expireDoor_ranged (r) (k : RangesKept s₀ s) : RangesKept s₀ (expireDoor r s) := by
  grind [expireDoor, raiseNotice_ranged, State.modRoom_ranged]

/-! ### Moves -/

theorem dropMove_ranged (m : Move) (k : RangesKept s₀ s) : RangesKept s₀ (dropMove m s) := by
  have dropped : RangesKept s₀ { s with moves := s.moves.filter fun r => r.id != m.id } :=
    k.aside rfl rfl rfl rfl rfl
  unfold dropMove
  cases m.shuttle with
  | none => exact dropped
  | some u => exact State.modShuttle_ranged u _ dropped

theorem reportEnd_ranged (m result reason) (k : RangesKept s₀ s) :
    RangesKept s₀ (reportEnd m result reason s) := by
  grind [reportEnd, dropMove_ranged, raiseNotice_ranged]

theorem endMove_ranged (m result reason reserved) (k : RangesKept s₀ s) :
    RangesKept s₀ (endMove m result reason reserved s) := by
  grind [endMove, releaseAllClaims_ranged, releaseReservation_ranged, reportEnd_ranged]

theorem stopMove_ranged (m reason reserved) (k : RangesKept s₀ s) :
    RangesKept s₀ (stopMove m reason reserved s) := by
  grind [stopMove, endMove_ranged]

theorem askEarlyClaims_ranged (u) (k : RangesKept s₀ s) : RangesKept s₀ (askEarlyClaims u s) := by
  grind [askEarlyClaims, requestClaim_ranged, forEach_ranged]

theorem askPick_ranged (u m) (k : RangesKept s₀ s) : RangesKept s₀ (askPick u m s) := by
  grind [askPick, beginHandling_ranged]

theorem askPlace_ranged (u m) (k : RangesKept s₀ s) : RangesKept s₀ (askPlace u m s) := by
  grind [askPlace, beginHandling_ranged]

theorem moveArrived_ranged (u id) (k : RangesKept s₀ s) : RangesKept s₀ (moveArrived u id s) := by
  grind [moveArrived, endMove_ranged, askPick_ranged, askPlace_ranged, askEarlyClaims_ranged, State.modMove_ranged]

theorem askTravel_ranged (u id target) (k : RangesKept s₀ s) : RangesKept s₀ (askTravel u id target s) := by
  grind [askTravel, moveArrived_ranged, beginTravel_ranged, State.modShuttle_ranged]

theorem moveTravel_ranged (u m target) (k : RangesKept s₀ s) : RangesKept s₀ (moveTravel u m target s) := by
  grind [moveTravel, requestClaims_ranged, askTravel_ranged, releaseOtherClaims_ranged, stopMove_ranged]

theorem goToSource_ranged (u m pallet) (k : RangesKept s₀ s) : RangesKept s₀ (goToSource u m pallet s) := by
  grind [goToSource, moveTravel_ranged, State.modMove_ranged]

theorem goToDest_ranged (u m pallet) (k : RangesKept s₀ s) : RangesKept s₀ (goToDest u m pallet s) := by
  grind [goToDest, moveTravel_ranged, State.modMove_ranged]

theorem readDest_ranged (m) (k : RangesKept s₀ s) : RangesKept s₀ (readDest m s) := by
  grind [readDest, State.modMove_ranged]

theorem pickUpDecision_ranged (u m) (k : RangesKept s₀ s) : RangesKept s₀ (pickUpDecision u m s) := by
  grind [pickUpDecision, stopMove_ranged, goToDest_ranged, takeReservation_ranged, readDest_ranged, goToSource_ranged]

theorem enterSlotA_ranged (u id) (k : RangesKept s₀ s) : RangesKept s₀ (enterSlotA u id s) := by
  grind [enterSlotA, State.modShuttle_ranged, State.modMove_ranged]

theorem enterSlotB_ranged (u id) (k : RangesKept s₀ s) : RangesKept s₀ (enterSlotB u id s) := by
  grind [enterSlotB, State.modShuttle_ranged, State.modMove_ranged]

theorem moveUp_ranged (u id) (k : RangesKept s₀ s) : RangesKept s₀ (moveUp u id s) :=
  enterSlotA_ranged u id (State.modShuttle_ranged u _ k)

theorem fillSlotA_ranged (u) (k : RangesKept s₀ s) : RangesKept s₀ (fillSlotA u s) := by
  grind [fillSlotA, moveUp_ranged, enterSlotA_ranged]

theorem beginQueued_ranged (u) (k : RangesKept s₀ s) : RangesKept s₀ (beginQueued u s) := by
  grind [beginQueued, pickUpDecision_ranged]

theorem fillSlotB_ranged (u) (k : RangesKept s₀ s) : RangesKept s₀ (fillSlotB u s) := by
  grind [fillSlotB, enterSlotB_ranged]

theorem settleLoop_ranged (n u) (k : RangesKept s₀ s) : RangesKept s₀ (settleLoop n u s) := by
  induction n generalizing s with
  | zero => exact k
  | succ n ih => grind [settleLoop, fillSlotA_ranged, fillSlotB_ranged, beginQueued_ranged]

theorem settleRail_ranged (u) (k : RangesKept s₀ s) : RangesKept s₀ (settleRail u s) := by
  grind [settleRail, settleLoop_ranged]

theorem startPark_ranged (u) (k : RangesKept s₀ s) : RangesKept s₀ (startPark u s) := by
  grind [startPark, State.modShuttle_ranged]

theorem retryStep_ranged (u) (k : RangesKept s₀ s) : RangesKept s₀ (retryStep u s) := by
  grind [retryStep, moveTravel_ranged, askPick_ranged, askPlace_ranged]

theorem enteredIdle_ranged (u) (k : RangesKept s₀ s) : RangesKept s₀ (enteredIdle u s) := by
  exact startPark_ranged u (settleRail_ranged u (beginQueued_ranged u (retryStep_ranged u (testArmed_ranged u k))))

theorem movePicked_ranged (u id answer) (k : RangesKept s₀ s) : RangesKept s₀ (movePicked u id answer s) := by
  grind [movePicked, stopMove_ranged, goToDest_ranged]

theorem movePlaced_ranged (u id) (k : RangesKept s₀ s) : RangesKept s₀ (movePlaced u id s) := by
  grind [movePlaced, pickUpDecision_ranged, endMove_ranged, State.modMove_ranged]

theorem failMove_ranged (u m) (k : RangesKept s₀ s) : RangesKept s₀ (failMove u m s) := by
  grind [failMove, handOverClaims_ranged, releaseReservation_ranged, reportEnd_ranged]

theorem returnToQueue_ranged (u id) (k : RangesKept s₀ s) : RangesKept s₀ (returnToQueue u id s) := by
  grind [returnToQueue, releaseAllClaims_ranged, State.modShuttle_ranged, State.modMove_ranged]

theorem movesOnFault_ranged (u) (k : RangesKept s₀ s) : RangesKept s₀ (movesOnFault u s) := by
  grind [movesOnFault, returnToQueue_ranged, failMove_ranged]

theorem cancelMove_ranged (m) (k : RangesKept s₀ s) : RangesKept s₀ (cancelMove m s) := by
  grind [cancelMove, endMove_ranged, settleRail_ranged, State.modShuttle_ranged, State.modMove_ranged]

/-! ### Shuttles -/

theorem enterFault_ranged (u reason) (k : RangesKept s₀ s) : RangesKept s₀ (enterFault u reason s) := by
  grind [enterFault, holdDeck_ranged, raiseNotice_ranged, movesOnFault_ranged, State.modShuttle_ranged]

theorem endStep_ranged (u) (k : RangesKept s₀ s) : RangesKept s₀ (endStep u s) := by
  grind [endStep, State.modShuttle_ranged]

theorem afterMoveStep_ranged (u) (k : RangesKept s₀ s) : RangesKept s₀ (afterMoveStep u s) := by
  grind [afterMoveStep, startPark_ranged, settleRail_ranged]

theorem arrive_ranged (u target by_) (k : RangesKept s₀ s) : RangesKept s₀ (arrive u target by_ s) := by
  cases by_ <;> grind [arrive, endStep_ranged, afterMoveStep_ranged, moveArrived_ranged, enteredIdle_ranged,
    releaseAllClaims_ranged, State.modShuttle_ranged]

theorem picked_ranged (u l m) (k : RangesKept s₀ s) : RangesKept s₀ (picked u l m s) := by
  grind [picked, pickFromLane_ranged, endStep_ranged, afterMoveStep_ranged, movePicked_ranged]

theorem placed_ranged (u l m) (k : RangesKept s₀ s) : RangesKept s₀ (placed u l m s) := by
  grind [placed, afterMoveStep_ranged, movePlaced_ranged, placeFromDeck_ranged, endStep_ranged]

theorem homed_ranged (u loaded) (k : RangesKept s₀ s) : RangesKept s₀ (homed u loaded s) := by
  grind [homed, enterFault_ranged, endStep_ranged, releaseAllClaims_ranged, carryDeck_ranged, raiseNotice_ranged,
    enteredIdle_ranged, State.modShuttle_ranged]

theorem shuttleReport_ranged (u rep pos loaded) (k : RangesKept s₀ s) :
    RangesKept s₀ (shuttleReport u rep pos loaded s) := by
  cases rep <;> grind [shuttleReport, arrive_ranged, picked_ranged, placed_ranged, homed_ranged, enterFault_ranged,
    raiseNotice_ranged, setShuttleState_ranged, enteredIdle_ranged]

theorem expireStep_ranged (u) (k : RangesKept s₀ s) : RangesKept s₀ (expireStep u s) := by
  grind [expireStep, enterFault_ranged]

theorem startHoming_ranged (u) (k : RangesKept s₀ s) : RangesKept s₀ (startHoming u s) := by
  grind [startHoming, setShuttleState_ranged, testHoming_ranged, requestClaim_ranged, forEach_ranged]

theorem clearShuttle_ranged (u d) (k : RangesKept s₀ s) : RangesKept s₀ (clearShuttle u d s) := by
  grind [clearShuttle, returnToLane_ranged, carryDeck_ranged, unplaceDeck_ranged, releaseAllClaims_ranged,
    enteredIdle_ranged, setShuttleState_ranged, State.modShuttle_ranged]

theorem startParking_ranged (u) (k : RangesKept s₀ s) : RangesKept s₀ (startParking u s) := by
  grind [startParking, requestClaims_ranged, releaseAllClaims_ranged, setShuttleState_ranged, arrive_ranged,
    beginTravel_ranged, settleRail_ranged, State.modShuttle_ranged]

theorem expirePark_ranged (u) (k : RangesKept s₀ s) : RangesKept s₀ (expirePark u s) := by
  grind [expirePark, startParking_ranged, State.modShuttle_ranged]


/-! ### Defrost -/

theorem changeReading_ranged {c : CoilIx} {f : Coil → Coil} (loaded : (f (s.coil c)).loaded = (s.coil c).loaded)
    (zone : (f (s.coil c)).zone = (s.coil c).zone) (limit : (f (s.coil c)).limit = (s.coil c).limit)
    (owed : (f (s.coil c)).owed = (s.coil c).owed) (k : RangesKept s₀ s) :
    RangesKept s₀ (changeReading c f s) := by
  grind [changeReading, thenSelect_ranged, testPhaseEnd_ranged, State.modCoil_ranged]

theorem handProbeReading_ranged (c st value) (k : RangesKept s₀ s) : RangesKept s₀ (handProbeReading c st value s) := by
  grind [handProbeReading, changeReading_ranged]

theorem takeReported_ranged (c value) (k : RangesKept s₀ s) : RangesKept s₀ (takeReported c value s) := by
  grind [takeReported, changeReading_ranged]

theorem takeEcho_ranged (c echo) (k : RangesKept s₀ s) : RangesKept s₀ (takeEcho c echo s) := by
  grind [takeEcho, State.modCoil_ranged]

theorem expireReport_ranged (c) (k : RangesKept s₀ s) : RangesKept s₀ (expireReport c s) := by
  grind [expireReport, changeReading_ranged]

/-! ### Pallets -/

theorem setPallet_ranged {i : PalletIx} {o : Option Pallet} (account : ∀ p, o = some p → p.exposure ≤ 16777215)
    (k : RangesKept s₀ s) : RangesKept s₀ { s with pallets := tset s.pallets i o } := by
  refine k.trans ⟨id, fun inRange => ⟨inRange.zones, fun j p at_ => ?_⟩, fun h => ⟨h.limits, h.floor, h.top⟩⟩
  rw [State.pallet] at at_
  by_cases same : j = i
  · subst same
    exact account p (by simpa using at_)
  · exact inRange.pallets j p (by rwa [tget_tset_ne _ _ (Ne.symm same)] at at_)

/-- Every pallet record is replaced by one whose account is in range where the old one's was. -/
theorem mapPallets_ranged {f : Pallet → Pallet} (account : ∀ p, p.exposure ≤ 16777215 → (f p).exposure ≤ 16777215)
    (k : RangesKept s₀ s) : RangesKept s₀ { s with pallets := tmap (Option.map f) s.pallets } := by
  refine k.trans ⟨id, fun inRange => ⟨inRange.zones, fun j p at_ => ?_⟩, fun h => ⟨h.limits, h.floor, h.top⟩⟩
  rw [State.pallet, tget_tmap] at at_
  obtain ⟨q, before, rfl⟩ := Option.map_eq_some_iff.mp at_
  exact account q (inRange.pallets j q before)

theorem addExcess_le (account : Nat) (excess : Int) : addExcess account excess ≤ 16777215 := Nat.min_le_left ..

theorem accruePallet_exposure (s : State) (p : Pallet) (h : p.exposure ≤ 16777215) :
    (accruePallet s p).exposure ≤ 16777215 := by
  unfold accruePallet
  dsimp only
  split
  · exact h
  · split
    · exact h
    · exact addExcess_le _ _


theorem removeFromLane_ranged (l id) (k : RangesKept s₀ s) : RangesKept s₀ (removeFromLane l id s) := by
  grind [removeFromLane, State.modLane_ranged]

theorem leaveLocation_ranged (p) (k : RangesKept s₀ s) : RangesKept s₀ (leaveLocation p s) := by
  grind [leaveLocation, removeFromLane_ranged]

theorem freshArrival_ranged (i id cls p) (k : RangesKept s₀ s) : RangesKept s₀ (freshArrival i id cls p s) := by
  have set : RangesKept s₀ { s with pallets := tset s.pallets i (some (freshPallet s id cls p)) } := by
    refine setPallet_ranged (fun q fresh => ?_) k
    obtain rfl := Option.some.inj fresh
    exact Nat.zero_le _
  unfold freshArrival
  dsimp only
  split
  · exact State.modPallet_ranged (fun _ => rfl) (State.modLane_ranged _ _ set)
  · exact raiseNotice_ranged _ _ _ set

theorem readIn_ranged (p id cls) (k : RangesKept s₀ s) : RangesKept s₀ (readIn p id cls s) := by
  have left (l : List PalletIx) : RangesKept s₀ { s with departed := l } := k.aside rfl rfl rfl rfl rfl
  grind [readIn, raiseNotice_ranged, freshArrival_ranged]

theorem departPallet_ranged (p i q) (k : RangesKept s₀ s) : RangesKept s₀ (departPallet p i q s) := by
  have joined {t : State} (h : RangesKept s₀ t) (l : List PalletIx) : RangesKept s₀ { t with departed := l } :=
    h.aside rfl rfl rfl rfl rfl
  grind [departPallet, leaveLocation_ranged, raiseNotice_ranged, State.modPallet_ranged]

theorem readOut_ranged (p id) (k : RangesKept s₀ s) : RangesKept s₀ (readOut p id s) := by
  grind [readOut, raiseNotice_ranged, departPallet_ranged]

theorem tagRead_ranged (p id cls outbound) (k : RangesKept s₀ s) : RangesKept s₀ (tagRead p id cls outbound s) := by
  grind [tagRead, readOut_ranged, readIn_ranged, raiseNotice_ranged]

theorem removePallet_ranged (i q) (k : RangesKept s₀ s) : RangesKept s₀ (removePallet i q s) :=
  (setPallet_ranged (i := i) (o := none) (fun _ free => nomatch free) (leaveLocation_ranged q k)).aside
    rfl rfl rfl rfl rfl

theorem quarantineStep_ranged (i) (k : RangesKept s₀ s) : RangesKept s₀ (quarantineStep i s) := by
  unfold quarantineStep
  split
  · exact k
  · split
    · exact raiseNotice_ranged _ _ _ (State.modPallet_ranged (fun _ => rfl) k)
    · exact k

theorem palletExpiry_ranged (k : RangesKept s₀ s) : RangesKept s₀ (palletExpiry s) :=
  forEach_ranged (fun i _ h => quarantineStep_ranged i h) (mapPallets_ranged (accruePallet_exposure s) k)

/-! ### Portal -/

theorem alarmDock_ranged (p l value) (k : RangesKept s₀ s) : RangesKept s₀ (alarmDock p l value s) := by
  grind [alarmDock, raiseNotice_ranged, State.modDock_ranged]

theorem enterDock_ranged (p st) (k : RangesKept s₀ s) : RangesKept s₀ (enterDock p st s) := by
  grind [enterDock, State.modDock_ranged]

theorem enterDockByDoor_ranged (p st) (k : RangesKept s₀ s) : RangesKept s₀ (enterDockByDoor p st s) := by
  grind [enterDockByDoor, enterDock_ranged, alarmDock_ranged]

theorem dockReport_ranged (p pos truck) (k : RangesKept s₀ s) : RangesKept s₀ (dockReport p pos truck s) := by
  cases pos <;> grind [dockReport, alarmDock_ranged, enterDock_ranged, enterDockByDoor_ranged, State.modDock_ranged]

theorem dockPressure_ranged (p pressure) (k : RangesKept s₀ s) : RangesKept s₀ (dockPressure p pressure s) := by
  grind [dockPressure, enterDock_ranged, raiseNotice_ranged, alarmDock_ranged, State.modDock_ranged]

theorem expireSeal_ranged (p) (k : RangesKept s₀ s) : RangesKept s₀ (expireSeal p s) := by
  grind [expireSeal, raiseNotice_ranged, enterDock_ranged, State.modDock_ranged]

/-! ### Temperature -/

/-- A quotient rounded toward zero lies between zero and the dividend. -/
theorem tdiv_between (d : Int) {b : Int} (pos : 0 < b) :
    min 0 d ≤ d.tdiv b ∧ d.tdiv b ≤ max 0 d := by
  rcases le_total 0 d with up | down
  · have nonneg := Int.tdiv_nonneg up pos.le
    have le := Int.tdiv_le_self b up
    omega
  · have nonneg := Int.tdiv_nonneg (Int.neg_nonneg_of_nonpos down) pos.le
    have le := Int.tdiv_le_self b (Int.neg_nonneg_of_nonpos down)
    rw [Int.neg_tdiv] at nonneg le
    omega

theorem recomputeZone_ranged (z) (k : RangesKept s₀ s) : RangesKept s₀ (recomputeZone z s) := by
  grind [recomputeZone, raiseNotice_ranged, State.modZone_ranged]

theorem passProbe_ranged (i) (k : RangesKept s₀ s) : RangesKept s₀ (passProbe i s) := by
  grind [passProbe, recomputeZone_ranged, handProbeReading_ranged]

/-- An update moves the filtered value toward the sample's, not past it; both lie in the range (R54, R56). -/
theorem filterStep_range (before : ProbeState) {filtered : Int} (c : Int) (shift : Nat) (low : -14080 ≤ filtered)
    (high : filtered ≤ 32000) :
    -14080 ≤ filterStep before filtered (clampTemp c) shift
      ∧ filterStep before filtered (clampTemp c) shift ≤ 32000 := by
  have target : -14080 ≤ clampTemp c * 16 ∧ clampTemp c * 16 ≤ 32000 := by
    simp only [clampTemp, Config.tempLow, Config.tempHigh]
    omega
  unfold filterStep
  dsimp only
  split
  · have toward := tdiv_between (clampTemp c * 16 - filtered) (pow_pos two_pos shift : (0 : Int) < 2 ^ shift)
    omega
  · exact target

theorem probeSample_ranged (i value) (k : RangesKept s₀ s) : RangesKept s₀ (probeSample i value s) := by
  have faulted : RangesKept s₀ (s.modProbe i fun p => p.faulted s.count) :=
    State.modProbe_ranged (fun low high => ⟨low, high⟩) k
  have sampled : RangesKept s₀ (s.modProbe i fun p => p.sampled value s.count) :=
    State.modProbe_ranged (fun low high => filterStep_range _ _ _ low high) k
  grind [probeSample, raiseNotice_ranged, passProbe_ranged]

theorem expireStaleness_ranged (i) (k : RangesKept s₀ s) : RangesKept s₀ (expireStaleness i s) := by
  grind [expireStaleness, passProbe_ranged, raiseNotice_ranged, State.modProbe_ranged]

theorem expireAllowance_ranged (z) (k : RangesKept s₀ s) : RangesKept s₀ (expireAllowance z s) := by
  grind [expireAllowance, State.modZone_ranged]

theorem frostStep_ranged (z) (k : RangesKept s₀ s) : RangesKept s₀ (frostStep z s) := by
  grind [frostStep, raiseZoneOwed_ranged, State.modZone_ranged]

theorem zoneAlarmStep_ranged (z) (k : RangesKept s₀ s) : RangesKept s₀ (zoneAlarmStep z s) := by
  grind [zoneAlarmStep, raiseNotice_ranged, State.modZone_ranged]

theorem exposureStep_le {n : Zone} (account : n.exposure ≤ 16777215) : exposureStep n ≤ 16777215 := by
  unfold exposureStep
  split
  · exact account
  · dsimp only
    split
    · exact addExcess_le _ _
    · exact (Nat.sub_le ..).trans account

theorem zoneExpiry_ranged (z) (k : RangesKept s₀ s) : RangesKept s₀ (zoneExpiry z s) := by
  unfold zoneExpiry
  split
  · exact frostStep_ranged z (zoneAlarmStep_ranged z (State.modZone_ranged exposureStep_le k))
  · exact k

theorem exposureExpiry_ranged (k : RangesKept s₀ s) : RangesKept s₀ (exposureExpiry s) :=
  palletExpiry_ranged (forEach_ranged (fun z _ h => zoneExpiry_ranged z h) (k.aside rfl rfl rfl rfl rfl))

/-! ### Gate and classifier -/

theorem refuseCommand_ranged (f a b) (k : RangesKept s₀ s) : RangesKept s₀ (refuseCommand f a b s) :=
  joinRefusal_ranged _ k

theorem refuseBuiltIn_ranged (f r) (k : RangesKept s₀ s) : RangesKept s₀ (refuseBuiltIn f r s) :=
  refuseCommand_ranged _ _ _ k

theorem refuseByCondition_ranged (f i) (k : RangesKept s₀ s) : RangesKept s₀ (refuseByCondition f i s) :=
  refuseCommand_ranged _ _ _ (State.modCondition_ranged i _ k)

theorem storePayload_ranged (e f) (k : RangesKept s₀ s) : RangesKept s₀ (storePayload e f s) :=
  State.modEntry_ranged e _ k

theorem placementEffect_ranged (t a) (k : RangesKept s₀ s) : RangesKept s₀ (placementEffect t a s) := by
  unfold placementEffect
  split <;> grind [State.modDock_ranged, State.modRoom_ranged]

theorem placeCommand_ranged (e f b t a) (k : RangesKept s₀ s) : RangesKept s₀ (placeCommand e f b t a s) := by
  grind [placeCommand, refuseBuiltIn_ranged, countEvent_ranged, placementEffect_ranged, storePayload_ranged,
    placeForwarded_ranged]

theorem gateCommand_ranged (e f b t a) (k : RangesKept s₀ s) : RangesKept s₀ (gateCommand e f b t a s) := by
  grind [gateCommand, refuseBuiltIn_ranged, refuseByCondition_ranged, placeCommand_ranged]

theorem gateUnmatched_ranged (f) (k : RangesKept s₀ s) : RangesKept s₀ (gateUnmatched f s) :=
  refuseBuiltIn_ranged _ _ (countEvent_ranged _ _ k)

theorem takeCoilReport_ranged (c t e) (k : RangesKept s₀ s) : RangesKept s₀ (takeCoilReport c t e s) :=
  takeReported_ranged _ _ (takeEcho_ranged _ _ k)

theorem deliver_ranged (d : Delivery) (x) (k : RangesKept s₀ s) : RangesKept s₀ (d.deliver x s) := by
  unfold Delivery.deliver
  split <;> grind [probeSample_ranged, takeReported_ranged, takeCoilReport_ranged, dockReport_ranged,
    roomReport_ranged, dockPressure_ranged, tagRead_ranged, shuttleReport_ranged]

theorem countHit_ranged (e) (k : RangesKept s₀ s) : RangesKept s₀ (countHit e s) := State.modEntry_ranged e _ k

theorem forwardUp_ranged (e f) (k : RangesKept s₀ s) : RangesKept s₀ (forwardUp e f s) := by
  grind [forwardUp, joinUplink_ranged, storePayload_ranged]

theorem forwardDown_ranged (e f) (k : RangesKept s₀ s) : RangesKept s₀ (forwardDown e f s) := by
  grind [forwardDown, joinForwarded_ranged, storePayload_ranged]

theorem matchedUp_ranged (e f) (k : RangesKept s₀ s) : RangesKept s₀ (matchedUp e f s) := by
  grind [matchedUp, countEvent_ranged, forwardUp_ranged, deliver_ranged]

theorem matchedCommand_ranged (e f) (k : RangesKept s₀ s) : RangesKept s₀ (matchedCommand e f s) := by
  grind [matchedCommand, countEvent_ranged, gateCommand_ranged]

theorem matchedDown_ranged (e f) (k : RangesKept s₀ s) : RangesKept s₀ (matchedDown e f s) := by
  grind [matchedDown, countEvent_ranged, matchedCommand_ranged, forwardDown_ranged]

theorem unmatchedUp_ranged (f) (k : RangesKept s₀ s) : RangesKept s₀ (unmatchedUp f s) := by
  grind [unmatchedUp, joinUplink_ranged, countEvent_ranged]

theorem unmatchedDown_ranged (f) (k : RangesKept s₀ s) : RangesKept s₀ (unmatchedDown f s) := by
  grind [unmatchedDown, gateUnmatched_ranged, countEvent_ranged, joinForwarded_ranged]

theorem classifyUp_ranged (f) (k : RangesKept s₀ s) : RangesKept s₀ (classifyUp f s) := by
  grind [classifyUp, joinUplink_ranged, matchedUp_ranged, countHit_ranged, unmatchedUp_ranged]

theorem classifyDown_ranged (f) (k : RangesKept s₀ s) : RangesKept s₀ (classifyDown f s) := by
  grind [classifyDown, joinForwarded_ranged, matchedDown_ranged, countHit_ranged, unmatchedDown_ranged]

/-! ### Power-on, the transmitters, the time base -/

theorem powerOn_ranged (strap) (k : RangesKept s₀ s) : RangesKept s₀ (powerOn strap s) :=
  k.trans
    ⟨fun _ => resetIsSafe.filtered, fun _ => ⟨resetIsSafe.accounts.zones, resetIsSafe.accounts.pallets⟩,
      fun _ => ⟨resetIsSafe.owed.limits, resetIsSafe.owed.floor, fun active => nomatch active⟩⟩

theorem endTransmission_ranged (p) (k : RangesKept s₀ s) : RangesKept s₀ (endTransmission p s) := by
  have trunk : RangesKept s₀ { s with trunkTx := none } := k.aside rfl rfl rfl rfl rfl
  have field : RangesKept s₀ { s with fieldTx := none } := k.aside rfl rfl rfl rfl rfl
  unfold endTransmission
  cases p with
  | trunk =>
    dsimp only
    split
    · exact trunk.ports (trunkChoose_units _)
    · exact k
  | field =>
    dsimp only
    split
    · exact field.ports (fieldChoose_units _)
    · exact k

/-- A running second moves timers only. -/
theorem ticked_ranged (k : RangesKept s₀ s) : RangesKept s₀ (ticked s) :=
  k.trans <| SameValues.kept
    { mode := rfl
      probes := fun i => by simp [ticked, State.probe, Probe.ticked]
      zones := fun z => by simp [ticked, State.zone, Zone.ticked]
      coils := fun c => by simp only [ticked, State.coil, tget_tmap]; exact .of_same rfl rfl rfl rfl
      pallets := fun _ p at_ => ⟨p, at_, rfl⟩ }

theorem whenDue_ranged (t) {act : State → State} (step : RangesKept s₀ (act s)) (k : RangesKept s₀ s) :
    RangesKept s₀ (whenDue t act s) := by
  grind [whenDue]

theorem settleAfter_ranged (u b) (k : RangesKept s₀ s) : RangesKept s₀ (settleAfter u b s) := by
  grind [settleAfter, settleRail_ranged]

end

/-! ## Requests -/

/-- Where a decision accepts, the three rules are kept up to the reply. -/
def Decision.Ranged (s : State) : Decision → Prop
  | .refused _ => True
  | .invalid _ _ => True
  | .accepted _ t => RangesKept s t

section
variable {s : State}

theorem accepted_ranged {fields t} (h : RangesKept s t) : (Decision.accepted fields t).Ranged s := h

/-- A request that leaves the values alone is accepted. -/
theorem accepted_aside_ranged {fields t} (mode : t.mode = s.mode) (probes : t.probes = s.probes)
    (zones : t.zones = s.zones) (coils : t.coils = s.coils) (pallets : t.pallets = s.pallets) :
    (Decision.accepted fields t).Ranged s :=
  (RangesKept.refl s).aside mode probes zones coils pallets

theorem refused_ranged (r) : (Decision.refused r).Ranged s := trivial

theorem dropUnboundReadings_ranged {s₀ : State} (k : RangesKept s₀ s) : RangesKept s₀ (dropUnboundReadings s) := by
  refine k.trans <| SameValues.kept
    ⟨?mode, fun i => ?probes, fun z => ?zones, fun c => ?coils, fun i p at_ => ⟨p, ?_, rfl⟩⟩
  case coils =>
    rw [dropUnboundReadings_coil]
    split <;> exact .of_same rfl rfl rfl rfl
  all_goals
    unfold dropUnboundReadings at *
    first | rfl | exact at_

theorem storeZone_ranged {i : ZoneIx} {z : Zone} (policy) (account : z.exposure = (s.zone i).exposure) :
    RangesKept s (storeZone i z policy s) := by
  have stored : RangesKept s (s.modZone i fun _ => z) :=
    State.modZone_ranged (fun inRange => account ▸ inRange) (.refl s)
  unfold storeZone
  refine selectZone_ranged _ ?_
  split
  · exact stored.aside rfl rfl rfl rfl rfl
  · exact stored

/-- A coil record with its limit in range and its owed count at or below it (R97, R101). -/
theorem storeCoil_ranged {c : CoilIx} {n : Coil} (limit : 1 ≤ n.limit ∧ n.limit ≤ 8)
    (floor : -8 ≤ (s.coil c).owed → -8 ≤ n.owed)
    (top : s.mode = .active → ((s.coil c).loaded = true → (s.coil c).owed ≤ (s.coil c).limit) → n.owed ≤ n.limit) :
    RangesKept s (s.modCoil c fun _ => n) := by
  refine ⟨id, fun h => ⟨h.zones, h.pallets⟩, fun h => ⟨fun d => ?_, fun d => ?_, fun active d => ?_⟩⟩
  all_goals
    rw [State.coil_modCoil]
    split
  · exact limit
  · exact h.limits d
  · exact floor (h.floor c)
  · exact h.floor d
  · exact fun _ => top active (h.top active c)
  · exact h.top active d

theorem readCoilEntry_limit {old k : Coil} {l : List Byte} (read : readCoilEntry old l = some k) :
    1 ≤ k.limit ∧ k.limit ≤ 8 := by
  unfold readCoilEntry at read
  split at read
  · iterate 2 refine of_bind_eq_some (fun _ read => ?_) read
    obtain ⟨limit, within, read⟩ := Option.bind_eq_some_iff.mp read
    have bounds := (Option.ite_none_right_eq_some.mp within).1
    obtain rfl := Option.some.inj (Option.ite_none_right_eq_some.mp within).2
    iterate 9 refine of_bind_eq_some (fun _ read => ?_) read
    obtain rfl := Option.some.inj read
    dsimp only
    omega
  · cases read

theorem loadClassification_ranged (i fields) : (loadClassification i fields s).Ranged s := by
  unfold loadClassification
  split
  · trivial
  · exact accepted_aside_ranged rfl rfl rfl rfl rfl

theorem loadCondition_ranged (i fields) : (loadCondition i fields s).Ranged s := by
  unfold loadCondition
  split
  · trivial
  · exact accepted_aside_ranged rfl rfl rfl rfl rfl

theorem loadProductClass_ranged (i fields) : (loadProductClass i fields s).Ranged s := by
  unfold loadProductClass
  split
  · trivial
  · exact accepted_aside_ranged rfl rfl rfl rfl rfl

/-- A load of a probe keeps its filtered value. -/
theorem loadProbe_ranged (i fields) : (loadProbe i fields s).Ranged s := by
  unfold loadProbe
  extract_lets old
  split
  · trivial
  · next p read =>
    have stored : RangesKept s (s.modProbe i fun _ => p) := by
      refine State.modProbe_ranged (fun low high => ?_) (.refl s)
      rw [readProbe_keeps read]
      exact ⟨low, high⟩
    split
    · exact dropUnboundReadings_ranged stored
    · split
      · exact stored
      · trivial

/-- A load of a zone keeps its account. -/
theorem loadZone_ranged (i fields) : (loadZone i fields s).Ranged s := by
  unfold loadZone
  extract_lets old
  split
  · next z policy read _ =>
    have stored : RangesKept s (storeZone i z policy s) := storeZone_ranged policy (by rw [readZone_keeps read])
    split
    · exact stored
    · split_ifs
      · trivial
      · exact stored
      · trivial
  · trivial

theorem loadDock_ranged (p fields) : (loadDock p fields s).Ranged s := by
  have k := RangesKept.refl s
  grind [loadDock, refused_ranged, accepted_ranged, State.modDock_ranged]

theorem loadRoom_ranged (r fields) : (loadRoom r fields s).Ranged s := by
  have k := RangesKept.refl s
  grind [loadRoom, refused_ranged, accepted_ranged, State.modRoom_ranged]

theorem Coil.newLimit_limit (k : Coil) : k.newLimit.limit = k.limit := by
  unfold Coil.newLimit
  split_ifs <;> rfl

theorem Coil.newLimit_owed (k : Coil) : k.newLimit.owed = min k.limit k.owed := by
  unfold Coil.newLimit
  split_ifs <;> dsimp only <;> omega

/-- In ACTIVE a new limit lowers an owed count above it (R101). -/
theorem loadCoil_ranged (c fields) : (loadCoil c fields s).Ranged s := by
  unfold loadCoil
  extract_lets old
  split
  · trivial
  · next k read =>
    have limit := readCoilEntry_limit read
    obtain ⟨-, -, -, owed⟩ := readCoilEntry_runtime read
    split
    · next config =>
      exact storeCoil_ranged limit (fun floor => owed ▸ floor) fun active => by rw [config] at active; cases active
    · split_ifs with refused _ same
      · trivial
      · trivial
      · have loaded : old.loaded = true := by simpa using mt Or.inl refused
        refine owedChanged_ranged _ (storeCoil_ranged limit (fun floor => owed ▸ floor) fun _ top => ?_)
        exact owed ▸ same ▸ top loaded
      · refine owedChanged_ranged _ (storeCoil_ranged (k.newLimit_limit ▸ limit) (fun floor => ?_) fun _ _ => ?_)
        · rw [k.newLimit_owed, owed]
          exact le_min (by omega) floor
        · rw [k.newLimit_owed, k.newLimit_limit]
          exact min_le_left _ _

theorem loadLane_ranged (l fields) : (loadLane l fields s).Ranged s := by
  have k := RangesKept.refl s
  grind [loadLane, refused_ranged, accepted_ranged, State.modLane_ranged]

theorem loadShuttle_ranged (u fields) : (loadShuttle u fields s).Ranged s := by
  have k := RangesKept.refl s
  grind [loadShuttle, refused_ranged, accepted_ranged, State.modShuttle_ranged]

theorem loadTable_ranged (t : Table) (index fields) : (loadTable t index fields s).Ranged s := by
  cases t <;> grind [loadTable, refused_ranged, loadClassification_ranged, loadCondition_ranged, loadProbe_ranged,
    loadZone_ranged, loadDock_ranged, loadRoom_ranged, loadCoil_ranged, loadLane_ranged, loadProductClass_ranged,
    loadShuttle_ranged]

theorem loadDecision_ranged (table index fields) : (loadDecision table index fields s).Ranged s := by
  grind [loadDecision, refused_ranged, loadTable_ranged]

theorem clearShuttles_ranged {s₀ : State} (k : RangesKept s₀ s) : RangesKept s₀ (clearShuttles s) := by
  have unplaced : RangesKept s₀ (forEach (indices 4) unplaceDeck s) :=
    forEach_ranged (fun u _ h => unplaceDeck_ranged u h) k
  unfold clearShuttles
  extract_lets t
  exact unplaced.aside rfl rfl rfl rfl rfl

theorem Pallet.laneCleared_exposure (p : Pallet) : p.laneCleared.exposure = p.exposure := by
  unfold Pallet.laneCleared
  split <;> rfl

theorem Pallet.heldNow_exposure (p : Pallet) : p.heldNow.exposure = p.exposure := by
  unfold Pallet.heldNow
  split <;> rfl

theorem clearDecision_ranged (table) : (clearDecision table s).Ranged s := by
  have k := RangesKept.refl s
  have reset := resetIsSafe
  have probes : RangesKept s { s with probes := Vector.replicate 32 Probe.reset } :=
    ⟨fun _ i => by simp [State.probe, Probe.reset], fun h => ⟨h.zones, h.pallets⟩,
      fun h => ⟨h.limits, h.floor, h.top⟩⟩
  unfold clearDecision
  split
  case h_3 => exact dropUnboundReadings_ranged probes
  case h_4 => exact ⟨id, fun h => ⟨reset.accounts.zones, h.pallets⟩, fun h => ⟨h.limits, h.floor, h.top⟩⟩
  case h_6 =>
    refine ⟨id, fun h => ⟨h.zones, h.pallets⟩, fun _ => ⟨reset.owed.limits, reset.owed.floor, fun _ c => ?_⟩⟩
    simp [State.coil, Coil.reset]
  case h_7 => exact (mapPallets_ranged (fun p h => p.laneCleared_exposure ▸ h) k).aside rfl rfl rfl rfl rfl
  case h_9 => exact clearShuttles_ranged k
  case h_10 => exact ⟨id, fun h => ⟨h.zones, reset.accounts.pallets⟩, fun h => ⟨h.limits, h.floor, h.top⟩⟩
  case h_11 => trivial
  all_goals exact accepted_aside_ranged rfl rfl rfl rfl rfl

theorem palletRestart_ranged {s₀ : State} (k : RangesKept s₀ s) : RangesKept s₀ (palletRestart s) :=
  (mapPallets_ranged (fun p h => p.heldNow_exposure ▸ h) k).aside rfl rfl rfl rfl rfl

theorem mapProbes_ranged {s₀ : State} {f : Probe → Probe}
    (value : ∀ p, (f p).filtered = p.filtered ∨ (f p).filtered = 0)
    (k : RangesKept s₀ s) : RangesKept s₀ { s with probes := tmap f s.probes } := by
  refine k.trans ⟨fun inRange i => ?_, fun h => ⟨h.zones, h.pallets⟩, fun h => ⟨h.limits, h.floor, h.top⟩⟩
  rw [State.probe, tget_tmap]
  obtain same | zero := value (tget s.probes i)
  · exact same ▸ inRange i
  · omega

theorem mapZones_ranged {s₀ : State} {f : Zone → Zone}
    (account : ∀ n, (f n).exposure = n.exposure ∨ (f n).exposure = 0)
    (k : RangesKept s₀ s) : RangesKept s₀ { s with zones := tmap f s.zones } := by
  refine k.trans ⟨id, fun inRange => ⟨fun z => ?_, inRange.pallets⟩, fun h => ⟨h.limits, h.floor, h.top⟩⟩
  rw [State.zone, tget_tmap]
  obtain same | zero := account (tget s.zones z)
  · exact same ▸ inRange.zones z
  · omega

theorem Probe.fresh_filtered (timer : Bool) (p : Probe) :
    (p.fresh timer).filtered = p.filtered ∨ (p.fresh timer).filtered = 0 := by
  unfold Probe.fresh
  split
  · exact .inr rfl
  · exact .inl rfl

/-- ACTIVATE returns every loaded coil's owed count to 0 (R96). -/
theorem Coil.activated_range (k : Coil) :
    k.activated.limit = k.limit ∧ (-8 ≤ k.owed → -8 ≤ k.activated.owed)
      ∧ (k.activated.loaded = true → k.activated.owed = 0) := by
  unfold Coil.activated
  split
  · exact ⟨rfl, fun _ => show (-8 : Int) ≤ 0 by decide, fun _ => rfl⟩
  · next unloaded => exact ⟨rfl, id, fun loaded => absurd loaded unloaded⟩

theorem activated_ranged : RangesKept s (activated s) := by
  have probes := mapProbes_ranged (Probe.fresh_filtered true) (RangesKept.refl s)
  have zones := mapZones_ranged (f := Zone.activated) (fun _ => .inr rfl) (RangesKept.refl s)
  have held := palletRestart_ranged (RangesKept.refl s)
  have coil (c : CoilIx) : (activated s).coil c = (s.coil c).activated := tget_tmap ..
  refine ⟨fun h => probes.filtered h, fun h => ⟨(zones.accounts h).zones, (held.accounts h).pallets⟩,
    fun h => ⟨fun c => ?_, fun c => ?_, fun _ c => ?_⟩⟩
  all_goals
    rw [coil]
    obtain ⟨limit, floor, zero⟩ := (s.coil c).activated_range
  · exact limit ▸ h.limits c
  · exact floor (h.floor c)
  · intro loaded
    rw [zero loaded, limit]
    exact (h.limits c).1.trans' (by decide)

theorem activateDecision_ranged : (activateDecision s).Ranged s := by
  unfold activateDecision
  split
  · trivial
  · exact activated_ranged

/-- DEACTIVATE stops timers only, and leaves ACTIVE. -/
theorem deactivated_ranged : RangesKept s (deactivated s) where
  filtered inRange i := by simpa [deactivated, State.probe, Probe.stopped] using inRange i
  accounts inRange :=
    ⟨fun z => by simpa [deactivated, State.zone, Zone.stopped] using inRange.zones z, inRange.pallets⟩
  owed h :=
    ⟨fun c => by simpa [deactivated, State.coil, Coil.stopped] using h.limits c,
      fun c => by simpa [deactivated, State.coil, Coil.stopped] using h.floor c, fun active => nomatch active⟩

theorem deactivateDecision_ranged : (deactivateDecision s).Ranged s := by
  unfold deactivateDecision
  split
  · trivial
  · exact deactivated_ranged

theorem noticesRestart_ranged {s₀ : State} (k : RangesKept s₀ s) : RangesKept s₀ (noticesRestart s) := by
  have emptied (gone) : RangesKept s₀ { s with notices := [], lost := gone } := k.aside rfl rfl rfl rfl rfl
  exact raiseNotice_ranged _ _ _ (emptied _)

theorem coilRestart_ranged {s₀ : State} (c) (k : RangesKept s₀ s) : RangesKept s₀ (coilRestart c s) := by
  unfold coilRestart
  dsimp only
  split
  · refine State.modCoil_ranged rfl rfl rfl rfl ?_
    split
    · exact originateCoil_ranged _ _ k
    · exact k
  · exact k

theorem schedulerRestart_ranged {s₀ : State} (q) (k : RangesKept s₀ s) : RangesKept s₀ (schedulerRestart q s) :=
  forEach_ranged (fun z _ h => raiseZoneOwed_ranged 1 z h) (forEach_ranged (fun c _ h => coilRestart_ranged c h) k)

theorem Zone.restarted_exposure (n : Zone) : n.restarted.exposure = n.exposure := by
  unfold Zone.restarted
  split <;> rfl

theorem temperatureRestart_ranged {s₀ : State} (k : RangesKept s₀ s) : RangesKept s₀ (temperatureRestart s) :=
  mapZones_ranged (fun n => .inl n.restarted_exposure) (mapProbes_ranged (Probe.fresh_filtered _) k)

theorem restarted_ranged {s₀ : State} (k : RangesKept s₀ s) : RangesKept s₀ (restarted s) := by
  have ports : RangesKept s₀ (portsRestart s) := k.aside rfl rfl rfl rfl rfl
  have told : RangesKept s₀ (classifierRestart (noticesRestart (portsRestart s))) :=
    (noticesRestart_ranged ports).aside rfl rfl rfl rfl rfl
  have units :
      RangesKept s₀ (portalRestart (temperatureRestart (classifierRestart (noticesRestart (portsRestart s))))) :=
    (temperatureRestart_ranged told).aside rfl rfl rfl rfl rfl
  exact (palletRestart_ranged (schedulerRestart_ranged (quietZones s) units)).aside rfl rfl rfl rfl rfl

theorem moveOrderDecision_ranged (reqTag source dest pallet repeats priority) :
    (moveOrderDecision reqTag source dest pallet repeats priority s).Ranged s := by
  have joined (l : List Move) (m : MoveId) : RangesKept s { s with moves := l, lastMove := m } :=
    (RangesKept.refl s).aside rfl rfl rfl rfl rfl
  unfold moveOrderDecision
  split
  · split
    · trivial
    · split
      · trivial
      · extract_lets a
        split
        · trivial
        · exact accepted_ranged (settleRail_ranged _ (joined _ _))
  · trivial

theorem cancelDecision_ranged (move) : (cancelDecision move s).Ranged s := by
  have k := RangesKept.refl s
  grind [cancelDecision, refused_ranged, accepted_ranged, cancelMove_ranged]

theorem homeDecision_ranged (shuttle) : (homeDecision shuttle s).Ranged s := by
  have k := RangesKept.refl s
  grind [homeDecision, refused_ranged, accepted_ranged, startHoming_ranged]

theorem clearKnown_ranged (u state position deck lane) : (clearKnown u state position deck lane s).Ranged s := by
  have k := RangesKept.refl s
  unfold clearKnown
  extract_lets v
  split_ifs
  · trivial
  · trivial
  · cases lane <;> grind [refused_ranged, accepted_ranged, clearShuttle_ranged]

theorem clearShuttleDecision_ranged (shuttle state position deck present lane) :
    (clearShuttleDecision shuttle state position deck present lane s).Ranged s := by
  grind [clearShuttleDecision, refused_ranged, clearKnown_ranged]

theorem defrostCoil_ranged (index) : (defrostCoil index s).Ranged s := by
  have k := RangesKept.refl s
  grind [defrostCoil, refused_ranged, accepted_ranged, selectZone_ranged, State.modCoil_ranged]

theorem defrostZone_ranged (index) : (defrostZone index s).Ranged s := by
  have marked (l : List CoilIx) :
      RangesKept s (forEach l (fun c t => t.modCoil c fun k => { k with pullIn := true }) s) :=
    forEach_ranged (fun c _ h => State.modCoil_ranged rfl rfl rfl rfl h) (RangesKept.refl s)
  grind [defrostZone, refused_ranged, accepted_ranged, selectZone_ranged]

theorem defrostDecision_ranged (kind index) : (defrostDecision kind index s).Ranged s := by
  grind [defrostDecision, refused_ranged, defrostCoil_ranged, defrostZone_ranged]

theorem setCoilMask_ranged {s₀ : State} (a b) (k : RangesKept s₀ s) : RangesKept s₀ (setCoilMask a b s) :=
  forEach_ranged (fun z _ h => selectZone_ranged z h)
    (forEach_ranged (fun _ _ h => State.modCoil_ranged rfl rfl rfl rfl h) k)

theorem quietEnterDecision_ranged (zone) : (quietEnterDecision zone s).Ranged s := by
  have k := RangesKept.refl s
  grind [quietEnterDecision, refused_ranged, accepted_ranged, withdrawCommands_ranged, State.modZone_ranged]

theorem quietExitDecision_ranged (zone) : (quietExitDecision zone s).Ranged s := by
  have k := RangesKept.refl s
  grind [quietExitDecision, refused_ranged, accepted_ranged, raiseZoneOwed_ranged, State.modZone_ranged]

theorem ackZone_ranged (index) : (ackZone index s).Ranged s := by
  have k := RangesKept.refl s
  grind [ackZone, refused_ranged, accepted_ranged, State.modZone_ranged]

theorem ackPortal_ranged (index) : (ackPortal index s).Ranged s := by
  have k := RangesKept.refl s
  grind [ackPortal, refused_ranged, accepted_ranged, State.modDock_ranged, State.modRoom_ranged]

theorem ackDecision_ranged (objType key) : (ackDecision objType key s).Ranged s := by
  grind [ackDecision, refused_ranged, ackZone_ranged, ackPortal_ranged]

theorem placeDecision_ranged (pallet lane) : (placeDecision pallet lane s).Ranged s := by
  have k := RangesKept.refl s
  grind [placeDecision, refused_ranged, accepted_ranged, appendToLane_ranged]

theorem removeDecision_ranged (pallet) : (removeDecision pallet s).Ranged s := by
  have k := RangesKept.refl s
  grind [removeDecision, refused_ranged, accepted_ranged, removePallet_ranged]

theorem releaseDecision_ranged (pallet) : (releaseDecision pallet s).Ranged s := by
  have k := RangesKept.refl s
  grind [releaseDecision, refused_ranged, accepted_ranged, State.modPallet_ranged]

theorem readReply_ranged (content part) : (readReply content part s).Ranged s := by
  have k := RangesKept.refl s
  grind [readReply, refused_ranged, accepted_ranged]

theorem readEntryDecision_ranged (table index part) : (readEntryDecision table index part s).Ranged s := by
  grind [readEntryDecision, refused_ranged, readReply_ranged]

theorem readObjectDecision_ranged (objType key part) : (readObjectDecision objType key part s).Ranged s := by
  grind [readObjectDecision, refused_ranged, readReply_ranged]

theorem readCountersDecision_ranged (clear) : (readCountersDecision clear s).Ranged s := by
  unfold readCountersDecision
  extract_lets fields
  split
  · trivial
  · exact .refl s
  · exact accepted_aside_ranged rfl rfl rfl rfl rfl

end

/-! ## Every command -/

section
variable {s t : State}

theorem decideRequest_ranged (q form a m) {own : State → Decision} (h : (own s).Ranged s) :
    (decideRequest q form a m own s).Ranged s := by
  grind [decideRequest, refused_ranged]

theorem joinReply_ranged {s₀ : State} (f) (k : RangesKept s₀ s) : RangesKept s₀ (joinReply f s) :=
  k.ports (joinReply_units f s)

theorem takeRequest_ranged (q form a m) {own : State → Decision} (h : (own s).Ranged s) :
    RangesKept s (takeRequest q form a m own s) := by
  have decided := decideRequest_ranged q form a m h
  unfold takeRequest
  split
  · exact countEvent_ranged _ _ (.refl s)
  · cases hd : decideRequest q form a m own s with
    | refused r => exact joinReply_ranged _ (.refl s)
    | invalid table index => exact joinReply_ranged _ (.refl s)
    | accepted fields t =>
      rw [hd] at decided
      exact joinReply_ranged _ decided

theorem Request.take_ranged (q : Sender) (r : Request) : RangesKept s (r.take q s) := by
  have k := RangesKept.refl s
  cases r with
  | loadEntry => exact takeRequest_ranged _ _ _ _ (loadDecision_ranged _ _ _)
  | readEntry => exact takeRequest_ranged _ _ _ _ (readEntryDecision_ranged _ _ _)
  | clearTable => exact takeRequest_ranged _ _ _ _ (clearDecision_ranged _)
  | readObject => exact takeRequest_ranged _ _ _ _ (readObjectDecision_ranged _ _ _)
  | readCounters => exact takeRequest_ranged _ _ _ _ (readCountersDecision_ranged _)
  | activate => exact takeRequest_ranged _ _ _ _ activateDecision_ranged
  | deactivate => exact takeRequest_ranged _ _ _ _ deactivateDecision_ranged
  | restart => exact takeRequest_ranged _ _ _ _ (accepted_ranged (restarted_ranged k))
  | setTime => exact takeRequest_ranged _ _ _ _ (accepted_aside_ranged rfl rfl rfl rfl rfl)
  | moveOrder => exact takeRequest_ranged _ _ _ _ (moveOrderDecision_ranged _ _ _ _ _ _)
  | cancelMove => exact takeRequest_ranged _ _ _ _ (cancelDecision_ranged _)
  | homeShuttle => exact takeRequest_ranged _ _ _ _ (homeDecision_ranged _)
  | clearShuttle => exact takeRequest_ranged _ _ _ _ (clearShuttleDecision_ranged _ _ _ _ _ _)
  | defrostNow => exact takeRequest_ranged _ _ _ _ (defrostDecision_ranged _ _)
  | setCoilMask => exact takeRequest_ranged _ _ _ _ (accepted_ranged (setCoilMask_ranged _ _ k))
  | quietEnter => exact takeRequest_ranged _ _ _ _ (quietEnterDecision_ranged _)
  | quietExit => exact takeRequest_ranged _ _ _ _ (quietExitDecision_ranged _)
  | ackAlarm => exact takeRequest_ranged _ _ _ _ (ackDecision_ranged _ _)
  | palletPlace => exact takeRequest_ranged _ _ _ _ (placeDecision_ranged _ _)
  | palletRemove => exact takeRequest_ranged _ _ _ _ (removeDecision_ranged _)
  | releaseQuarantine => exact takeRequest_ranged _ _ _ _ (releaseDecision_ranged _)

theorem manage_ranged (f : Frame) : RangesKept s (manage f s) := by
  unfold manage
  extract_lets q
  split
  · exact Request.take_ranged q _
  · exact takeRequest_ranged _ _ _ _ trivial

theorem routeFrame_ranged (p f) : RangesKept s (routeFrame p f s) := by
  have k := RangesKept.refl s
  unfold routeFrame
  cases p <;> grind [classifyUp_ranged, classifyDown_ranged, countEvent_ranged, manage_ranged]

theorem acceptFrame_ranged (p f) : RangesKept s (acceptFrame p f s) := by
  have k := RangesKept.refl s
  grind [acceptFrame, countEvent_ranged, routeFrame_ranged]

theorem completeFrame_ranged (p bytes damaged) : RangesKept s (completeFrame p bytes damaged s) := by
  have k := RangesKept.refl s
  grind [completeFrame, countEvent_ranged, acceptFrame_ranged]

theorem arriveFrame_ranged (p f) : RangesKept s (arriveFrame p f s) := by
  have k := RangesKept.refl s
  grind [arriveFrame, countEvent_ranged, acceptFrame_ranged]

theorem exposureDue_ranged : RangesKept s (exposureDue s) :=
  whenDue_ranged _ (exposureExpiry_ranged (RangesKept.refl s)) (RangesKept.refl s)

theorem timeBaseTick_ranged : RangesKept s (if s.mode = .active then ticked (exposureDue s) else s) := by
  split
  · exact ticked_ranged exposureDue_ranged
  · exact RangesKept.refl s

theorem waitingClaimGrant_ranged (r) : RangesKept s (if (s.room r).mayGrantWaiting then grantWaiting r s else s) := by
  split
  · exact grantWaiting_ranged r (.refl s)
  · exact .refl s

/-- Every command keeps the three rules. -/
theorem exec_ranged (i : Instr) (h : exec i s = .next t) : RangesKept s t := by
  have k := RangesKept.refl s
  cases i with
  | powerOn strap => cases h; exact powerOn_ranged strap k
  | frameCompletion p bytes damaged =>
    cases h
    split
    · exact completeFrame_ranged p bytes damaged
    · exact k
  | sample => cases h; exact arriveFrame_ranged _ _
  | doorReport => cases h; exact arriveFrame_ranged _ _
  | pressure => cases h; exact arriveFrame_ranged _ _
  | tagRead => cases h; exact arriveFrame_ranged _ _
  | shuttleReport => cases h; exact arriveFrame_ranged _ _
  | coilReport => cases h; exact arriveFrame_ranged _ _
  | actCommand => cases h; exact arriveFrame_ranged _ _
  | loadEntry q a b c => cases h; exact Request.take_ranged q (.loadEntry a b c)
  | readEntry q a b c => cases h; exact Request.take_ranged q (.readEntry a b c)
  | clearTable q a => cases h; exact Request.take_ranged q (.clearTable a)
  | readObject q a b c => cases h; exact Request.take_ranged q (.readObject a b c)
  | readCounters q a => cases h; exact Request.take_ranged q (.readCounters a)
  | activate q => cases h; exact Request.take_ranged q .activate
  | deactivate q => cases h; exact Request.take_ranged q .deactivate
  | restart q => cases h; exact Request.take_ranged q .restart
  | setTime q a => cases h; exact Request.take_ranged q (.setTime a)
  | moveOrder q a b c d e g => cases h; exact Request.take_ranged q (.moveOrder a b c d e g)
  | cancelMove q a => cases h; exact Request.take_ranged q (.cancelMove a)
  | homeShuttle q a => cases h; exact Request.take_ranged q (.homeShuttle a)
  | clearShuttle q a b c d e g => cases h; exact Request.take_ranged q (.clearShuttle a b c d e g)
  | defrostNow q a b => cases h; exact Request.take_ranged q (.defrostNow a b)
  | setCoilMask q a b => cases h; exact Request.take_ranged q (.setCoilMask a b)
  | quietEnter q a => cases h; exact Request.take_ranged q (.quietEnter a)
  | quietExit q a => cases h; exact Request.take_ranged q (.quietExit a)
  | ackAlarm q a b => cases h; exact Request.take_ranged q (.ackAlarm a b)
  | palletPlace q a b => cases h; exact Request.take_ranged q (.palletPlace a b)
  | palletRemove q a => cases h; exact Request.take_ranged q (.palletRemove a)
  | releaseQuarantine q a => cases h; exact Request.take_ranged q (.releaseQuarantine a)
  | endOfTransmission p => cases h; exact endTransmission_ranged p k
  | timeBaseTick => cases h; exact timeBaseTick_ranged
  | exposureIntervalExpiry => cases h; exact exposureDue_ranged
  | stalenessTimerExpiry p => cases h; exact whenDue_ranged _ (expireStaleness_ranged p k) k
  | allowanceTimerExpiry z => cases h; exact whenDue_ranged _ (expireAllowance_ranged z k) k
  | sealTimerExpiry p => cases h; exact whenDue_ranged _ (expireSeal_ranged p k) k
  | doorTimerExpiry r => cases h; exact whenDue_ranged _ (expireDoor_ranged r k) k
  | holdOpenTimerExpiry r => cases h; exact whenDue_ranged _ (expireHoldOpen_ranged r k) k
  | intervalTimerExpiry c => cases h; exact whenDue_ranged _ (expireInterval_ranged c k) k
  | spacingTimerExpiry c => cases h; exact whenDue_ranged _ (expireSpacing_ranged c k) k
  | phaseTimerExpiry c => cases h; exact whenDue_ranged _ (expirePhase_ranged c k) k
  | followTimerExpiry c => cases h; exact whenDue_ranged _ (expireFollow_ranged c k) k
  | reportTimerExpiry c => cases h; exact whenDue_ranged _ (expireReport_ranged c k) k
  | stepTimerExpiry u => cases h; exact whenDue_ranged _ (expireStep_ranged u k) k
  | parkTimerExpiry u => cases h; exact whenDue_ranged _ (expirePark_ranged u k) k
  | holdGrant r => cases h; exact examineRoom_ranged r k
  | waitingClaimGrant r => cases h; exact waitingClaimGrant_ranged r
  | armedTravelStart u => cases h; exact testArmed_ranged u k
  | homingOrderSent u => cases h; exact testHoming_ranged u k
  | pickUpDecision u => cases h; exact settleAfter_ranged u s (beginQueued_ranged u k)
  | assignment u => cases h; exact settleRail_ranged u k
  | stepRetry u => cases h; exact settleAfter_ranged u s (retryStep_ranged u k)
  | lineIdle p => cases h; exact by cases p <;> exact k.aside rfl rfl rfl rfl rfl

/-- So does every step. -/
theorem step_ranged (h : step s = .next t) : RangesKept s t := by
  unfold step at h
  split at h
  · cases h
    exact .refl s
  · next c rest _ =>
    have taken : RangesKept s { s with pending := rest } := (RangesKept.refl s).aside rfl rfl rfl rfl rfl
    exact taken.trans (exec_ranged c h)

end

/-- Settles O16: every command keeps the three rules, and a step is one command. -/
theorem valuesStayInRange : Obligations.ValuesStayInRange :=
  ⟨fun _ _ filtered h => (step_ranged h).filtered filtered, fun _ _ accounts h => (step_ranged h).accounts accounts,
    fun _ _ owed h => (step_ranged h).owed owed⟩

end Sys2Proof.Machine
end

section
/-! SUPPORT. The exposure interval (R62 to R70): the expiry seen from one zone and from one pallet. The other zones and
the other pallets act before and after it and leave it alone, so what it shows at the end is its own step, with the
statements O48 and O49. -/

namespace Sys2Proof.Machine

/-! ## One element among many -/

/-- Acting on each element, seen from one of them: the others act before it and after it. -/
theorem forEach_around {α : Type} {R : State → State → Prop} (refl : ∀ s, R s s)
    (trans : ∀ {a b c}, R a b → R b c → R a c) {l : List α} {f : α → State → State} {a : α} (mem : a ∈ l)
    (nodup : l.Nodup) (others : ∀ b, b ≠ a → ∀ s, R s (f b s)) (s : State) :
    ∃ u, R s u ∧ R (f a u) (forEach l f s) := by
  obtain ⟨before, after, rfl⟩ := List.append_of_mem mem
  obtain ⟨-, nodupAfter, apart⟩ := List.nodup_append.mp nodup
  have absent := (List.nodup_cons.mp nodupAfter).1
  refine ⟨forEach before f s, forEach_rel R refl trans _ f (fun b h => others b (apart b h a (by simp))) s, ?_⟩
  rw [forEach_append, forEach_cons]
  exact forEach_rel R refl trans _ f (fun b h => others b fun same => absent (same ▸ h)) _

/-! ## Notices of one object -/

/-- The alarm and quarantine notices of one object. -/
def AccountOf (o : NoticeObj) (k : NoticeKind × NoticeObj) : Prop := OfAccounts k ∧ k.2 = o

/-- A raised notice stands at the end when nothing was lost and nothing of its key was raised after it (R162). -/
theorem raiseNotice_lasting {k : NoticeKind} {o : NoticeObj} {v : Quad} {s t : State} (busy : s.trunkTx ≠ none)
    (quiet : NoticesQuiet (· = (k, o)) (raiseNotice k o v s) t) (kept : t.lost = false) :
    ({ kind := k, obj := o, value := v, time := s.count, severity := k.severity v } : Notice) ∈ t.notices := by
  have raising := raiseNotice_quiet (W := fun _ => False) k o v id s busy
  have kick {u : State} (tx : u.trunkTx = s.trunkTx) : kickTrunk u = u := kickTrunk_of_busy (tx ▸ busy)
  obtain ⟨-, lost, same⟩ := quiet (raising.tx ▸ busy)
  refine (same kept _ rfl).mpr ?_
  have unlost : (raiseNotice k o v s).lost = false :=
    Bool.eq_false_iff.mpr fun gone => Bool.false_ne_true (kept.symm.trans (lost gone))
  generalize new : ({ kind := k, obj := o, value := v, time := s.count, severity := k.severity v } : Notice) = n
  rw [raiseNotice, new] at unlost ⊢
  by_cases pending : s.notices.any (fun m => m.sameKey n) = true
  · obtain ⟨m, mem, key⟩ := List.any_eq_true.mp pending
    rw [offerNotice_of_pending pending]
    exact List.mem_map.mpr ⟨m, mem, if_pos key⟩
  · by_cases room : s.notices.length < Config.noticeDepth
    · rw [offerNotice_of_room pending room, kick (by rfl)]
      exact List.mem_append_right _ List.mem_cons_self
    · obtain ⟨gives, keeps⟩ := offerNotice_of_full pending room
      cases displaced : displaced? n.severity s.notices with
      | some q =>
        rw [gives q displaced, kick (by rfl)]
        exact List.mem_append_right _ List.mem_cons_self
      | none =>
        rw [keeps displaced] at unlost
        exact absurd unlost (by simp)

/-! ## The stock (R69) -/

/-- What the zones' exposure steps leave of the stock, and of what it is charged by. -/
structure StockStands (s t : State) : Prop where
  count : t.count = s.count
  docks : t.docks = s.docks
  classes : t.classes = s.classes
  lanes : t.lanes = s.lanes
  pallets : t.pallets = s.pallets
  departed : t.departed = s.departed
  moves : t.moves = s.moves
  shuttles : ∀ u, SameShuttle (s.shuttle u) (t.shuttle u)
  zones : ∀ z, (t.zone z).value = (s.zone z).value ∧ (t.zone z).status = (s.zone z).status

section
variable {s t u : State}

theorem StockStands.refl (s : State) : StockStands s s :=
  ⟨rfl, rfl, rfl, rfl, rfl, rfl, rfl, fun _ => rfl, fun _ => ⟨rfl, rfl⟩⟩

theorem StockStands.trans (h : StockStands s t) (k : StockStands t u) : StockStands s u where
  count := k.count.trans h.count
  docks := k.docks.trans h.docks
  classes := k.classes.trans h.classes
  lanes := k.lanes.trans h.lanes
  pallets := k.pallets.trans h.pallets
  departed := k.departed.trans h.departed
  moves := k.moves.trans h.moves
  shuttles v := (h.shuttles v).trans (k.shuttles v)
  zones z := ⟨(k.zones z).1.trans (h.zones z).1, (k.zones z).2.trans (h.zones z).2⟩

theorem Ripple.stock (h : Ripple s t) : StockStands s t where
  count := h.count
  docks := h.docks
  classes := h.classes
  lanes := h.lanes
  pallets := h.pallets
  departed := h.departed
  moves := h.moves
  shuttles := h.shuttles
  zones z := by rw [h.zones z]; exact ⟨rfl, rfl⟩

theorem SameUnits.stock (h : SameUnits s t) : StockStands s t where
  count := h.count
  docks := h.docks
  classes := h.classes
  lanes := h.lanes
  pallets := h.pallets
  departed := h.departed
  moves := h.moves
  shuttles v := by simp only [State.shuttle, h.shuttles]; rfl
  zones z := by simp [State.zone, h.zones]

theorem modZone_stock {z : ZoneIx} {f : Zone → Zone} (value : (f (s.zone z)).value = (s.zone z).value)
    (status : (f (s.zone z)).status = (s.zone z).status) : StockStands s (s.modZone z f) :=
  { StockStands.refl s with
    zones := fun y => by
      rw [State.zone_modZone]
      split
      · next same => exact same ▸ ⟨value, status⟩
      · exact ⟨rfl, rfl⟩ }

theorem StockStands.palletZone (h : StockStands s t) (p : Pallet) : palletZone t p = palletZone s p := by
  unfold Machine.palletZone
  cases p.location with
  | lane l => simp only [State.lane, h.lanes]
  | deck v =>
    dsimp only
    rw [h.shuttles v]
    rfl
  | unplaced => rfl
  | none => rfl

theorem StockStands.accruePallet (h : StockStands s t) : accruePallet t = accruePallet s := by
  funext p
  unfold Machine.accruePallet
  dsimp only
  rw [h.palletZone, (h.zones _).1, (h.zones _).2, State.cls, State.cls, h.classes]

end

/-! ## The step of one zone (R62 to R68) -/

/-- A zone's record after the exposure step and the alarm step (R64, R65). -/
def Zone.charged (n : Zone) : Zone := { n with exposure := exposureStep n }

def Zone.alarmed (n : Zone) : Zone := { n.charged with alarmState := (alarmStep n.charged).1 }

/-- The notice of an alarm step, if it has one (R65). -/
def tellAlarm (z : ZoneIx) (n : Zone) (s : State) : State :=
  match (alarmStep n.charged).2 with
  | some k => raiseNotice k (.zone z) (noticeInt n.value) s
  | none => s

theorem State.modZone_modZone (s : State) (z : ZoneIx) (f g : Zone → Zone) :
    (s.modZone z f).modZone z g = s.modZone z fun n => g (f n) := by
  simp only [State.modZone, tmod, tget_tset_self, tset_tset]

section
variable {z : ZoneIx} {s : State}

theorem tellAlarm_units (n : Zone) : SameUnits s (tellAlarm z n s) := by
  unfold tellAlarm
  split
  · exact (raiseNotice_portStep ..).units
  · exact .refl s

theorem zoneExpiry_of_inUse (inUse : (s.zone z).inUse = true) :
    zoneExpiry z s = frostStep z (tellAlarm z (s.zone z) (s.modZone z Zone.alarmed)) := by
  have twice : (s.modZone z Zone.charged).modZone z
      (fun n => { n with alarmState := (alarmStep (s.zone z).charged).1 }) = s.modZone z Zone.alarmed :=
    s.modZone_modZone z Zone.charged _
  have charged : (s.modZone z Zone.charged).zone z = (s.zone z).charged := s.zone_modZone_self z _
  show (if (s.zone z).inUse then frostStep z (zoneAlarmStep z (s.modZone z Zone.charged)) else s) = _
  rw [if_pos inUse, zoneAlarmStep, charged]
  dsimp only
  rw [twice]
  rfl

theorem zoneExpiry_of_unused (unused : (s.zone z).inUse = false) : zoneExpiry z s = s :=
  if_neg (Bool.eq_false_iff.mp unused)

theorem frostStep_run (z : ZoneIx) (s : State) : ZoneRun z s (frostStep z s) := by
  unfold frostStep
  dsimp only
  split
  · exact .refl z s
  · split
    · exact raiseZoneOwed_run _ (.modZone _ (.refl z s))
    · exact .modZone _ (.refl z s)

theorem frostStep_stock (z : ZoneIx) (s : State) : StockStands s (frostStep z s) := by
  unfold frostStep
  dsimp only
  split
  · exact .refl s
  · split
    · exact (modZone_stock (by rfl) (by rfl)).trans (raiseZoneOwed_ripple ..).stock
    · exact modZone_stock (by rfl) (by rfl)

/-- The frost step moves a zone's frost load, and what a ripple moves. -/
theorem frostStep_zone (z : ZoneIx) (s : State) :
    ((frostStep z s).zone z).exposure = (s.zone z).exposure
      ∧ ((frostStep z s).zone z).alarmState = (s.zone z).alarmState := by
  unfold frostStep
  dsimp only
  split
  · exact ⟨rfl, rfl⟩
  · split
    · rw [(raiseZoneOwed_ripple ..).zones z]
      simp
    · simp

theorem zoneExpiry_stock (z : ZoneIx) (s : State) : StockStands s (zoneExpiry z s) := by
  by_cases inUse : (s.zone z).inUse = true
  · rw [zoneExpiry_of_inUse inUse]
    exact ((modZone_stock (by rfl) (by rfl)).trans (tellAlarm_units _).stock).trans (frostStep_stock ..)
  · rw [zoneExpiry_of_unused (Bool.eq_false_iff.mpr inUse)]
    exact .refl s

/-- A zone raises no alarm notice of another object, and of its own the one its alarm step calls for. -/
theorem tellAlarm_quiet {W : NoticeKind × NoticeObj → Prop} {n : Zone}
    (other : ∀ k, (alarmStep n.charged).2 = some k → ¬W (k, .zone z)) : NoticesQuiet W s (tellAlarm z n s) := by
  unfold tellAlarm
  split
  · next k told => exact raiseNotice_quiet _ _ _ (other k told) s
  · exact .refl s

theorem zoneExpiry_quiet {W : NoticeKind × NoticeObj → Prop} (accounts : ∀ k, W k → OfAccounts k)
    (other : (s.zone z).inUse = true → ∀ k, (alarmStep (s.zone z).charged).2 = some k → ¬W (k, .zone z)) :
    NoticesQuiet W s (zoneExpiry z s) := by
  by_cases inUse : (s.zone z).inUse = true
  · rw [zoneExpiry_of_inUse inUse]
    have alarmed : NoticesQuiet W s (s.modZone z Zone.alarmed) := .of_same rfl rfl rfl
    exact (alarmed.trans (tellAlarm_quiet (other inUse))).trans ((frostStep_run ..).notices.mono accounts)
  · rw [zoneExpiry_of_unused (Bool.eq_false_iff.mpr inUse)]
    exact .refl s

end

/-! ## The other zones -/

/-- What the exposure steps of other zones leave of a zone: its record, its room and its coils, and its notices. -/
structure Elsewhere (z : ZoneIx) (s t : State) : Prop where
  zone : t.zone z = s.zone z
  room : ∀ r, roomZone r = z → t.room r = s.room r
  coilZone : ∀ c, (t.coil c).zone = (s.coil c).zone
  coil : ∀ c, (s.coil c).zone = z → t.coil c = s.coil c
  notices : NoticesQuiet (AccountOf (.zone z)) s t

section
variable {z : ZoneIx} {s t u : State}

theorem Elsewhere.refl (z : ZoneIx) (s : State) : Elsewhere z s s :=
  ⟨rfl, fun _ _ => rfl, fun _ => rfl, fun _ _ => rfl, .refl s⟩

theorem Elsewhere.trans (h : Elsewhere z s t) (k : Elsewhere z t u) : Elsewhere z s u where
  zone := k.zone.trans h.zone
  room r here := (k.room r here).trans (h.room r here)
  coilZone c := (k.coilZone c).trans (h.coilZone c)
  coil c here := (k.coil c (h.coilZone c ▸ here)).trans (h.coil c here)
  notices := h.notices.trans k.notices

/-- A step that leaves the zones, the rooms and the coils alone. -/
theorem Elsewhere.of_same (zones : t.zones = s.zones) (rooms : t.rooms = s.rooms) (coils : t.coils = s.coils)
    (notices : NoticesQuiet (AccountOf (.zone z)) s t) : Elsewhere z s t where
  zone := by rw [State.zone, zones]; rfl
  room r _ := by rw [State.room, rooms]; rfl
  coilZone c := by rw [State.coil, coils]; rfl
  coil c _ := by rw [State.coil, coils]; rfl
  notices := notices

theorem ZoneRun.elsewhere {y : ZoneIx} (ne : y ≠ z) (h : ZoneRun y s t) : Elsewhere z s t where
  zone := h.otherZones z ne.symm
  room r here := h.otherRooms r (here ▸ ne.symm)
  coilZone c := (h.coils c).zone
  coil c here := h.otherCoils c (here ▸ ne.symm)
  notices := h.notices.mono fun _ watched => watched.1

theorem zoneExpiry_elsewhere {y : ZoneIx} (ne : y ≠ z) (s : State) : Elsewhere z s (zoneExpiry y s) := by
  by_cases inUse : (s.zone y).inUse = true
  · rw [zoneExpiry_of_inUse inUse]
    have alarmed : Elsewhere z s (s.modZone y Zone.alarmed) := ZoneRun.elsewhere ne (.modZone _ (.refl y s))
    have units := tellAlarm_units (z := y) (s := s.modZone y Zone.alarmed) (s.zone y)
    refine (alarmed.trans (.of_same units.zones units.rooms units.coils (tellAlarm_quiet ?_))).trans
      ((frostStep_run ..).elsewhere ne)
    rintro k - ⟨-, same⟩
    exact ne (NoticeObj.zone.inj same)
  · rw [zoneExpiry_of_unused (Bool.eq_false_iff.mpr inUse)]
    exact .refl z s

end

/-! ## The pallets (R69, R70) -/

/-- A pallet's record after the quarantine test (R70). -/
def Pallet.tested (s : State) (p : Pallet) : Pallet := { p with quarantine := p.quarantine || overBudget s p }

/-- What the quarantine tests of other records leave of a pallet. -/
structure PalletAside (i : PalletIx) (s t : State) : Prop where
  pallet : t.pallet i = s.pallet i
  count : t.count = s.count
  classes : t.classes = s.classes
  notices : NoticesQuiet (AccountOf (.pallet i)) s t

section
variable {i : PalletIx} {s t u : State}

theorem PalletAside.refl (i : PalletIx) (s : State) : PalletAside i s s := ⟨rfl, rfl, rfl, .refl s⟩

theorem PalletAside.trans (h : PalletAside i s t) (k : PalletAside i t u) : PalletAside i s u :=
  ⟨k.pallet.trans h.pallet, k.count.trans h.count, k.classes.trans h.classes, h.notices.trans k.notices⟩

theorem quarantineStep_of_none (free : s.pallet i = none) : quarantineStep i s = s := by
  rw [quarantineStep, free]

theorem quarantineStep_of_within {p : Pallet} (at_ : s.pallet i = some p) (within : overBudget s p = false) :
    quarantineStep i s = s := by
  rw [quarantineStep, at_]
  exact if_neg (Bool.eq_false_iff.mp within)

theorem quarantineStep_of_over {p : Pallet} (at_ : s.pallet i = some p) (broken : overBudget s p = true) :
    quarantineStep i s
      = raiseNotice .palletQuarantine (.pallet i) p.id (s.modPallet i fun q => { q with quarantine := true }) := by
  rw [quarantineStep, at_]
  exact if_pos broken

/-- The quarantine test leaves everything but its own record and the notices. -/
theorem quarantineStep_eq (i : PalletIx) (s : State) :
    SameUnits { s with pallets := (quarantineStep i s).pallets } (quarantineStep i s)
      ∧ ∀ j, (quarantineStep i s).pallet j = if i = j then (s.pallet i).map (Pallet.tested s) else s.pallet j := by
  cases at_ : s.pallet i with
  | none =>
    rw [quarantineStep_of_none at_]
    refine ⟨.refl s, fun j => ?_⟩
    split
    · next same => exact same ▸ at_
    · rfl
  | some p =>
    cases broken : overBudget s p with
    | false =>
      rw [quarantineStep_of_within at_ broken]
      refine ⟨.refl s, fun j => ?_⟩
      split
      · next same => simp [← same, at_, Pallet.tested, broken]
      · rfl
    | true =>
      rw [quarantineStep_of_over at_ broken]
      have units := (raiseNotice_portStep .palletQuarantine (.pallet i) p.id
        (s.modPallet i fun q => { q with quarantine := true })).units
      refine ⟨?_, fun j => ?_⟩
      · rw [units.pallets]
        exact units
      · rw [State.pallet, units.pallets, ← State.pallet, State.pallet_modPallet, at_]
        split
        · simp [Pallet.tested, broken]
        · rfl

theorem quarantineStep_quiet {W : NoticeKind × NoticeObj → Prop}
    (other : ∀ p, s.pallet i = some p → overBudget s p = true → ¬W (.palletQuarantine, .pallet i)) :
    NoticesQuiet W s (quarantineStep i s) := by
  cases at_ : s.pallet i with
  | none => rw [quarantineStep_of_none at_]; exact .refl s
  | some p =>
    cases broken : overBudget s p with
    | false => rw [quarantineStep_of_within at_ broken]; exact .refl s
    | true =>
      rw [quarantineStep_of_over at_ broken]
      have set : NoticesQuiet W s (s.modPallet i fun q => { q with quarantine := true }) := .of_same rfl rfl rfl
      exact set.trans (raiseNotice_quiet _ _ _ (other p at_ broken) _)

theorem quarantineStep_aside {j : PalletIx} (ne : j ≠ i) (s : State) : PalletAside i s (quarantineStep j s) := by
  obtain ⟨units, pallet⟩ := quarantineStep_eq j s
  refine ⟨(pallet i).trans (if_neg ne), units.count, units.classes, quarantineStep_quiet ?_⟩
  rintro p - - ⟨-, same⟩
  exact ne (NoticeObj.pallet.inj same)

theorem quarantineStep_elsewhere (z : ZoneIx) (i : PalletIx) (s : State) : Elsewhere z s (quarantineStep i s) := by
  obtain ⟨units, -⟩ := quarantineStep_eq i s
  refine .of_same units.zones units.rooms units.coils (quarantineStep_quiet ?_)
  rintro p - - ⟨-, same⟩
  cases same

end

/-! ## The whole expiry, seen from one zone and from one pallet -/

/-- The state in which the zones begin: the interval has started again (R177). -/
def intervalStarted (s : State) : State := { s with exposureTimer := some 10 }

/-- The state after the zones' steps. -/
def zonesExpired (s : State) : State := forEach (indices 8) zoneExpiry (intervalStarted s)

/-- The state in which the quarantine tests begin. -/
def palletsAccrued (s : State) : State :=
  { zonesExpired s with pallets := tmap (Option.map (accruePallet s)) s.pallets }

section
variable (s : State)

theorem zonesExpired_stock : StockStands s (zonesExpired s) := by
  have started : StockStands s (intervalStarted s) := { StockStands.refl s with }
  exact started.trans (forEach_rel StockStands .refl .trans _ _ (fun z _ => zoneExpiry_stock z) _)

theorem exposureExpiry_eq : exposureExpiry s = forEach (indices 256) quarantineStep (palletsAccrued s) := by
  have stock := zonesExpired_stock s
  show forEach (indices 256) quarantineStep
    { zonesExpired s with pallets := tmap (Option.map (accruePallet (zonesExpired s))) (zonesExpired s).pallets } = _
  rw [stock.accruePallet, stock.pallets]
  rfl

theorem palletsAccrued_pallet (i : PalletIx) : (palletsAccrued s).pallet i = (s.pallet i).map (accruePallet s) := by
  unfold palletsAccrued
  exact tget_tmap ..

theorem palletsAccrued_stock :
    (palletsAccrued s).count = s.count ∧ (palletsAccrued s).classes = s.classes ∧ (palletsAccrued s).lanes = s.lanes
      ∧ (palletsAccrued s).departed = s.departed ∧ (palletsAccrued s).moves = s.moves := by
  have stock := zonesExpired_stock s
  simp only [palletsAccrued, stock.count, stock.classes, stock.lanes, stock.departed, stock.moves, and_self]

theorem palletsAccrued_elsewhere (z : ZoneIx) : Elsewhere z (zonesExpired s) (exposureExpiry s) := by
  have accrued (u : State) (q) : Elsewhere z u { u with pallets := q } := .of_same rfl rfl rfl (.of_same rfl rfl rfl)
  rw [exposureExpiry_eq]
  exact (accrued (zonesExpired s) _).trans
    (forEach_rel (Elsewhere z) (.refl z) .trans _ _ (fun i _ => quarantineStep_elsewhere z i) _)

/-- Around the step of one zone nothing of that zone changes, and nothing that its step reads. -/
theorem exposureExpiry_around_zone (z : ZoneIx) :
    ∃ u, Elsewhere z s u ∧ StockStands s u ∧ Elsewhere z (zoneExpiry z u) (exposureExpiry s) := by
  have started : Elsewhere z s (intervalStarted s) := .of_same rfl rfl rfl (.of_same rfl rfl rfl)
  have stands : StockStands s (intervalStarted s) := { StockStands.refl s with }
  obtain ⟨u, ⟨before, stock⟩, after, -⟩ :=
    forEach_around (R := fun a b => Elsewhere z a b ∧ StockStands a b) (fun s => ⟨.refl z s, .refl s⟩)
      (fun h k => ⟨h.1.trans k.1, h.2.trans k.2⟩) (List.mem_finRange z) (List.nodup_finRange 8)
      (fun y ne t => ⟨zoneExpiry_elsewhere ne t, zoneExpiry_stock y t⟩) (intervalStarted s)
  exact ⟨u, started.trans before, stands.trans stock, after.trans (palletsAccrued_elsewhere s z)⟩

/-- Around the quarantine test of one record nothing of that record changes, and nothing that its test reads. -/
theorem exposureExpiry_around_pallet (i : PalletIx) :
    ∃ u, u.pallet i = (s.pallet i).map (accruePallet s) ∧ u.count = s.count ∧ u.classes = s.classes
      ∧ NoticesQuiet (AccountOf (.pallet i)) s u ∧ PalletAside i (quarantineStep i u) (exposureExpiry s) := by
  obtain ⟨count, classes, -⟩ := palletsAccrued_stock s
  have zones : NoticesQuiet (AccountOf (.pallet i)) s (zonesExpired s) := by
    have started : NoticesQuiet (AccountOf (.pallet i)) s (intervalStarted s) := .of_same rfl rfl rfl
    refine started.trans (forEach_noticesQuiet _ _ (fun z _ t => zoneExpiry_quiet (fun _ h => h.1) ?_) _)
    rintro - k - ⟨-, same⟩
    cases same
  have accrued (u : State) (q) : NoticesQuiet (AccountOf (.pallet i)) u { u with pallets := q } := .of_same rfl rfl rfl
  obtain ⟨u, before, after⟩ :=
    forEach_around (R := PalletAside i) (.refl i) .trans (List.mem_finRange i) (List.nodup_finRange 256)
      (fun j ne t => quarantineStep_aside ne t) (palletsAccrued s)
  refine ⟨u, before.pallet.trans (palletsAccrued_pallet s i), before.count.trans count, before.classes.trans classes,
    ?_, ?_⟩
  · exact (zones.trans (accrued (zonesExpired s) _)).trans before.notices
  · rw [exposureExpiry_eq]
    exact after

end

/-! ## A zone's account and alarm state (R64, R65) -/

theorem Zone.raisedBy_eq (n : Zone) : n.raisedBy = if n.window = .closed then 0 else n.allowance := by
  unfold Zone.raisedBy
  cases n.window <;> rfl

theorem exposureStep_of_stale {n : Zone} (stale : n.status = .stale) : exposureStep n = n.exposure := by
  simp only [exposureStep, stale]

theorem exposureStep_of_valid {n : Zone} (valid : n.status = .valid) :
    exposureStep n = if 0 < n.value - (n.limit + n.raisedBy) then
        min 16777215 (n.exposure + (n.value - (n.limit + n.raisedBy)).toNat)
      else n.exposure - n.recovery := by
  simp only [exposureStep, valid]
  rfl

theorem alarmStep_of_stale {n : Zone} (stale : n.status = .stale) : alarmStep n = (n.alarmState, none) := by
  simp only [alarmStep, stale]

/-- Table 4-4, as the state after. -/
theorem alarmStep_table {n : Zone} (valid : n.status = .valid) :
    let alarm : Prop := n.alarm + n.raisedBy ≤ n.value ∨ n.eAlarm ≤ n.exposure
    let warning : Prop := n.warn + n.raisedBy ≤ n.value ∨ n.eWarn ≤ n.exposure
    let alarmClear : Prop := n.value < n.alarm + n.raisedBy - n.hysteresis ∧ n.exposure < n.eAlarm
    let warningClear : Prop := n.value < n.warn + n.raisedBy - n.hysteresis ∧ n.exposure < n.eWarn
    let up : Prop := n.alarmState = .normal ∨ n.alarmState = .warning
    let high : Prop := n.alarmState = .alarm ∨ n.alarmState = .acknowledged
    (up → alarm → (alarmStep n).1 = .alarm)
      ∧ (n.alarmState = .normal → ¬alarm → warning → (alarmStep n).1 = .warning)
      ∧ (n.alarmState = .normal → ¬alarm → ¬warning → (alarmStep n).1 = .normal)
      ∧ (n.alarmState = .warning → ¬alarm → warningClear → (alarmStep n).1 = .normal)
      ∧ (n.alarmState = .warning → ¬alarm → ¬warningClear → (alarmStep n).1 = .warning)
      ∧ (high → warningClear → (alarmStep n).1 = .normal)
      ∧ (high → ¬warningClear → alarmClear → (alarmStep n).1 = .warning)
      ∧ (high → ¬warningClear → ¬alarmClear → (alarmStep n).1 = n.alarmState) := by
  intro alarm warning alarmClear warningClear up high
  have alarm_iff : alarmTest n = true ↔ alarm := by simp [alarmTest, alarm]
  have warning_iff : warningTest n = true ↔ warning := by simp [warningTest, warning]
  have alarmClear_iff : alarmClearTest n = true ↔ alarmClear := by simp [alarmClearTest, alarmClear]
  have warningClear_iff : warningClearTest n = true ↔ warningClear := by simp [warningClearTest, warningClear]
  simp only [alarmStep, valid, up, high, ← alarm_iff, ← warning_iff, ← alarmClear_iff, ← warningClear_iff]
  cases n.alarmState
  all_goals
    refine ⟨?_, ?_, ?_, ?_, ?_, ?_, ?_, ?_⟩
    all_goals simp +contextual

/-- Each notice of the alarm step tells that the state moved to the notice's (R65). -/
theorem alarmStep_notice (n : Zone) :
    ((alarmStep n).2 = some .zoneAlarm ↔ n.alarmState ≠ .alarm ∧ (alarmStep n).1 = .alarm)
      ∧ ((alarmStep n).2 = some .zoneWarning ↔ n.alarmState ≠ .warning ∧ (alarmStep n).1 = .warning)
      ∧ ((alarmStep n).2 = some .zoneNormal ↔ n.alarmState ≠ .normal ∧ (alarmStep n).1 = .normal) := by
  unfold alarmStep
  cases n.status
  · cases n.alarmState
    all_goals
      dsimp only
      split_ifs <;> simp
  · simp

section
variable {s : State} {z : ZoneIx}

theorem zoneExpiry_zone (inUse : (s.zone z).inUse = true) :
    ((zoneExpiry z s).zone z).exposure = exposureStep (s.zone z)
      ∧ ((zoneExpiry z s).zone z).alarmState = (alarmStep (s.zone z).charged).1 := by
  have alarmed : (tellAlarm z (s.zone z) (s.modZone z Zone.alarmed)).zone z = (s.zone z).alarmed := by
    rw [State.zone, (tellAlarm_units _).zones]
    exact s.zone_modZone_self z _
  obtain ⟨exposure, alarmState⟩ := frostStep_zone z (tellAlarm z (s.zone z) (s.modZone z Zone.alarmed))
  rw [zoneExpiry_of_inUse inUse, exposure, alarmState, alarmed]
  exact ⟨rfl, rfl⟩

theorem exposureExpiry_zone (inUse : (s.zone z).inUse = true) :
    ((exposureExpiry s).zone z).exposure = exposureStep (s.zone z)
      ∧ ((exposureExpiry s).zone z).alarmState = (alarmStep (s.zone z).charged).1 := by
  obtain ⟨u, before, -, after⟩ := exposureExpiry_around_zone s z
  rw [after.zone, ← before.zone]
  exact zoneExpiry_zone (before.zone ▸ inUse)

theorem exposureExpiry_unused (unused : (s.zone z).inUse = false) : (exposureExpiry s).zone z = s.zone z := by
  obtain ⟨u, before, -, after⟩ := exposureExpiry_around_zone s z
  rw [after.zone, zoneExpiry_of_unused (before.zone ▸ unused), before.zone]

theorem exposureExpiry_value (s : State) (z : ZoneIx) :
    ((exposureExpiry s).zone z).value = (s.zone z).value
      ∧ ((exposureExpiry s).zone z).status = (s.zone z).status := by
  obtain ⟨u, before, -, after⟩ := exposureExpiry_around_zone s z
  rw [after.zone, ← before.zone]
  exact (zoneExpiry_stock z u).zones z

/-- The notice of an alarm step stands at the end of the expiry (R65). -/
theorem exposureExpiry_tellsZone {k : NoticeKind} (busy : s.trunkTx ≠ none) (kept : (exposureExpiry s).lost = false)
    (inUse : (s.zone z).inUse = true) (told : (alarmStep (s.zone z).charged).2 = some k)
    (accounts : OfAccounts (k, .zone z)) :
    ({ kind := k, obj := .zone z, value := noticeInt (s.zone z).value, time := s.count
       severity := k.severity (noticeInt (s.zone z).value) } : Notice) ∈ (exposureExpiry s).notices := by
  obtain ⟨u, before, stock, after⟩ := exposureExpiry_around_zone s z
  have raised : tellAlarm z (u.zone z) (u.modZone z Zone.alarmed)
      = raiseNotice k (.zone z) (noticeInt (u.zone z).value) (u.modZone z Zone.alarmed) := by
    rw [tellAlarm, before.zone, told]
  have own {key : NoticeKind × NoticeObj} (same : key = (k, .zone z)) : AccountOf (.zone z) key :=
    same ▸ ⟨accounts, rfl⟩
  have quiet : NoticesQuiet (· = (k, .zone z))
      (raiseNotice k (.zone z) (noticeInt (u.zone z).value) (u.modZone z Zone.alarmed)) (exposureExpiry s) := by
    have frost := frostStep_run z (tellAlarm z (u.zone z) (u.modZone z Zone.alarmed))
    rw [← zoneExpiry_of_inUse (before.zone ▸ inUse), raised] at frost
    exact (frost.notices.mono fun _ same => (own same).1).trans (after.notices.mono fun _ same => own same)
  have lasting := raiseNotice_lasting (s := u.modZone z Zone.alarmed) ((before.notices busy).tx ▸ busy) quiet kept
  rwa [State.modZone_count, stock.count, before.zone] at lasting

/-- No notice of a zone is new but the one its alarm step calls for. -/
theorem exposureExpiry_sparesZone {k : NoticeKind} (busy : s.trunkTx ≠ none) (kept : (exposureExpiry s).lost = false)
    (untold : (s.zone z).inUse = true → (alarmStep (s.zone z).charged).2 ≠ some k) (accounts : OfAccounts (k, .zone z))
    {n : Notice} (mem : n ∈ (exposureExpiry s).notices) (key : n.key = (k, .zone z)) : n ∈ s.notices := by
  obtain ⟨u, before, -, after⟩ := exposureExpiry_around_zone s z
  have own {key : NoticeKind × NoticeObj} (same : key = (k, .zone z)) : AccountOf (.zone z) key :=
    same ▸ ⟨accounts, rfl⟩
  have step : NoticesQuiet (· = (k, .zone z)) u (zoneExpiry z u) := by
    refine zoneExpiry_quiet (fun _ same => (own same).1) fun inUse j told same => ?_
    rw [before.zone] at inUse told
    exact untold inUse (told.trans (congrArg some (Prod.mk.inj same).1))
  have quiet :=
    ((before.notices.mono fun _ same => own same).trans step).trans (after.notices.mono fun _ same => own same)
  exact ((quiet busy).same kept n key).mp mem

/-- A zone's notice of a kind is new at the end when and only when its alarm state moved to the kind's (R65). -/
theorem exposureExpiry_zoneNotice {k : NoticeKind} {a : AlarmState} (busy : s.trunkTx ≠ none)
    (kept : (exposureExpiry s).lost = false) (accounts : OfAccounts (k, .zone z))
    (moves : (alarmStep (s.zone z).charged).2 = some k
      ↔ (s.zone z).alarmState ≠ a ∧ (alarmStep (s.zone z).charged).1 = a) :
    ((s.zone z).alarmState ≠ a ∧ ((exposureExpiry s).zone z).alarmState = a →
      ({ kind := k, obj := .zone z, value := noticeInt (s.zone z).value, time := s.count
         severity := k.severity (noticeInt (s.zone z).value) } : Notice) ∈ (exposureExpiry s).notices)
      ∧ ((∃ n ∈ (exposureExpiry s).notices, n ∉ s.notices ∧ n.kind = k ∧ n.obj = .zone z) →
        (s.zone z).alarmState ≠ a ∧ ((exposureExpiry s).zone z).alarmState = a) := by
  by_cases inUse : (s.zone z).inUse = true
  · rw [(exposureExpiry_zone inUse).2, ← moves]
    refine ⟨fun told => exposureExpiry_tellsZone busy kept inUse told accounts, ?_⟩
    rintro ⟨n, mem, new, rfl, obj⟩
    by_contra untold
    exact new (exposureExpiry_sparesZone busy kept (fun _ => untold) accounts mem (Prod.ext rfl obj))
  · rw [exposureExpiry_unused (Bool.eq_false_iff.mpr inUse)]
    refine ⟨fun goes => absurd goes.2 goes.1, ?_⟩
    rintro ⟨n, mem, new, rfl, obj⟩
    have unused (used : (s.zone z).inUse = true) : (alarmStep (s.zone z).charged).2 ≠ some n.kind := absurd used inUse
    exact absurd (exposureExpiry_sparesZone busy kept unused accounts mem (Prod.ext rfl obj)) new

/-! ## A pallet's account and quarantine flag (R69, R70) -/

variable {i : PalletIx}

theorem overBudget_of_classes {s t : State} (classes : t.classes = s.classes) : overBudget t = overBudget s := by
  funext p
  rw [overBudget, overBudget, State.cls, State.cls, classes]

theorem exposureExpiry_pallet (s : State) (i : PalletIx) :
    (exposureExpiry s).pallet i = (s.pallet i).map fun p => (accruePallet s p).tested s := by
  obtain ⟨u, pallet, -, classes, -, after⟩ := exposureExpiry_around_pallet s i
  rw [after.pallet, (quarantineStep_eq i u).2, if_pos rfl, pallet, Option.map_map]
  have tested : Pallet.tested u = Pallet.tested s := by
    funext p
    rw [Pallet.tested, Pallet.tested, overBudget_of_classes classes]
  rw [tested]
  rfl

theorem accruePallet_eq (s : State) (p : Pallet) :
    accruePallet s p = { p with
      exposure := if p.status = .departed ∨ (s.zone (palletZone s p)).status = .stale then p.exposure
        else min 16777215 (p.exposure + ((s.zone (palletZone s p)).value - (s.cls p.cls).limit).toNat) } := by
  unfold accruePallet
  dsimp only
  by_cases gone : p.status = .departed
  · rw [if_pos (by simp [Pallet.departed, gone]), if_pos (.inl gone)]
  · cases status : (s.zone (palletZone s p)).status
    · simp [Pallet.departed, gone, addExcess, satAdd, Config.exposureTop]
    · simp [Pallet.departed, gone]

theorem testedFlag_eq (s : State) (p : Pallet) :
    (p.tested s).quarantine = (p.quarantine || (p.status != .departed && !p.released
      && decide ((s.cls p.cls).budget ≤ p.exposure))) := by
  simp only [Pallet.tested, overBudget, Pallet.departed, bne]
  cases p.quarantine <;> simp

/-- The expiry leaves the lanes, the departed list and the moves. -/
theorem exposureExpiry_stock (s : State) :
    (exposureExpiry s).lanes = s.lanes ∧ (exposureExpiry s).departed = s.departed
      ∧ (exposureExpiry s).moves = s.moves := by
  have tests {β : Type} (π : State → β) (same : ∀ i t, π (quarantineStep i t) = π t) :
      π (exposureExpiry s) = π (palletsAccrued s) := by
    rw [exposureExpiry_eq]
    exact forEach_keeps π _ _ same _
  obtain ⟨-, -, lanes, departed, moves⟩ := palletsAccrued_stock s
  exact ⟨(tests State.lanes fun i t => (quarantineStep_eq i t).1.lanes).trans lanes,
    (tests State.departed fun i t => (quarantineStep_eq i t).1.departed).trans departed,
    (tests State.moves fun i t => (quarantineStep_eq i t).1.moves).trans moves⟩

theorem accruePallet_quarantine (s : State) (p : Pallet) : (accruePallet s p).quarantine = p.quarantine := by
  rw [accruePallet_eq]

/-- A flag that was clear is set by the test (R70). -/
theorem exposureExpiry_flag {p p' : Pallet} (at_ : s.pallet i = some p) (after : (exposureExpiry s).pallet i = some p')
    (clear : p.quarantine = false) : p'.quarantine = overBudget s (accruePallet s p) := by
  rw [exposureExpiry_pallet, at_] at after
  obtain rfl := Option.some.inj after
  simp only [Pallet.tested, accruePallet_quarantine, clear, Bool.false_or]

/-- The quarantine notice of a pallet that breaks its budget stands at the end (R70). -/
theorem exposureExpiry_tellsPallet {p : Pallet} (busy : s.trunkTx ≠ none) (kept : (exposureExpiry s).lost = false)
    (at_ : s.pallet i = some p) (broken : overBudget s (accruePallet s p) = true) :
    ({ kind := .palletQuarantine, obj := .pallet i, value := p.id, time := s.count, severity := .alarm } : Notice)
      ∈ (exposureExpiry s).notices := by
  obtain ⟨u, pallet, count, classes, before, after⟩ := exposureExpiry_around_pallet s i
  rw [at_] at pallet
  have raised := quarantineStep_of_over pallet (overBudget_of_classes classes ▸ broken)
  have quiet := after.notices.mono (V := (· = (.palletQuarantine, .pallet i)))
    fun _ same => same ▸ ⟨.inr (.inr (.inr rfl)), rfl⟩
  rw [raised] at quiet
  have lasting := raiseNotice_lasting (s := u.modPallet i _) ((before busy).tx ▸ busy) quiet kept
  rw [State.modPallet_count, count, accruePallet_eq] at lasting
  exact lasting

theorem exposureExpiry_sparesPallet (busy : s.trunkTx ≠ none) (kept : (exposureExpiry s).lost = false)
    (within : ∀ p, s.pallet i = some p → overBudget s (accruePallet s p) = false) {n : Notice}
    (mem : n ∈ (exposureExpiry s).notices) (key : n.key = (.palletQuarantine, .pallet i)) : n ∈ s.notices := by
  obtain ⟨u, pallet, -, classes, before, after⟩ := exposureExpiry_around_pallet s i
  have step : NoticesQuiet (AccountOf (.pallet i)) u (quarantineStep i u) := by
    refine quarantineStep_quiet fun q at_ broken => ?_
    obtain ⟨p, was, rfl⟩ := Option.map_eq_some_iff.mp (pallet.symm.trans at_)
    rw [overBudget_of_classes classes, within p was] at broken
    cases broken
  refine ((((before.trans step).trans after.notices) busy).same kept n ?_).mp mem
  exact key ▸ ⟨.inr (.inr (.inr rfl)), rfl⟩

end

/-- Settles O48: seen from a zone, and from a pallet, the expiry is the step of that zone and of that pallet. -/
theorem accountsAccrue : Obligations.AccountsAccrue := by
  have acts {s : State} (due : s.exposureTimer = some 0) :
      exec .exposureIntervalExpiry s = .next (exposureExpiry s) := by
    rw [exec_exposureIntervalExpiry, exposureDue_of_due due]
  refine ⟨fun s due => ⟨exposureExpiry s, acts due, (exposureExpiry_restarts s).2, fun z => ?_⟩,
    fun s due => ⟨exposureExpiry s, acts due, ?_⟩,
    fun s due busy unlost => ⟨exposureExpiry s, acts due, fun kept => ?_⟩⟩
  · obtain ⟨value, status⟩ := exposureExpiry_value s z
    refine ⟨value, status, exposureExpiry_unused, fun inUse => ?_⟩
    obtain ⟨exposure, alarmState⟩ := exposureExpiry_zone inUse
    intro n raised excess account
    have raised_eq : raised = n.raisedBy := n.raisedBy_eq.symm
    refine ⟨fun stale => ⟨exposure.trans (exposureStep_of_stale stale), ?_⟩, fun valid => ⟨?_, ?_⟩⟩
    · exact alarmState.trans (congrArg Prod.fst (alarmStep_of_stale (n := n.charged) stale))
    · have step := exposureStep_of_valid (n := n) valid
      rw [← raised_eq] at step
      exact exposure.trans step
    · have table := alarmStep_table (n := n.charged) valid
      rw [← alarmState, show n.charged.exposure = account from exposure.symm] at table
      rw [raised_eq]
      exact table
  · obtain ⟨lanes, departed, moves⟩ := exposureExpiry_stock s
    refine ⟨lanes, departed, moves, fun i free => ?_, fun i p at_ => ?_⟩
    · rw [exposureExpiry_pallet, free]
      rfl
    · intro z excess account
      rw [exposureExpiry_pallet, at_]
      have zone : palletZone s p = z := rfl
      have charged : accruePallet s p = { p with exposure := account } := by
        rw [accruePallet_eq, zone]
      rw [Option.map_some, charged]
      exact congrArg (fun q => some { p with exposure := account, quarantine := q }) (testedFlag_eq s _)
  · refine ⟨fun z => ?_, fun i p p' at_ after clear => ⟨fun set => ?_, fun unset => ?_⟩, fun i still => ?_⟩
    · obtain ⟨alarm, warning, normal⟩ := alarmStep_notice (s.zone z).charged
      obtain ⟨tellsAlarm, sparesAlarm⟩ := exposureExpiry_zoneNotice busy kept (.inr (.inr (.inl rfl))) alarm
      obtain ⟨tellsWarning, sparesWarning⟩ := exposureExpiry_zoneNotice busy kept (.inr (.inl rfl)) warning
      obtain ⟨tellsNormal, sparesNormal⟩ := exposureExpiry_zoneNotice busy kept (.inl rfl) normal
      exact ⟨tellsAlarm, tellsWarning, tellsNormal, sparesAlarm, sparesWarning, sparesNormal⟩
    · exact exposureExpiry_tellsPallet busy kept at_ ((exposureExpiry_flag at_ after clear).symm.trans set)
    · rintro ⟨n, mem, new, kind, obj⟩
      refine new (exposureExpiry_sparesPallet busy kept (fun q at' => ?_) mem (Prod.ext kind obj))
      obtain rfl := Option.some.inj (at_.symm.trans at')
      exact (exposureExpiry_flag at_ after clear).symm.trans unset
    · rintro ⟨n, mem, new, kind, obj⟩
      refine new (exposureExpiry_sparesPallet busy kept (fun q at' => ?_) mem (Prod.ext kind obj))
      rcases still with free | ⟨p, at_, flagged⟩
      · exact absurd (free.symm.trans at') (by simp)
      · obtain rfl := Option.some.inj (at_.symm.trans at')
        simp [overBudget, accruePallet_quarantine, flagged]

/-! ## Frost load and pulled-in defrosts (R67, R68, R100) -/

/-- A coil's record after a raise of its owed count by n (R100). -/
def Coil.owing (n : Nat) (k : Coil) : Coil :=
  if k.limit ≤ k.owed then k
  else { k with
    owed := min k.limit (k.owed + n), forced := if min k.limit (k.owed + n) = k.limit then true else k.forced }

theorem Coil.owing_owed (n : Nat) (k : Coil) :
    (k.owing n).owed = if k.owed < k.limit then min k.limit (k.owed + n) else k.owed := by
  unfold Coil.owing
  split_ifs <;> first | rfl | omega

theorem Coil.owing_place (n : Nat) (k : Coil) :
    (k.owing n).loaded = k.loaded ∧ (k.owing n).zone = k.zone ∧ (k.owing n).mask = k.mask
      ∧ (k.owing n).phase = k.phase := by
  unfold Coil.owing
  split_ifs <;> exact ⟨rfl, rfl, rfl, rfl⟩

theorem raiseOwed_of_top {n : Nat} {c : CoilIx} {s : State} (top : (s.coil c).limit ≤ (s.coil c).owed) :
    raiseOwed n c s = s := if_pos top

theorem raiseOwed_of_room {n : Nat} {c : CoilIx} {s : State} (room : ¬(s.coil c).limit ≤ (s.coil c).owed) :
    raiseOwed n c s = if min (s.coil c).limit ((s.coil c).owed + n) = (s.coil c).limit then
        raiseNotice .defrostOverdue (.coil c) (noticeInt (s.coil c).limit) (s.modCoil c (Coil.owing n))
      else s.modCoil c (Coil.owing n) := by
  have record : s.modCoil c (Coil.owing n) = s.modCoil c fun k => { k with
        owed := min (s.coil c).limit ((s.coil c).owed + n)
        forced := if min (s.coil c).limit ((s.coil c).owed + n) = k.limit then true else k.forced } :=
    congrArg (fun k => { s with coils := tset s.coils c k }) (if_neg room)
  rw [record]
  exact if_neg room

/-- A raise changes its coil's record and the notices. -/
theorem raiseOwed_units (n : Nat) (c : CoilIx) (s : State) :
    SameUnits (s.modCoil c (Coil.owing n)) (raiseOwed n c s) := by
  by_cases top : (s.coil c).limit ≤ (s.coil c).owed
  · have same : s.modCoil c (Coil.owing n) = s := by
      have record : (tget s.coils c).owing n = tget s.coils c := if_pos top
      rw [State.modCoil, tmod, record, tset_tget]
    rw [same, raiseOwed_of_top top]
    exact .refl s
  · rw [raiseOwed_of_room top]
    split
    · exact (raiseNotice_portStep ..).units
    · exact .refl _

theorem raiseOwed_coil (n : Nat) (c d : CoilIx) (s : State) :
    (raiseOwed n c s).coil d = if c = d then (s.coil c).owing n else s.coil d := by
  rw [State.coil, (raiseOwed_units n c s).coils, ← State.coil, State.coil_modCoil]

/-- What a raise keeps of a record it keeps of every record. -/
theorem raiseOwed_keeps_coil {β : Type} {π : Coil → β} {n : Nat} (same : ∀ k, π (k.owing n) = π k) (c d : CoilIx)
    (s : State) : π ((raiseOwed n c s).coil d) = π (s.coil d) := by
  rw [raiseOwed_coil]
  split
  · next here => rw [same, here]
  · rfl

/-- Raising each coil of a list raises each of them once. -/
theorem forEach_raiseOwed_coil (n : Nat) {l : List CoilIx} (nodup : l.Nodup) (c : CoilIx) (s : State) :
    (forEach l (raiseOwed n) s).coil c = if c ∈ l then (s.coil c).owing n else s.coil c := by
  split
  · next mem =>
    obtain ⟨u, before, after⟩ := forEach_around (R := fun s t => t.coil c = s.coil c) (fun _ => rfl)
      (fun h k => k.trans h) mem nodup (f := raiseOwed n)
      (fun d ne t => (raiseOwed_coil n d c t).trans (if_neg ne)) s
    rw [after, raiseOwed_coil, if_pos rfl, before]
  · next absent =>
    refine forEach_rel (fun s t => t.coil c = s.coil c) (fun _ => rfl) (fun h k => k.trans h) l _ (fun d mem t => ?_) s
    exact (raiseOwed_coil n d c t).trans (if_neg fun here : d = c => absent (here ▸ mem))

/-- The raise of a zone whose defrosts are staggered, with one under way and its hold CLEAR, raises each unmasked coil
and does nothing more (R100, R102). -/
theorem raiseZoneOwed_of_underway (n : Nat) {z : ZoneIx} {s : State} {d : CoilIx}
    (mode : (s.zone z).defrostMode = .staggered) (mem : d ∈ zoneCoils s z) (out : (s.coil d).phase ≠ .cool)
    (clear : ∀ r, zoneRoom? z = some r → (s.room r).hold = .clear) :
    raiseZoneOwed n z s = forEach (unmaskedCoils s z) (raiseOwed n) s := by
  have keeps {β : Type} (π : State → β) (same : ∀ c t, π (raiseOwed n c t) = π t) :
      π (forEach (unmaskedCoils s z) (raiseOwed n) s) = π s := forEach_keeps π _ _ same s
  have zones := keeps State.zones fun c t => (raiseOwed_units n c t).zones
  have rooms := keeps State.rooms fun c t => (raiseOwed_units n c t).rooms
  have loaded := keeps (fun t => (t.coil d).loaded) fun c => raiseOwed_keeps_coil (fun k => (k.owing_place n).1) c d
  have zone := keeps (fun t => (t.coil d).zone) fun c => raiseOwed_keeps_coil (fun k => (k.owing_place n).2.1) c d
  have phase := keeps (fun t => (t.coil d).phase) fun c => raiseOwed_keeps_coil (fun k => (k.owing_place n).2.2.2) c d
  refine owedChanged_of_idle (fun r room => ?_) (selectOnce_of_staggered (c := d) ?_ ?_ ?_)
  · rw [State.room, rooms]
    exact clear r room
  · rw [State.zone, zones]
    exact mode
  · obtain ⟨isLoaded, inZone⟩ := mem_zoneCoils.mp mem
    exact mem_zoneCoils.mpr ⟨loaded.trans isLoaded, zone.trans inZone⟩
  · exact phase ▸ out

theorem zoneRoom?_eq_some_iff {z : ZoneIx} {r : RoomIx} : zoneRoom? z = some r ↔ z = roomZone r :=
  ⟨fun room => (roomZone_of_zoneRoom? room).symm, fun here => here ▸ zoneRoom?_roomZone r⟩

theorem zoneRoom?_eq_none_iff {z : ZoneIx} : zoneRoom? z = none ↔ z = 0 := by
  unfold zoneRoom?
  split <;> simp [*]

theorem dockWeight_eq (n : Zone) (d : Dock) :
    dockWeight n d = if d.loaded = true ∧ d.state = .openSealed then n.wSealed
      else if d.loaded = true ∧ d.state = .breach then n.wBreach
      else if d.loaded = true ∧ d.state = .openUnsealed then n.wUnsealed
      else 0 := by
  unfold dockWeight
  cases d.loaded
  · simp
  · cases d.state <;> simp

theorem roomWeight_eq (n : Zone) (p : Room) :
    roomWeight n p = if p.state = .opened ∨ p.state = .opening ∨ p.state = .closing then n.wOpen else 0 := by
  unfold roomWeight
  cases p.state <;> simp

/-- The weights of the open portals of a zone (R67). -/
theorem frostAdded_eq (s : State) (z : ZoneIx) :
    frostAdded s z =
      if z = 0 then
        (s.docks.toList.map fun d =>
          if d.loaded = true ∧ d.state = .openSealed then (s.zone z).wSealed
          else if d.loaded = true ∧ d.state = .breach then (s.zone z).wBreach
          else if d.loaded = true ∧ d.state = .openUnsealed then (s.zone z).wUnsealed
          else 0).sum
      else if ∃ r, z = roomZone r ∧ ((s.room r).state = .opened ∨ (s.room r).state = .opening
          ∨ (s.room r).state = .closing) then (s.zone z).wOpen
      else 0 := by
  unfold frostAdded
  cases room : zoneRoom? z with
  | none =>
    rw [if_pos (zoneRoom?_eq_none_iff.mp room)]
    exact congrArg (fun f => (s.docks.toList.map f).sum) (funext (dockWeight_eq _))
  | some r =>
    have only (r') : z = roomZone r' ↔ r' = r := by
      rw [← zoneRoom?_eq_some_iff, room, Option.some_inj, eq_comm]
    have inRoom : z ≠ 0 := fun zero => by simp [zoneRoom?_eq_none_iff.mpr zero] at room
    simp only [if_neg inRoom, only, exists_eq_left]
    exact roomWeight_eq _ _

/-- The frost step of a zone with a defrost under way: the load, the defrosts it pulls in, and what remains (R67). -/
theorem frostStep_of_underway {z : ZoneIx} {s : State} {d : CoilIx} (mode : (s.zone z).defrostMode = .staggered)
    (mem : d ∈ zoneCoils s z) (out : (s.coil d).phase ≠ .cool)
    (clear : ∀ r, zoneRoom? z = some r → (s.room r).hold = .clear) :
    let load := min 65535 ((s.zone z).frost + frostAdded s z)
    let pulled :=
      if (s.zone z).quiet = true ∨ (s.zone z).frostThreshold = 0 then 0 else load / (s.zone z).frostThreshold
    ((frostStep z s).zone z).frost
        = (if (s.zone z).quiet then (s.zone z).frost else load - pulled * (s.zone z).frostThreshold)
      ∧ ∀ c, ((frostStep z s).coil c).owed
          = (if c ∈ unmaskedCoils s z ∧ (s.coil c).owed < (s.coil c).limit then
            min (s.coil c).limit ((s.coil c).owed + pulled) else (s.coil c).owed)
        ∧ ((frostStep z s).coil c).phase = (s.coil c).phase := by
  intro load pulled
  have unchanged (zero : pulled = 0) (c : CoilIx) : (s.coil c).owed
      = if c ∈ unmaskedCoils s z ∧ (s.coil c).owed < (s.coil c).limit then
          min (s.coil c).limit ((s.coil c).owed + pulled) else (s.coil c).owed := by
    split_ifs <;> omega
  by_cases quiet : (s.zone z).quiet = true
  · have still : frostStep z s = s := if_pos quiet
    rw [still, if_pos quiet]
    exact ⟨rfl, fun c => ⟨unchanged (if_pos (.inl quiet)) c, rfl⟩⟩
  · by_cases due : (s.zone z).frostThreshold ≠ 0 ∧ (s.zone z).frostThreshold ≤ load
    · have divided : pulled = load / (s.zone z).frostThreshold := if_neg (by simp [quiet, due.1])
      have step : frostStep z s = raiseZoneOwed pulled z
          (s.modZone z fun n => { n with frost := load % (s.zone z).frostThreshold }) := by
        rw [divided]
        exact (if_neg quiet).trans (if_pos due)
      rw [step, raiseZoneOwed_of_underway (s := s.modZone z _) (d := d) pulled (by simpa using mode) mem out clear,
        if_neg quiet]
      refine ⟨?_, fun c => ?_⟩
      · rw [forEach_keeps (fun t => t.zone z) _ _ (fun c t => by rw [State.zone, (raiseOwed_units ..).zones]; rfl)]
        simp only [State.zone_modZone_self, divided, Nat.mod_eq_sub_div_mul]
      · rw [forEach_raiseOwed_coil _ (unmaskedCoils_nodup ..)]
        show (if c ∈ unmaskedCoils s z then (s.coil c).owing pulled else s.coil c).owed = _
          ∧ (if c ∈ unmaskedCoils s z then (s.coil c).owing pulled else s.coil c).phase = _
        by_cases raised : c ∈ unmaskedCoils s z
        · rw [if_pos raised, Coil.owing_owed, ((s.coil c).owing_place pulled).2.2.2]
          simp only [raised, true_and, and_self]
        · simp only [raised, false_and, if_false, and_self]
    · have none_due : pulled = 0 := by
        by_cases zero : (s.zone z).frostThreshold = 0
        · exact if_pos (.inr zero)
        · have below : load < (s.zone z).frostThreshold := by omega
          exact (if_neg (by simp [quiet, zero])).trans (Nat.div_eq_of_lt below)
      have step : frostStep z s = s.modZone z fun n => { n with frost := load } :=
        (if_neg quiet).trans (if_neg due)
      rw [step, if_neg quiet]
      exact ⟨by simp [none_due], fun c => ⟨unchanged none_due c, rfl⟩⟩

/-- The alarm step changes nothing that the frost step reads. -/
theorem frostAdded_alarmed {z : ZoneIx} {s w : State} (zone : w.zone z = (s.zone z).alarmed) (docks : w.docks = s.docks)
    (room : ∀ r, roomZone r = z → w.room r = s.room r) : frostAdded w z = frostAdded s z := by
  unfold frostAdded
  rw [zone, docks]
  cases here : zoneRoom? z with
  | none => rfl
  | some r =>
    dsimp only
    rw [room r (roomZone_of_zoneRoom? here)]
    rfl

/-- Settles O49: seen from the zone, the expiry is the frost step of a zone with a defrost under way. -/
theorem frostLoadPullsInDefrosts : Obligations.FrostLoadPullsInDefrosts := by
  intro s z due inUse mode underway clear n weights load pulled
  obtain ⟨d, loaded, inZone, out⟩ := underway
  obtain ⟨u, before, stock, after⟩ := exposureExpiry_around_zone s z
  refine ⟨exposureExpiry s, by rw [exec_exposureIntervalExpiry, exposureDue_of_due due], ?_⟩
  obtain ⟨w, w_eq⟩ : ∃ w, w = tellAlarm z (u.zone z) (u.modZone z Zone.alarmed) := ⟨_, rfl⟩
  have step : zoneExpiry z u = frostStep z w := w_eq ▸ zoneExpiry_of_inUse (before.zone ▸ inUse)
  have units : SameUnits (u.modZone z Zone.alarmed) w := w_eq ▸ tellAlarm_units _
  have zone : w.zone z = (s.zone z).alarmed := by
    rw [State.zone, units.zones, ← before.zone]
    exact u.zone_modZone_self z _
  have room (r) (here : roomZone r = z) : w.room r = s.room r := by
    rw [State.room, units.rooms]
    exact before.room r here
  have coil (c) (here : (s.coil c).zone = z) : w.coil c = s.coil c := by
    rw [State.coil, units.coils]
    exact before.coil c here
  have added : frostAdded w z = weights :=
    (frostAdded_alarmed zone (units.docks.trans stock.docks) room).trans (frostAdded_eq s z)
  obtain ⟨frost, owed⟩ := frostStep_of_underway (z := z) (s := w) (d := d) (by rw [zone]; exact mode)
    (mem_zoneCoils.mpr (coil d inZone ▸ ⟨loaded, inZone⟩)) (coil d inZone ▸ out)
    (fun r here => room r (roomZone_of_zoneRoom? here) ▸ clear r (roomZone_of_zoneRoom? here).symm)
  rw [zone, added] at frost
  refine ⟨?_, fun c isLoaded here => ?_⟩
  · rw [after.zone, step]
    exact frost
  · have mine : ((frostStep z w).coil c).zone = z := by rw [((frostStep_run z w).coils c).zone, coil c here, here]
    have unmasked : c ∈ unmaskedCoils w z ↔ (s.coil c).mask = false := by
      rw [mem_unmaskedCoils, coil c here]
      simp [isLoaded, here]
    have pulled_eq := owed c
    simp only [zone, added, coil c here, unmasked] at pulled_eq
    rw [after.coil c (step ▸ mine), step]
    exact pulled_eq

end Sys2Proof.Machine
end

section
/-! SUPPORT. Records over ports: two changes of one record are one change, and an operation of the ports over a changed
record is the change over the operation. With the timers of section 4 and 5 (R55, R57, R60, R63, R82, R89, R90), the
statement O50. -/

namespace Sys2Proof.Machine

/-! ## One record, changed twice -/

section
variable (s : State)

theorem State.modDock_modDock (p : DockIx) (f g : Dock → Dock) :
    (s.modDock p f).modDock p g = s.modDock p fun d => g (f d) := by
  simp only [State.modDock, tmod, tget_tset_self, tset_tset]

theorem State.modRoom_modRoom (r : RoomIx) (f g : Room → Room) :
    (s.modRoom r f).modRoom r g = s.modRoom r fun p => g (f p) := by
  simp only [State.modRoom, tmod, tget_tset_self, tset_tset]

theorem State.modCoil_modCoil (c : CoilIx) (f g : Coil → Coil) :
    (s.modCoil c f).modCoil c g = s.modCoil c fun k => g (f k) := by
  simp only [State.modCoil, tmod, tget_tset_self, tset_tset]

end

section
variable {s : State}

theorem State.modDock_congr {p : DockIx} {f g : Dock → Dock} (same : f (s.dock p) = g (s.dock p)) :
    s.modDock p f = s.modDock p g := congrArg (fun d => { s with docks := tset s.docks p d }) same

theorem State.modRoom_congr {r : RoomIx} {f g : Room → Room} (same : f (s.room r) = g (s.room r)) :
    s.modRoom r f = s.modRoom r g := congrArg (fun p => { s with rooms := tset s.rooms r p }) same

theorem State.modCoil_congr {c : CoilIx} {f g : Coil → Coil} (same : f (s.coil c) = g (s.coil c)) :
    s.modCoil c f = s.modCoil c g := congrArg (fun k => { s with coils := tset s.coils c k }) same

end

/-! ## Records over ports -/

section
variable {s t u p : State}

theorem LinkAgrees.modRoom (h : LinkAgrees u s) (r : RoomIx) (f : Room → Room) : LinkAgrees (u.modRoom r f) s :=
  ⟨h.strap, h.count, h.addresses⟩

theorem LinkAgrees.modZone (h : LinkAgrees u s) (z : ZoneIx) (f : Zone → Zone) : LinkAgrees (u.modZone z f) s :=
  ⟨h.strap, h.count, h.addresses⟩

theorem LinkAgrees.modDock (h : LinkAgrees u s) (i : DockIx) (f : Dock → Dock) : LinkAgrees (u.modDock i f) s :=
  ⟨h.strap, h.count, h.addresses⟩

theorem State.modRoom_withPorts (r : RoomIx) (f : Room → Room) :
    (u.withPorts p).modRoom r f = (u.modRoom r f).withPorts p := rfl

theorem State.modCoil_withPorts (c : CoilIx) (f : Coil → Coil) :
    (u.withPorts p).modCoil c f = (u.modCoil c f).withPorts p := rfl

theorem State.modZone_withPorts (z : ZoneIx) (f : Zone → Zone) :
    (u.withPorts p).modZone z f = (u.modZone z f).withPorts p := rfl

theorem originate_modRoom (r : RoomIx) (f : Room → Room) (o : OrigObj) (kind : Byte) (b : List Byte) (s : State) :
    originate o kind b (s.modRoom r f) = (s.modRoom r f).withPorts (originate o kind b s) :=
  originate_withPorts ((LinkAgrees.refl s).modRoom r f) o kind b

theorem originate_modCoil (c : CoilIx) (f : Coil → Coil) (o : OrigObj) (kind : Byte) (b : List Byte) (s : State) :
    originate o kind b (s.modCoil c f) = (s.modCoil c f).withPorts (originate o kind b s) :=
  originate_withPorts ((LinkAgrees.refl s).modCoil c f) o kind b

/-- The records set over a state that differs in its ports. -/
theorem SameUnits.set_rooms (h : SameUnits s t) (rooms : Vector Room 7) :
    { t with rooms := rooms } = ({ s with rooms := rooms } : State).withPorts t := by
  conv_lhs => rw [← h.withPorts]
  rfl

theorem SameUnits.set_coils (h : SameUnits s t) (coils : Vector Coil 16) :
    { t with coils := coils } = ({ s with coils := coils } : State).withPorts t := by
  conv_lhs => rw [← h.withPorts]
  rfl

end

section
variable {s : State}

theorem whenDue_of_due {timer : Timer} (act : State → State) (due : timer = some 0) : whenDue timer act s = act s :=
  if_pos due

theorem whenDue_of_not_due {timer : Timer} (act : State → State) (early : timer ≠ some 0) :
    whenDue timer act s = s := if_neg early

/-! ## Probes -/

theorem passProbe_of_zone {i : ProbeIx} {z : ZoneIx} (binding : (s.probe i).binding = .zone z) :
    passProbe i s = recomputeZone z s := by
  rw [passProbe]
  simp only [binding]

theorem passProbe_of_coil {i : ProbeIx} {c : CoilIx} (binding : (s.probe i).binding = .coil c) :
    passProbe i s = handProbeReading c (s.probe i).state (readingValue (s.probe i)) s := by
  rw [passProbe]
  simp only [binding]

/-- A probe reading that is not usable gives the coil no new temperature: it ends no phase (R57, R109). -/
theorem handProbeReading_of_unusable {c : CoilIx} {st : ProbeState} {value : Option Int} (unusable : st.usable = false) :
    handProbeReading c st value s = s.modCoil c fun k => { k with probeState := st, probeValue := value } := by
  have quiet : ¬((coilTemp? (s.modCoil c fun k => { k with probeState := st, probeValue := value }) c).isSome
      && coilTemp? (s.modCoil c fun k => { k with probeState := st, probeValue := value }) c != coilTemp? s c)
        = true := by
    have bound : hasProbe (s.modCoil c fun k => { k with probeState := st, probeValue := value }) c = hasProbe s c := rfl
    cases probe : hasProbe s c <;> simp [coilTemp?, bound, probe, unusable]
  exact if_neg quiet

/-- What a stale probe hands on: the notice first, then the probe's record as it stands (R55). Log entry 36. -/
def staleTold (p : ProbeIx) (s : State) : State :=
  raiseNotice .probeStale (.probe p)
    (match (s.probe p).lastSample with
    | some t => t
    | none => 0xFFFFFFFF#32)
    { s with probes := tset s.probes p { s.probe p with state := .stale, staleTimer := none } }

theorem expireStaleness_eq (p : ProbeIx) (s : State) : expireStaleness p s = passProbe p (staleTold p s) := rfl

theorem staleTold_probe (p : ProbeIx) (s : State) :
    (staleTold p s).probe p = { s.probe p with state := .stale, staleTimer := none } := by
  rw [State.probe, staleTold, (raiseNotice_portStep ..).units.probes]
  exact tget_tset_self ..

theorem staleTold_eq (p : ProbeIx) (s : State) :
    staleTold p s = ({ s with
      probes := tset s.probes p { s.probe p with state := .stale, staleTimer := none } } : State).withPorts
        (raiseNotice .probeStale (.probe p)
          (match (s.probe p).lastSample with
          | some t => t
          | none => 0xFFFFFFFF#32) s) :=
  raiseNotice_withPorts (u := { s with
    probes := tset s.probes p { s.probe p with state := .stale, staleTimer := none } }) (s := s)
    ⟨rfl, rfl, fun _ _ => rfl⟩ _ _ _

/-- The coil's probe reading becomes STALE without a value, and nothing else of the coil changes (R57). -/
theorem expireStaleness_of_coil {p : ProbeIx} {c : CoilIx} (binding : (s.probe p).binding = .coil c) :
    expireStaleness p s = { raiseNotice .probeStale (.probe p)
        (match (s.probe p).lastSample with
        | some t => t
        | none => 0xFFFFFFFF#32) s with
      probes := tset s.probes p { s.probe p with state := .stale, staleTimer := none }
      coils := tset s.coils c { s.coil c with probeState := .stale, probeValue := none } } := by
  have probe := staleTold_probe p s
  have value : readingValue { s.probe p with state := .stale, staleTimer := none } = none := rfl
  rw [expireStaleness_eq, passProbe_of_coil (by rw [probe]; exact binding), probe, value,
    handProbeReading_of_unusable rfl, staleTold_eq]
  have units : SameUnits s (raiseNotice .probeStale (.probe p)
      (match (s.probe p).lastSample with
      | some t => t
      | none => 0xFFFFFFFF#32) s) := (raiseNotice_portStep ..).units
  conv_rhs => rw [← units.withPorts]
  rfl

/-! ## Portals -/

theorem enterDock_of_stopped {p : DockIx} {st : DockState} (moved : st ≠ (s.dock p).state) :
    enterDock p st (s.modDock p fun d => { d with sealTimer := none })
      = s.modDock p fun d => { d with state := st, sealTimer := none } := by
  rw [enterDock, State.modDock_modDock]
  exact State.modDock_congr (by simp [moved])

theorem expireSeal_of_inflating {p : DockIx} (inflating : (s.dock p).state = .inflating) :
    expireSeal p s = raiseNotice .inflateTimeout (.portal (dockPortal p)) (noticeNat (s.dock p).pressureOr0)
      (s.modDock p fun d => { d with state := .idle, sealTimer := none }) := by
  unfold expireSeal
  simp only [inflating]
  rw [enterDock_of_stopped (by rw [inflating]; decide)]

theorem expireSeal_of_deflating {p : DockIx} (deflating : (s.dock p).state = .deflating) :
    expireSeal p s = raiseNotice .deflateTimeout (.portal (dockPortal p)) (noticeNat (s.dock p).pressureOr0)
      (s.modDock p fun d => { d with state := .idle, sealTimer := none }) := by
  unfold expireSeal
  simp only [deflating]
  rw [enterDock_of_stopped (by rw [deflating]; decide)]

theorem expireDoor_of_asked {r : RoomIx} {a : Action} (asked : (s.room r).request.action = some a) :
    expireDoor r s = raiseNotice .doorTimeout (.portal (roomPortal r)) (noticeNat a.code)
      { s with rooms := tset s.rooms r { s.room r with doorTimer := none } } := by
  have record : (s.modRoom r fun p => { p with doorTimer := none }).room r = { s.room r with doorTimer := none } :=
    tget_tset_self ..
  unfold expireDoor
  dsimp only
  rw [record]
  simp only [asked]
  rfl

/-- The hold-open timer closes a door that the part opened (R89). -/
def Room.partOpen (p : Room) : Prop := (p.state = .opened ∨ p.state = .opening) ∧ p.openedBy = .part

theorem expireHoldOpen_of_kept {r : RoomIx} (kept : ¬(s.room r).partOpen) :
    expireHoldOpen r s = { s with rooms := tset s.rooms r { s.room r with holdOpenTimer := none } } := by
  have record : (s.modRoom r fun p => { p with holdOpenTimer := none }).room r
      = { s.room r with holdOpenTimer := none } := tget_tset_self ..
  unfold expireHoldOpen
  dsimp only
  rw [record]
  exact if_neg kept

theorem expireHoldOpen_of_open {r : RoomIx} (closes : (s.room r).partOpen) :
    expireHoldOpen r s
      = { originate (.door r) 0x20#8 [1#8, Config.doorArgument]
            { s with rooms := tset s.rooms r { s.room r with holdOpenTimer := none } } with
          rooms := tset s.rooms r { s.room r with
            holdOpenTimer := none, request := .closing, doorTimer := some (s.room r).openTime, state := .closing } } := by
  have record : (s.modRoom r fun p => { p with holdOpenTimer := none }).room r
      = { s.room r with holdOpenTimer := none } := tget_tset_self ..
  have closed : expireHoldOpen r s
      = (originateDoor r .doorClose (s.modRoom r fun p => { p with holdOpenTimer := none })).modRoom r fun p =>
          { p with request := .closing, doorTimer := some p.openTime, state := .closing } := by
    unfold expireHoldOpen
    dsimp only
    rw [record]
    exact if_pos closes
  have units : SameUnits (s.modRoom r fun p => { p with holdOpenTimer := none })
      (originate (.door r) 0x20#8 [1#8, Config.doorArgument] (s.modRoom r fun p => { p with holdOpenTimer := none })) :=
    (originate_portStep ..).units
  rw [closed, originateDoor, originate_modRoom, State.modRoom_withPorts, State.modRoom_modRoom]
  refine Eq.trans ?_ (units.set_rooms _).symm
  rw [originate_modRoom]
  rfl

end

/-- Settles O50: each timer's expiry, by what it finds; a timer that is not at 0 does nothing. -/
theorem probeAndPortalTimersExpire : Obligations.ProbeAndPortalTimersExpire := by
  refine ⟨⟨fun s p early => ?_, fun s p z due binding => ?_, fun s p c due binding => ?_, fun s z early => ?_,
    fun s z due => ?_⟩, fun s p r => ⟨fun early => ?_, fun early => ?_, fun early => ?_⟩, fun s p due => ?_,
    fun s r due => ?_, fun s r due => ?_⟩
  · exact congrArg _ (whenDue_of_not_due _ early)
  · refine congrArg _ ((whenDue_of_due _ due).trans ?_)
    rw [expireStaleness_eq, passProbe_of_zone (by rw [staleTold_probe]; exact binding)]
    rfl
  · exact congrArg _ ((whenDue_of_due _ due).trans (expireStaleness_of_coil binding))
  · exact congrArg _ (whenDue_of_not_due _ early)
  · exact congrArg _ (whenDue_of_due _ due)
  · exact congrArg _ (whenDue_of_not_due _ early)
  · exact congrArg _ (whenDue_of_not_due _ early)
  · exact congrArg _ (whenDue_of_not_due _ early)
  · exact ⟨fun inflating => congrArg _ ((whenDue_of_due _ due).trans (expireSeal_of_inflating inflating)),
      fun deflating => congrArg _ ((whenDue_of_due _ due).trans (expireSeal_of_deflating deflating))⟩
  · exact ⟨fun opening => congrArg _ ((whenDue_of_due _ due).trans (expireDoor_of_asked (by rw [opening]; rfl))),
      fun closing => congrArg _ ((whenDue_of_due _ due).trans (expireDoor_of_asked (by rw [closing]; rfl)))⟩
  · exact ⟨fun kept => congrArg _ ((whenDue_of_due _ due).trans (expireHoldOpen_of_kept kept)),
      fun closes => congrArg _ ((whenDue_of_due _ due).trans (expireHoldOpen_of_open closes))⟩

end Sys2Proof.Machine
end

section
/-! SUPPORT. The phases of a defrost (R107 to R113): what each entry does to the records and what it tells, the course
of a coil that defrosts alone in its zone, with the statement O52. -/

namespace Sys2Proof.Machine

/-! ## Operations of the ports and changes of the records -/

/-- An operation of the ports: it leaves the records alone, and does the same to the ports whatever the records hold. -/
structure PortOp (q : State → State) : Prop where
  units : ∀ s, SameUnits s (q s)
  acts : ∀ u s, LinkAgrees u s → q (u.withPorts s) = u.withPorts (q s)

theorem portOp_raiseNotice (k : NoticeKind) (o : NoticeObj) (v : Quad) : PortOp (raiseNotice k o v) :=
  ⟨fun _ => (raiseNotice_portStep ..).units, fun _ _ agree => raiseNotice_withPorts agree k o v⟩

theorem portOp_originate (o : OrigObj) (kind : Byte) (b : List Byte) : PortOp (originate o kind b) :=
  ⟨fun _ => (originate_portStep ..).units, fun _ _ agree => originate_withPorts agree o kind b⟩

theorem portOp_joinRefusal (f : Frame) : PortOp (joinRefusal f) where
  units s := (joinRefusal_portStep f s).units
  acts u s agree := by
    unfold joinRefusal
    have same : refusalCount (u.withPorts s) = refusalCount s := rfl
    rw [same]
    split
    · rfl
    · exact kickTrunk_withPorts (s := { s with answers := s.answers ++ [.refusal f] })
        ⟨agree.strap, agree.count, agree.addresses⟩

theorem portOp_foldl {α : Type} {q : State → α → State} (each : ∀ a, PortOp fun s => q s a) (l : List α) :
    PortOp fun s => l.foldl q s where
  units s := foldl_sameUnits (fun p a => (each a).units p) l s
  acts u s agree := by
    induction l generalizing s with
    | nil => rfl
    | cons a l ih =>
      rw [List.foldl_cons, List.foldl_cons, (each a).acts u s agree]
      exact ih _ (agree.of_sameUnits ((each a).units s))

theorem portOp_withdrawCommands (r : RoomIx) (a : Action) (why : GateReason) : PortOp (withdrawCommands r a why) where
  units _ := (withdrawCommands_portStep ..).units
  acts u s agree := by
    have address : (u.withPorts s).address = s.address := congrArg (fun k : Fin 8 => 0xF0#8 + byteOf k.val) agree.strap
    rw [withdrawCommands_eq, withdrawCommands_eq, address]
    exact (portOp_foldl (q := fun t f => joinRefusal f t) portOp_joinRefusal _).acts u
      { s with forwarded := s.forwarded.filter fun w => !w.isCommand r a } ⟨agree.strap, agree.count, agree.addresses⟩

section
variable {q : State → State} (h : PortOp q) (s : State)
include h

theorem PortOp.set_coils (coils : Vector Coil 16) : q { s with coils := coils } = { q s with coils := coils } :=
  (h.acts { s with coils := coils } s ⟨rfl, rfl, fun _ _ => rfl⟩).trans ((h.units s).set_coils coils).symm

theorem PortOp.set_rooms (rooms : Vector Room 7) : q { s with rooms := rooms } = { q s with rooms := rooms } :=
  (h.acts { s with rooms := rooms } s ⟨rfl, rfl, fun _ _ => rfl⟩).trans ((h.units s).set_rooms rooms).symm

theorem PortOp.set_zones (zones : Vector Zone 8) : q { s with zones := zones } = { q s with zones := zones } := by
  refine (h.acts { s with zones := zones } s ⟨rfl, rfl, fun _ _ => rfl⟩).trans ?_
  conv_rhs => rw [← (h.units s).withPorts]
  rfl

theorem PortOp.modCoil (c : CoilIx) (f : Coil → Coil) : q (s.modCoil c f) = (q s).modCoil c f := by
  rw [State.modCoil, State.modCoil, (h.units s).coils]
  exact h.set_coils s _

theorem PortOp.modRoom (r : RoomIx) (f : Room → Room) : q (s.modRoom r f) = (q s).modRoom r f := by
  rw [State.modRoom, State.modRoom, (h.units s).rooms]
  exact h.set_rooms s _

theorem PortOp.modZone (z : ZoneIx) (f : Zone → Zone) : q (s.modZone z f) = (q s).modZone z f := by
  rw [State.modZone, State.modZone, (h.units s).zones]
  exact h.set_zones s _

theorem PortOp.coil (c : CoilIx) : (q s).coil c = s.coil c := congrArg (tget · c) (h.units s).coils

theorem PortOp.room (r : RoomIx) : (q s).room r = s.room r := congrArg (tget · r) (h.units s).rooms

theorem PortOp.zone (z : ZoneIx) : (q s).zone z = s.zone z := congrArg (tget · z) (h.units s).zones

end

theorem State.modCoil_of_kept {s : State} {c : CoilIx} {f : Coil → Coil} (kept : f (s.coil c) = s.coil c) :
    s.modCoil c f = s := by
  rw [State.modCoil, tmod, ← State.coil, kept, State.coil, tset_tget]

/-! ## The entry of a phase (R108 to R111, R113) -/

section
variable {s : State} {c : CoilIx}

theorem portOp_originateCoil (c : CoilIx) (p : CmdPhase) : PortOp (originateCoil c p) := portOp_originate ..

/-- The entry of a phase is its command over the record of the coil in it. -/
theorem entersPhase_eq (c : CoilIx) (p : CmdPhase) (phase : CoilPhase) (timer : Timer) (s : State) :
    entersPhase c p phase timer s = (originateCoil c p s).modCoil c fun k => k.commandedTo p phase timer := by
  have coils : (originateCoil c p s).coils = s.coils := (portOp_originateCoil c p).units s |>.coils
  rw [State.modCoil, tmod, coils]
  unfold entersPhase
  cases p <;> rfl

/-- A command and the change of the record that enters its phase are the entry of the phase. -/
theorem commandCoil_modCoil {p : CmdPhase} {phase : CoilPhase} {timer : Timer} {g : Coil → Coil}
    (record : g { s.coil c with commanded := p, notFollowing := false, followTimer := some (s.coil c).follow }
      = (s.coil c).commandedTo p phase timer) :
    (commandCoil c p s).modCoil c g = entersPhase c p phase timer s := by
  rw [commandCoil, State.modCoil_modCoil, entersPhase_eq]
  refine State.modCoil_congr ?_
  rw [(portOp_originateCoil c p).coil]
  exact record

/-- The record may enter the phase before the command is sent. -/
theorem commandCoil_of_entered {p : CmdPhase} {f : Coil → Coil} {phase : CoilPhase} {timer : Timer}
    (record : ({ f (s.coil c) with
        commanded := p, notFollowing := false, followTimer := some (f (s.coil c)).follow } : Coil)
      = (s.coil c).commandedTo p phase timer) :
    commandCoil c p (s.modCoil c f) = entersPhase c p phase timer s := by
  rw [commandCoil, (portOp_originateCoil c p).modCoil, State.modCoil_modCoil, entersPhase_eq]
  refine State.modCoil_congr ?_
  rw [(portOp_originateCoil c p).coil]
  exact record

section
variable (p : CmdPhase) (phase : CoilPhase) (timer : Timer) (d : CoilIx)

theorem entersPhase_coil :
    (entersPhase c p phase timer s).coil d = if c = d then (s.coil c).commandedTo p phase timer else s.coil d := by
  rw [entersPhase_eq, State.coil_modCoil, (portOp_originateCoil c p).coil, (portOp_originateCoil c p).coil]

theorem entersPhase_coil_self : (entersPhase c p phase timer s).coil c = (s.coil c).commandedTo p phase timer := by
  rw [entersPhase_coil, if_pos rfl]

theorem entersPhase_coil_ne {d : CoilIx} (ne : d ≠ c) : (entersPhase c p phase timer s).coil d = s.coil d := by
  rw [entersPhase_coil, if_neg ne.symm]

/-- The entry of a phase leaves every record but its coil's. -/
theorem entersPhase_units :
    SameUnits (s.modCoil c fun k => k.commandedTo p phase timer) (entersPhase c p phase timer s) := by
  rw [entersPhase_eq, ← (portOp_originateCoil c p).modCoil]
  exact (portOp_originateCoil c p).units _

theorem entersPhase_zones : (entersPhase c p phase timer s).zones = s.zones := (entersPhase_units ..).zones

theorem entersPhase_rooms : (entersPhase c p phase timer s).rooms = s.rooms := (entersPhase_units ..).rooms

theorem entersPhase_count : (entersPhase c p phase timer s).count = s.count := (entersPhase_units ..).count

/-- The entry of a phase overwrites what an earlier handling left in the phase and its timer. -/
theorem entersPhase_modCoil {f : Coil → Coil}
    (record : (f (s.coil c)).commandedTo p phase timer = (s.coil c).commandedTo p phase timer) :
    entersPhase c p phase timer (s.modCoil c f) = entersPhase c p phase timer s := by
  rw [entersPhase_eq, entersPhase_eq, (portOp_originateCoil c p).modCoil, State.modCoil_modCoil]
  refine State.modCoil_congr ?_
  rw [(portOp_originateCoil c p).coil]
  exact record

end

end

/-! ## The coil temperature (R98, R109, R111) -/

section
variable {s t : State} {c : CoilIx}

theorem fanDone_eq (s : State) (c : CoilIx) :
    fanDone s c = (coilTemp? s c).any fun x => decide (x ≤ (s.coil c).fanTemp) := by
  unfold fanDone
  cases coilTemp? s c <;> rfl

theorem heatDone_eq (s : State) (c : CoilIx) :
    heatDone s c = (coilTemp? s c).any fun x => decide ((s.coil c).terminate ≤ x) := by
  unfold heatDone
  cases coilTemp? s c <;> rfl

/-- The fields of a coil that its temperature is read from. -/
def Coil.tempSources (k : Coil) : ProbeState × Option Int × ReportedState × Option Int :=
  (k.probeState, k.probeValue, k.reported, k.reportedValue)

theorem coilTemp?_congr (probes : t.probes = s.probes) (sources : (t.coil c).tempSources = (s.coil c).tempSources) :
    coilTemp? t c = coilTemp? s c := by
  obtain ⟨state, value, reported, reportedValue⟩ :
      (t.coil c).probeState = (s.coil c).probeState ∧ (t.coil c).probeValue = (s.coil c).probeValue
        ∧ (t.coil c).reported = (s.coil c).reported ∧ (t.coil c).reportedValue = (s.coil c).reportedValue := by
    simpa [Coil.tempSources] using sources
  have bound : hasProbe t c = hasProbe s c := by rw [hasProbe, hasProbe, probes]
  simp only [coilTemp?, bound, state, value, reported, reportedValue]

theorem coilTemp?_entersPhase (p : CmdPhase) (phase : CoilPhase) (timer : Timer) (d : CoilIx) :
    coilTemp? (entersPhase c p phase timer s) d = coilTemp? s d := by
  refine coilTemp?_congr (entersPhase_units ..).probes ?_
  rw [entersPhase_coil]
  split
  · next same => subst same; rfl
  · rfl

end

/-! ## A selection that comes to nothing (R102 to R104) -/

/-- Every coil of the zone is masked, waits for its spacing, or wants no defrost. -/
def Resting (s : State) (z : ZoneIx) : Prop :=
  ∀ d, InZone s z d →
    (s.coil d).mask = true ∨ (s.coil d).spacingTimer ≠ none ∨ (s.coil d).wants (s.zone z).quiet = false

section
variable {s : State} {z : ZoneIx}

theorem selectStaggered_of_resting (rest : Resting s z) : selectStaggered z s = (s, false) := by
  have nobody : ((pointerOrder s z).find? fun c => (s.coil c).eligible (s.zone z).quiet) = none := by
    refine List.find?_eq_none.mpr fun c mem => ?_
    rcases rest c (mem_zoneCoils.mp (mem_zoneCoils_of_pointerOrder mem)) with masked | spacing | content
    · simp [Coil.eligible, masked]
    · simp [Coil.eligible, spacing]
    · simp [Coil.eligible, content]
  simp [selectStaggered, nobody]

theorem selectAll_of_resting (rest : Resting s z) : selectAll z s = (s, false) := by
  refine if_neg fun ready => ?_
  simp only [Bool.and_eq_true, List.all_eq_true, List.any_eq_true, List.mem_filter, mem_zoneCoils,
    Bool.not_eq_true'] at ready
  obtain ⟨⟨spaced, -⟩, c, ⟨inZone, open_⟩, wants⟩ := ready
  rcases rest c inZone with masked | spacing | content
  · exact Bool.false_ne_true (open_.symm.trans masked)
  · exact spacing (by simpa using (spaced c ⟨inZone, open_⟩).2)
  · exact Bool.false_ne_true (content.symm.trans wants)

theorem selectOnce_of_resting (rest : Resting s z) : selectOnce z s = (s, false) := by
  unfold selectOnce
  split
  · split
    · exact selectStaggered_of_resting rest
    · exact selectAll_of_resting rest
  · rfl

/-- No coil of the zone waits for the hold. -/
def NobodyWaits (s : State) (z : ZoneIx) : Prop := ∀ d, InZone s z d → (s.coil d).phase ≠ .portalWait

theorem anyWaiting_eq_false (nobody : NobodyWaits s z) : anyWaiting s z = false :=
  List.any_eq_false.mpr fun d mem => by simpa using nobody d (mem_zoneCoils.mp mem)

theorem renewHold_of_nobody (nobody : NobodyWaits s z) : renewHold z s = s := by
  unfold renewHold
  split
  · rfl
  · exact if_neg fun due => Bool.false_ne_true ((anyWaiting_eq_false nobody).symm.trans due.2)

/-- Nothing more is called for in the zone: no coil waits for the hold, and none starts a defrost. -/
def AtRest (s : State) (z : ZoneIx) : Prop := NobodyWaits s z ∧ Resting s z

theorem thenSelect_of_rest {p : State × Bool} {t : State} (is : p.1 = t) (rest : p.2 = true → AtRest t z) :
    thenSelect z p = t := by
  unfold thenSelect
  split
  · next due =>
    obtain ⟨nobody, resting⟩ := rest due
    rw [is, renewHold_of_nobody nobody, selectZone_of_not_due (selectOnce_of_resting resting)]
  · exact is

end

/-! ## The end of FAN_DELAY (R111, R112) -/

section
variable {s t : State} {c : CoilIx} {z : ZoneIx}

/-- DEFROST_END with the owed count of a completed record (R111). -/
def tellEnd (k : Coil) (c : CoilIx) : State → State := raiseNotice .defrostEnd (.coil c) (BitVec.ofInt 32 k.owed)

/-- The completion of a coil that leaves its group, or has none (R111, R112). -/
theorem completeCoil_modCoil :
    completeCoil c (s.modCoil c fun k => { k with group := false })
      = tellEnd ((s.coil c).completedAt s.count) c (s.modCoil c fun k => k.completedAt s.count) := by
  have forced (old : Bool) (limit owed : Int) :
      (if owed < limit then false else old) = (old && decide (limit ≤ owed)) := by
    by_cases below : owed < limit
    · simp [below]
    · simp [below, not_lt.mp below]
  unfold completeCoil tellEnd
  dsimp only
  simp only [forced, State.modCoil_modCoil, State.coil_modCoil_self]
  rfl

theorem otherDefrosting_eq_false
    (cool : ∀ d, d ≠ c → InZone s z d → (s.coil d).phase = .cool) : otherDefrosting s z c = false := by
  refine List.any_eq_false.mpr fun d mem => ?_
  by_cases same : d = c
  · simp [same]
  · simp [cool d same (mem_zoneCoils.mp mem), CoilPhase.underHold]

theorem reportCompletion_of_last (alone : otherDefrosting s z c = false) :
    reportCompletion z c s = s.modZone z Zone.recovers := by
  unfold reportCompletion
  rw [alone]
  rfl

theorem reportCompletion_of_others (others : otherDefrosting s z c = true) : reportCompletion z c s = s := if_pos others

/-- FAN_DELAY ends with the entry of COOL, and the report of it to the allowance window (R63, R111). -/
theorem endFanDelay_eq (c : CoilIx) (s : State) :
    endFanDelay c s
      = let u := reportCompletion (s.coil c).zone c (entersPhase c .cool .cool none s)
        if (u.coil c).group then
          if (groupMembers u (s.coil c).zone).all fun d => (u.coil d).phase == .cool then
            (forEach (groupMembers u (s.coil c).zone)
              (fun d s => completeCoil d (s.modCoil d fun k => { k with group := false })) u, true)
          else (u, false)
        else (completeCoil c u, true) := by
  have entered : (commandCoil c .cool s).modCoil c (fun k => { k with phase := .cool, phaseTimer := none })
      = entersPhase c .cool .cool none s := commandCoil_modCoil rfl
  rw [← entered]
  rfl

end

/-! ## A coil that defrosts alone in its zone (R108 to R111) -/

section
variable {s t : State} {c : CoilIx} {rooms : Vector Room 7}

/-- A change that leaves the other coils, and of this one what makes it alone. -/
theorem CoilAlone.of_kept (alone : CoilAlone s c) (others : ∀ d, d ≠ c → t.coil d = s.coil d)
    (group : (t.coil c).group = (s.coil c).group) (mask : (t.coil c).mask = (s.coil c).mask)
    (minSpacing : (t.coil c).minSpacing = (s.coil c).minSpacing) (zone : (t.coil c).zone = (s.coil c).zone) :
    CoilAlone t c := by
  obtain ⟨single, paused, resting⟩ := alone
  refine ⟨group.trans single, by rwa [mask, minSpacing], fun d other loaded sameZone => ?_⟩
  rw [others d other] at loaded sameZone ⊢
  exact resting d other loaded (sameZone.trans zone)

theorem CoilAlone.after_entry (alone : CoilAlone s c) (p : CmdPhase) (phase : CoilPhase) (timer : Timer) :
    CoilAlone (entersPhase c p phase timer s) c := by
  have self := entersPhase_coil_self (s := s) (c := c) p phase timer
  exact alone.of_kept (fun d other => entersPhase_coil_ne p phase timer other) (by rw [self]; rfl) (by rw [self]; rfl)
    (by rw [self]; rfl) (by rw [self]; rfl)

theorem CoilAlone.others_cool (alone : CoilAlone s c) {d : CoilIx} (other : d ≠ c)
    (here : InZone s (s.coil c).zone d) : (s.coil d).phase = .cool :=
  have ⟨_, _, resting⟩ := alone
  have ⟨_, cool, _⟩ := resting d other here.1 here.2
  cool

/-- A coil alone leaves nothing to do once it is back in COOL, its spacing started. -/
theorem CoilAlone.atRest (alone : CoilAlone s c) (cool : (s.coil c).phase = .cool)
    (spaced : (s.coil c).minSpacing ≠ 0 → (s.coil c).spacingTimer ≠ none) : AtRest s (s.coil c).zone := by
  obtain ⟨-, paused, resting⟩ := alone
  constructor
  · intro d here
    by_cases same : d = c
    · rw [same, cool]
      decide
    · rw [(resting d same here.1 here.2).2.1]
      decide
  · intro d here
    by_cases same : d = c
    · rw [same]
      exact paused.imp_right fun spacing => .inl (spaced spacing)
    · exact .inl (resting d same here.1 here.2).1

theorem Coil.completedAt_group (k : Coil) (now : Quad) : (k.completedAt now).group = false := rfl

theorem Coil.completedAt_spacing (k : Coil) (now : Quad) (spacing : k.minSpacing ≠ 0) :
    (k.completedAt now).spacingTimer ≠ none := by
  simp [Coil.completedAt, spacing]

/-- The completion of a coil alone, as changes of its records. -/
theorem completesAlone_eq (c : CoilIx) (s : State) : completesAlone c s
    = tellEnd (((s.coil c).commandedTo .cool .cool none).completedAt s.count) c
        (((entersPhase c .cool .cool none s).modZone (s.coil c).zone Zone.recovers).modCoil c
          fun k => k.completedAt s.count) := by
  have self : tget (entersPhase c .cool .cool none s).coils c = _ := entersPhase_coil_self .cool .cool none
  unfold completesAlone tellEnd
  simp only [State.modZone, State.modCoil, tmod, State.coil, entersPhase_zones, self]
  rfl

theorem completesAlone_coil (d : CoilIx) : (completesAlone c s).coil d
    = if c = d then ((s.coil c).commandedTo .cool .cool none).completedAt s.count else s.coil d := by
  rw [completesAlone_eq, tellEnd, (portOp_raiseNotice ..).coil, State.coil_modCoil, State.modZone_coil,
    State.modZone_coil, entersPhase_coil_self]
  split
  · rfl
  · next other => exact entersPhase_coil_ne _ _ _ (Ne.symm other)

theorem completesAlone_coil_self :
    (completesAlone c s).coil c = ((s.coil c).commandedTo .cool .cool none).completedAt s.count :=
  completesAlone_coil c |>.trans (if_pos rfl)

theorem CoilAlone.completesAlone_atRest (alone : CoilAlone s c) : AtRest (completesAlone c s) (s.coil c).zone := by
  have self := completesAlone_coil_self (s := s) (c := c)
  have single := alone.1
  have after : CoilAlone (completesAlone c s) c := by
    refine alone.of_kept (fun d other => (completesAlone_coil d).trans (if_neg other.symm)) ?_ ?_ ?_ ?_
    · rw [self, single, Coil.completedAt_group]
    · rw [self]; rfl
    · rw [self]; rfl
    · rw [self]; rfl
  have zone : ((completesAlone c s).coil c).zone = (s.coil c).zone := by rw [self]; rfl
  rw [← zone]
  refine after.atRest ?_ fun spacing => ?_
  · rw [self]; rfl
  · rw [self] at spacing ⊢
    exact Coil.completedAt_spacing _ _ spacing

/-- FAN_DELAY of a coil that defrosts alone ends in its completion (R111). -/
theorem endFanDelay_of_alone (alone : CoilAlone s c) : endFanDelay c s = (completesAlone c s, true) := by
  have self := entersPhase_coil_self (s := s) (c := c) .cool .cool none
  have zone : ((entersPhase c .cool .cool none s).coil c).zone = (s.coil c).zone := by rw [self]; rfl
  have last : reportCompletion (s.coil c).zone c (entersPhase c .cool .cool none s)
      = (entersPhase c .cool .cool none s).modZone (s.coil c).zone Zone.recovers := by
    refine reportCompletion_of_last (otherDefrosting_eq_false fun d other here => ?_)
    exact (alone.after_entry ..).others_cool other (zone.symm ▸ here)
  have ungrouped : ((entersPhase c .cool .cool none s).modZone (s.coil c).zone Zone.recovers).modCoil c
        (fun k => { k with group := false })
      = (entersPhase c .cool .cool none s).modZone (s.coil c).zone Zone.recovers := by
    refine State.modCoil_of_kept ?_
    rw [State.modZone_coil, self]
    exact congrArg (fun group => { (s.coil c).commandedTo .cool .cool none with group := group }) alone.1.symm
  have count : (entersPhase c .cool .cool none s).count = s.count := entersPhase_count ..
  rw [endFanDelay_eq]
  dsimp only
  rw [last, State.modZone_coil, self, if_neg, ← ungrouped, completeCoil_modCoil, completesAlone_eq, State.modZone_coil,
    State.modZone_count, count, self]
  exact ne_true_of_eq_false alone.1

end

/-! ## The end of DRIP (R110) -/

/-- What the end of DRIP does to the hold of its room, if the zone has one. -/
def releasedAt (room? : Option RoomIx) (due : Bool) (s : State) : State :=
  match room? with
  | some r => if due then releaseHold r s else s
  | none => s

section
variable {s t : State} {c : CoilIx} {r : RoomIx} {rooms : Vector Room 7}

theorem releaseHold_of_unset (unset : (s.room r).hold ≠ .set) : releaseHold r s = s := if_neg unset

/-- A SET hold at whose door nobody waits becomes CLEAR (R92). -/
theorem releaseHold_of_nobody (set : (s.room r).hold = .set) (nobody : (s.room r).waiting = []) :
    releaseHold r s = s.modRoom r Room.unheld := by
  unfold releaseHold
  rw [if_pos set]
  unfold grantWaiting
  rw [State.room_modRoom_self, nobody]
  rfl

/-- The release of a hold at whose door nobody waits changes the rooms alone (R92, R110). -/
theorem HoldReleased.releasedAt {z : ZoneIx} (released : HoldReleased s z rooms) :
    releasedAt (zoneRoom? z) true s = { s with rooms := rooms } := by
  rcases released with ⟨rfl, rfl⟩ | ⟨r, rfl, nobody, unset, set⟩
  · rfl
  · rw [zoneRoom?_roomZone]
    show releaseHold r s = _
    by_cases held : (s.room r).hold = .set
    · rw [releaseHold_of_nobody held nobody, set held]
      rfl
    · rw [releaseHold_of_unset held, unset held]

/-- A coil's end of DRIP, by what the release of the hold leaves. -/
theorem enterFanDelay_of_released
    (released : releasedAt (zoneRoom? (s.coil c).zone) (releasesHold s c)
        (s.modCoil c fun k => { k with phase := .fanDelay, phaseTimer := some k.fanMax })
      = t.modCoil c fun k => { k with phase := .fanDelay, phaseTimer := some k.fanMax })
    (coils : t.coils = s.coils) (probes : t.probes = s.probes) :
    enterFanDelay c s
      = let u := entersPhase c .fanDelay .fanDelay (some (s.coil c).fanMax) t
        if (s.coil c).fanMax = 0 || (coilTemp? s c).any fun x => decide (x ≤ (s.coil c).fanTemp) then endFanDelay c u
        else (u, releasesHold s c && anyWaiting u (s.coil c).zone) := by
  have coil : t.coil c = s.coil c := congrArg (tget · c) coils
  have entered : commandCoil c .fanDelay
        (t.modCoil c fun k => { k with phase := .fanDelay, phaseTimer := some k.fanMax })
      = entersPhase c .fanDelay .fanDelay (some (s.coil c).fanMax) t := by
    rw [← coil]
    exact commandCoil_of_entered rfl
  have self := entersPhase_coil_self (s := t) (c := c) .fanDelay .fanDelay (some (s.coil c).fanMax)
  have done : fanDone (entersPhase c .fanDelay .fanDelay (some (s.coil c).fanMax) t) c
      = (coilTemp? s c).any fun x => decide (x ≤ (s.coil c).fanTemp) := by
    rw [fanDone_eq, coilTemp?_entersPhase, coilTemp?_congr probes (congrArg Coil.tempSources coil), self, coil]
    rfl
  have course : enterFanDelay c s
      = let u := commandCoil c .fanDelay (releasedAt (zoneRoom? (s.coil c).zone) (releasesHold s c)
          (s.modCoil c fun k => { k with phase := .fanDelay, phaseTimer := some k.fanMax }))
        if fanDone u c || (u.coil c).fanMax == 0 then endFanDelay c u
        else (u, releasesHold s c && anyWaiting u (s.coil c).zone) := rfl
  rw [course, released, entered]
  dsimp only
  rw [done, self, coil, Bool.or_comm]
  rfl

theorem any_eq_false_of_some {o : Option Int} {p : Int → Bool} (fails : ∀ x, o = some x → p x = false) :
    o.any p = false := by
  cases o with
  | none => rfl
  | some x => exact fails x rfl

/-- A coil that enters FAN_DELAY and stays in it, with nobody of its zone in PORTAL_WAIT. -/
theorem enterFanDelay_of_lasting
    (released : releasedAt (zoneRoom? (s.coil c).zone) (releasesHold s c)
        (s.modCoil c fun k => { k with phase := .fanDelay, phaseTimer := some k.fanMax })
      = t.modCoil c fun k => { k with phase := .fanDelay, phaseTimer := some k.fanMax })
    (coils : t.coils = s.coils) (probes : t.probes = s.probes) (lasting : (s.coil c).fanMax ≠ 0)
    (warm : ∀ x, coilTemp? s c = some x → (s.coil c).fanTemp < x) (nobody : NobodyWaits s (s.coil c).zone) :
    enterFanDelay c s = (entersPhase c .fanDelay .fanDelay (some (s.coil c).fanMax) t, false) := by
  have coil (d : CoilIx) : t.coil d = s.coil d := congrArg (tget · d) coils
  have stays : ((coilTemp? s c).any fun x => decide (x ≤ (s.coil c).fanTemp)) = false :=
    any_eq_false_of_some fun x temp => by simpa using warm x temp
  have still : NobodyWaits (entersPhase c .fanDelay .fanDelay (some (s.coil c).fanMax) t) (s.coil c).zone := by
    intro d here
    rw [InZone, entersPhase_coil] at here
    rw [entersPhase_coil]
    split at here
    · rw [if_pos ‹c = d›]
      exact CoilPhase.noConfusion
    · rw [if_neg ‹¬c = d›, coil]
      rw [coil] at here
      exact nobody d here
  rw [enterFanDelay_of_released released coils probes, stays]
  dsimp only
  rw [anyWaiting_eq_false still, Bool.and_false, Bool.or_false, if_neg (by simpa using lasting)]

/-! ## The course of a defrost (R108 to R111) -/

/-- An action of the zone's coils leads to a state, where nothing more is called for when it asks for a selection. -/
def Course (z : ZoneIx) (p : State × Bool) (t : State) : Prop := p.1 = t ∧ (p.2 = true → AtRest t z)

theorem Course.thenSelect {z : ZoneIx} {p : State × Bool} (course : Course z p t) : thenSelect z p = t :=
  thenSelect_of_rest course.1 course.2

theorem course_of_lasting (z : ZoneIx) (t : State) : Course z (t, false) t :=
  ⟨rfl, fun due => absurd due Bool.false_ne_true⟩

theorem CoilAlone.releasesHold_eq (alone : CoilAlone s c) : releasesHold s c = true := by
  have nobody : ((zoneCoils s (s.coil c).zone).any fun d => d != c && (s.coil d).phase.underHold) = false := by
    refine List.any_eq_false.mpr fun d mem => ?_
    by_cases same : d = c
    · simp [same]
    · simp [alone.others_cool same (mem_zoneCoils.mp mem), CoilPhase.underHold]
  rw [releasesHold, nobody]
  rfl

/-- A coil alone that is not in PORTAL_WAIT itself: nobody of its zone waits for the hold. -/
theorem CoilAlone.nobodyWaits (alone : CoilAlone s c) (here : (s.coil c).phase ≠ .portalWait) :
    NobodyWaits s (s.coil c).zone := by
  intro d inZone
  by_cases same : d = c
  · exact same ▸ here
  · rw [alone.others_cool same inZone]
    decide

theorem fansAlone_course (alone : CoilAlone s c) (released : HoldReleased s (s.coil c).zone rooms) :
    Course (s.coil c).zone (enterFanDelay c s) (fansAlone c rooms s) := by
  have freed : releasedAt (zoneRoom? (s.coil c).zone) (releasesHold s c)
        (s.modCoil c fun k => { k with phase := .fanDelay, phaseTimer := some k.fanMax })
      = ({ s with rooms := rooms } : State).modCoil c
          fun k => { k with phase := .fanDelay, phaseTimer := some k.fanMax } := by
    rw [alone.releasesHold_eq]
    exact HoldReleased.releasedAt (s := s.modCoil c _) released
  rw [enterFanDelay_of_released freed rfl rfl]
  have after : CoilAlone (entersPhase c .fanDelay .fanDelay (some (s.coil c).fanMax) { s with rooms := rooms }) c :=
    CoilAlone.after_entry (s := { s with rooms := rooms }) alone ..
  have self := entersPhase_coil_self (s := { s with rooms := rooms }) (c := c) .fanDelay .fanDelay
    (some (s.coil c).fanMax)
  have zone : ((entersPhase c .fanDelay .fanDelay (some (s.coil c).fanMax) { s with rooms := rooms }).coil c).zone
      = (s.coil c).zone := by rw [self]; rfl
  unfold fansAlone
  dsimp only
  split
  · rw [endFanDelay_of_alone after]
    exact ⟨rfl, fun _ => zone ▸ after.completesAlone_atRest⟩
  · have nobody := after.nobodyWaits (by rw [self]; exact CoilPhase.noConfusion)
    rw [zone] at nobody
    rw [anyWaiting_eq_false nobody, Bool.and_false]
    exact course_of_lasting ..

theorem enterDrip_eq (c : CoilIx) (s : State) :
    enterDrip c s
      = let u := entersPhase c .drip .drip (some (s.coil c).drip) s
        if (s.coil c).drip = 0 then enterFanDelay c u else (u, false) := by
  have self := entersPhase_coil_self (s := s) (c := c) .drip .drip (some (s.coil c).drip)
  have entered : (commandCoil c .drip s).modCoil c (fun k => { k with phase := .drip, phaseTimer := some k.drip })
      = entersPhase c .drip .drip (some (s.coil c).drip) s := commandCoil_modCoil rfl
  unfold enterDrip
  dsimp only
  rw [entered, self]
  rfl

theorem enterHeat_eq (c : CoilIx) (s : State) :
    enterHeat c s
      = let u := entersPhase c .heat .heat (some (s.coil c).maxHeat) s
        if (coilTemp? s c).any fun x => decide ((s.coil c).terminate ≤ x) then enterDrip c u else (u, false) := by
  have self := entersPhase_coil_self (s := s) (c := c) .heat .heat (some (s.coil c).maxHeat)
  have entered : (commandCoil c .heat s).modCoil c (fun k => { k with phase := .heat, phaseTimer := some k.maxHeat })
      = entersPhase c .heat .heat (some (s.coil c).maxHeat) s := commandCoil_modCoil rfl
  unfold enterHeat
  dsimp only
  rw [entered, heatDone_eq, coilTemp?_entersPhase, self]
  rfl

theorem enterDrip_of_lasting (lasting : (s.coil c).drip ≠ 0) :
    enterDrip c s = (entersPhase c .drip .drip (some (s.coil c).drip) s, false) := by
  rw [enterDrip_eq]
  exact if_neg lasting

theorem enterHeat_of_cold (cold : ((coilTemp? s c).any fun x => decide ((s.coil c).terminate ≤ x)) = false) :
    enterHeat c s = (entersPhase c .heat .heat (some (s.coil c).maxHeat) s, false) := by
  rw [enterHeat_eq]
  exact if_neg (ne_true_of_eq_false cold)

theorem HoldReleased.of_rooms {z : ZoneIx} (released : HoldReleased s z rooms) (same : t.rooms = s.rooms) :
    HoldReleased t z rooms := by
  unfold HoldReleased State.room at released ⊢
  rw [same]
  exact released

theorem HoldReleased.after_entry {z : ZoneIx} (released : HoldReleased s z rooms) (p : CmdPhase) (phase : CoilPhase)
    (timer : Timer) : HoldReleased (entersPhase c p phase timer s) z rooms := released.of_rooms (entersPhase_rooms ..)

theorem CoilAlone.of_coils (alone : CoilAlone s c) (same : t.coils = s.coils) : CoilAlone t c := by
  unfold CoilAlone State.coil at alone ⊢
  rw [same]
  exact alone

theorem dripsAlone_course (alone : CoilAlone s c) (released : HoldReleased s (s.coil c).zone rooms) :
    Course (s.coil c).zone (enterDrip c s) (dripsAlone c rooms s) := by
  have zone : ((entersPhase c .drip .drip (some (s.coil c).drip) s).coil c).zone = (s.coil c).zone := by
    rw [entersPhase_coil_self]; rfl
  rw [enterDrip_eq]
  unfold dripsAlone
  dsimp only
  split
  · rw [← zone] at released ⊢
    exact fansAlone_course (alone.after_entry ..) (released.after_entry ..)
  · exact course_of_lasting ..

theorem heatsAlone_course (alone : CoilAlone s c) (released : HoldReleased s (s.coil c).zone rooms) :
    Course (s.coil c).zone (enterHeat c s) (heatsAlone c rooms s) := by
  have zone : ((entersPhase c .heat .heat (some (s.coil c).maxHeat) s).coil c).zone = (s.coil c).zone := by
    rw [entersPhase_coil_self]; rfl
  rw [enterHeat_eq]
  unfold heatsAlone
  dsimp only
  split
  · rw [← zone] at released ⊢
    exact dripsAlone_course (alone.after_entry ..) (released.after_entry ..)
  · exact course_of_lasting ..

/-! ## A phase timer that expires -/

/-- The coil with its phase timer stopped. -/
def phaseStopped (c : CoilIx) (s : State) : State := s.modCoil c fun k => { k with phaseTimer := none }

theorem entersPhase_phaseStopped (p : CmdPhase) (phase : CoilPhase) (timer : Timer) :
    entersPhase c p phase timer (phaseStopped c s) = entersPhase c p phase timer s := entersPhase_modCoil _ _ _ rfl

theorem coilTemp?_phaseStopped (d : CoilIx) : coilTemp? (phaseStopped c s) d = coilTemp? s d := by
  refine coilTemp?_congr rfl ?_
  rw [phaseStopped, State.coil_modCoil]
  split
  · next same => subst same; rfl
  · rfl

theorem phaseStopped_coil_self : (phaseStopped c s).coil c = { s.coil c with phaseTimer := none } :=
  State.coil_modCoil_self ..

theorem phaseStopped_zone : ((phaseStopped c s).coil c).zone = (s.coil c).zone := by rw [phaseStopped_coil_self]

/-- The end of a phase does not see the timer of the coil. -/
theorem enterHeat_phaseStopped : enterHeat c (phaseStopped c s) = enterHeat c s := by
  simp only [enterHeat_eq, phaseStopped_coil_self, coilTemp?_phaseStopped, entersPhase_phaseStopped]

theorem enterDrip_phaseStopped : enterDrip c (phaseStopped c s) = enterDrip c s := by
  simp only [enterDrip_eq, phaseStopped_coil_self, entersPhase_phaseStopped]

theorem endFanDelay_phaseStopped : endFanDelay c (phaseStopped c s) = endFanDelay c s := by
  simp only [endFanDelay_eq, phaseStopped_coil_self, entersPhase_phaseStopped]

theorem releasesHold_phaseStopped : releasesHold (phaseStopped c s) c = releasesHold s c := by
  have coil (d : CoilIx) : ((phaseStopped c s).coil d).loaded = (s.coil d).loaded
      ∧ ((phaseStopped c s).coil d).zone = (s.coil d).zone ∧ ((phaseStopped c s).coil d).phase = (s.coil d).phase := by
    rw [phaseStopped, State.coil_modCoil]
    split
    · next same => exact same ▸ ⟨rfl, rfl, rfl⟩
    · exact ⟨rfl, rfl, rfl⟩
  simp only [releasesHold, zoneCoils, fun d => (coil d).1, fun d => (coil d).2.1, fun d => (coil d).2.2]

theorem enterFanDelay_phaseStopped : enterFanDelay c (phaseStopped c s) = enterFanDelay c s := by
  have entered : (phaseStopped c s).modCoil c (fun k => { k with phase := .fanDelay, phaseTimer := some k.fanMax })
      = s.modCoil c fun k => { k with phase := .fanDelay, phaseTimer := some k.fanMax } := State.modCoil_modCoil ..
  simp only [enterFanDelay, phaseStopped_zone, releasesHold_phaseStopped, entered]

section
variable (due : (s.coil c).phaseTimer = some 0)
include due

theorem exec_phaseTimerExpiry_of_due : exec (.phaseTimerExpiry c) s = .next (expirePhase c s) :=
  congrArg _ (whenDue_of_due _ due)

theorem exec_phaseTimerExpiry_pumpDown (phase : (s.coil c).phase = .pumpDown) :
    exec (.phaseTimerExpiry c) s = .next (thenSelect (s.coil c).zone (enterHeat c s)) := by
  rw [exec_phaseTimerExpiry_of_due due, expirePhase]
  dsimp only
  rw [← phaseStopped, phaseStopped_coil_self]
  simp only [phase, enterHeat_phaseStopped]

/-- The value of DEFROST_TIME_END: the coil temperature, or −32768 (R109). -/
theorem exec_phaseTimerExpiry_heat (phase : (s.coil c).phase = .heat) :
    exec (.phaseTimerExpiry c) s = .next (thenSelect (s.coil c).zone (enterDrip c
      (raiseNotice .defrostTimeEnd (.coil c) (BitVec.ofInt 32 ((coilTemp? s c).getD (-32768))) s))) := by
  have told (v : Quad) : raiseNotice .defrostTimeEnd (.coil c) v (phaseStopped c s)
      = phaseStopped c (raiseNotice .defrostTimeEnd (.coil c) v s) := (portOp_raiseNotice ..).modCoil ..
  rw [exec_phaseTimerExpiry_of_due due, expirePhase]
  dsimp only
  rw [← phaseStopped, phaseStopped_coil_self, coilTemp?_phaseStopped]
  simp only [phase, told, enterDrip_phaseStopped]
  cases coilTemp? s c <;> rfl

theorem exec_phaseTimerExpiry_drip (phase : (s.coil c).phase = .drip) :
    exec (.phaseTimerExpiry c) s = .next (thenSelect (s.coil c).zone (enterFanDelay c s)) := by
  rw [exec_phaseTimerExpiry_of_due due, expirePhase]
  dsimp only
  rw [← phaseStopped, phaseStopped_coil_self]
  simp only [phase, enterFanDelay_phaseStopped]

theorem exec_phaseTimerExpiry_fanDelay (phase : (s.coil c).phase = .fanDelay) :
    exec (.phaseTimerExpiry c) s = .next (thenSelect (s.coil c).zone (endFanDelay c s)) := by
  rw [exec_phaseTimerExpiry_of_due due, expirePhase]
  dsimp only
  rw [← phaseStopped, phaseStopped_coil_self]
  simp only [phase, endFanDelay_phaseStopped]

end

/-- The entry of a phase, as the obligations write it out. -/
theorem entersPhase_of_coils {k : Coil} {command : Byte} {p : CmdPhase} {phase : CoilPhase} {timer : Timer}
    (coils : t.coils = s.coils) (command_eq : ∀ u, originateCoil c p u = originate (.coil c) 0x22#8 [command] u)
    (record : k = (s.coil c).commandedTo p phase timer) :
    entersPhase c p phase timer t
      = { originate (.coil c) 0x22#8 [command] t with coils := tset s.coils c k } := by
  have kept : (originate (.coil c) 0x22#8 [command] t).coils = s.coils :=
    ((portOp_originate ..).units t).coils.trans coils
  rw [entersPhase_eq, command_eq, State.modCoil, tmod, kept, record]
  rfl

end

/-- Settles O52: a phase timer ends its phase in the entry of the next, and a coil that defrosts alone goes on from
there, through the phases that end at their entry, to its completion. -/
theorem defrostPhasesFollowAndComplete : Obligations.DefrostPhasesFollowAndComplete := by
  refine ⟨fun s c early => ?_, fun s c due => ⟨?_, ?_, ?_⟩,
    fun s c due alone => ⟨?_, fun rooms released => ⟨?_, ?_, ?_⟩⟩⟩
  · exact congrArg _ (whenDue_of_not_due _ early)
  · intro phase below
    have cold : ((coilTemp? s c).any fun x => decide ((s.coil c).terminate ≤ x)) = false :=
      any_eq_false_of_some fun x temp => by simpa using below x temp
    rw [exec_phaseTimerExpiry_pumpDown due phase, enterHeat_of_cold cold, (course_of_lasting ..).thenSelect]
    exact congrArg _ (entersPhase_of_coils rfl (fun _ => rfl) rfl)
  · intro phase lasting
    have told := portOp_raiseNotice .defrostTimeEnd (.coil c) (BitVec.ofInt 32 ((coilTemp? s c).getD (-32768)))
    rw [exec_phaseTimerExpiry_heat due phase, enterDrip_of_lasting (by rwa [told.coil]), told.coil,
      (course_of_lasting ..).thenSelect]
    exact congrArg _ (entersPhase_of_coils (told.units s).coils (fun _ => rfl) rfl)
  · intro phase dock nobody lasting warm
    have freed : releasedAt (zoneRoom? (s.coil c).zone) (releasesHold s c)
          (s.modCoil c fun k => { k with phase := .fanDelay, phaseTimer := some k.fanMax })
        = s.modCoil c fun k => { k with phase := .fanDelay, phaseTimer := some k.fanMax } := by
      rw [dock]
      rfl
    have waits : NobodyWaits s (s.coil c).zone := fun d here => nobody d here.1 (here.2.trans dock)
    rw [exec_phaseTimerExpiry_drip due phase, enterFanDelay_of_lasting freed rfl rfl lasting warm waits,
      (course_of_lasting ..).thenSelect]
    exact congrArg _ (entersPhase_of_coils rfl (fun _ => rfl) rfl)
  · intro phase
    rw [exec_phaseTimerExpiry_fanDelay due phase, endFanDelay_of_alone alone]
    exact congrArg _ (Course.thenSelect ⟨rfl, fun _ => alone.completesAlone_atRest⟩)
  · intro phase
    rw [exec_phaseTimerExpiry_pumpDown due phase, (heatsAlone_course alone released).thenSelect]
  · intro phase
    have told := portOp_raiseNotice .defrostTimeEnd (.coil c) (BitVec.ofInt 32 ((coilTemp? s c).getD (-32768)))
    have zone := congrArg Coil.zone (told.coil s c)
    have course := dripsAlone_course (alone.of_coils (told.units s).coils)
      (zone ▸ released.of_rooms (told.units s).rooms)
    rw [exec_phaseTimerExpiry_heat due phase, ← zone, course.thenSelect]
  · intro phase
    rw [exec_phaseTimerExpiry_drip due phase, (fansAlone_course alone released).thenSelect]

end Sys2Proof.Machine
end

section
/-! SUPPORT. What is granted at a room door (R87, R92): the entry of a single waiter, at the release of the hold by the
end of DRIP; and the common end of a defrosting group (R112), with the statement O54. -/

namespace Sys2Proof.Machine

/-! ## The entry of a single waiter (R87, R137, R142) -/

section
variable {s t : State} {r : RoomIx} {u : ShuttleIx} {h : Holder}

/-- A door that is not ready for what the shuttle waits to start (R137, R142). -/
theorem clearToStart_of_unready {p : RailPos} (crossed : r ∈ (s.shuttle u).crossed (s.shuttle u).position p)
    (unready : (s.shuttle u).readyAt r = false) : clearToStart s u p = false :=
  List.all_eq_false.mpr ⟨r, crossed, by simp [unready]⟩

/-- A shuttle that waits at a door goes on waiting. -/
theorem testWaiting_of_waitsAt (waits : (s.shuttle u).waitsAt r) : testWaiting u s = s := by
  have armed : testArmed u s = s := by
    unfold testArmed
    split
    · next a armed =>
      obtain ⟨crossed, unready⟩ := waits a.target (.inl (by rw [armed]; rfl))
      rw [clearToStart_of_unready crossed unready, Bool.and_false]
      rfl
    · rfl
  rw [testWaiting, armed]
  refine if_neg fun homing => ?_
  obtain ⟨state, step, clear⟩ := homing
  obtain ⟨crossed, unready⟩ := waits _ (.inr ⟨state, step, rfl⟩)
  exact Bool.false_ne_true ((clearToStart_of_unready crossed unready).symm.trans clear)

/-- The portal of a CLOSED door at which an entry forms: it asks the door to open (R87). -/
def Room.openingFor (u : ShuttleIx) (h : Holder) (p : Room) : Room :=
  { p with
    claims := p.claims ++ [{ shuttle := u, holders := [h] }], holdOpenTimer := none
    request := .opening, doorTimer := some p.openTime, state := .opening, openedBy := .part }

theorem portOp_originateDoor (r : RoomIx) (a : Action) : PortOp (originateDoor r a) := portOp_originate ..

theorem PortOp.comp {q q' : State → State} (outer : PortOp q) (inner : PortOp q') : PortOp fun s => q (q' s) where
  units s := (inner.units s).trans (outer.units _)
  acts u s agree := by
    rw [inner.acts u s agree]
    exact outer.acts u _ (agree.of_sameUnits (inner.units s))

/-- What a new entry at a CLOSED door sends: the trunk's DOOR_CLOSEs are withdrawn, and the door is asked to open. -/
def asksEntry (r : RoomIx) (s : State) : State :=
  originateDoor r .doorOpen (withdrawCommands r .doorClose .crossing s)

theorem portOp_asksEntry (r : RoomIx) : PortOp (asksEntry r) :=
  (portOp_originateDoor ..).comp (portOp_withdrawCommands ..)

theorem formEntry_of_closed (closed : (s.room r).state = .closed) (waits : (s.shuttle u).waitsAt r) :
    formEntry r u h s = (asksEntry r s).modRoom r (Room.openingFor u h) := by
  have withdrawn := portOp_withdrawCommands r .doorClose .crossing
  have sent := portOp_originateDoor r .doorOpen
  have acted (t : State) (shut : (t.room r).state = .closed) : actOnEntry r u t = openForEntry r t := by
    unfold actOnEntry
    rw [shut]
  have opened (f : Room → Room) : openForEntry r ((withdrawCommands r .doorClose .crossing s).modRoom r f)
      = (asksEntry r s).modRoom r fun p =>
          { f p with request := .opening, doorTimer := some (f p).openTime, state := .opening, openedBy := .part } := by
    rw [openForEntry, askOpen, sent.modRoom, State.modRoom_modRoom, State.modRoom_modRoom]
    rfl
  unfold formEntry
  dsimp only
  rw [withdrawn.modRoom, State.modRoom_modRoom, acted, opened]
  · refine testWaiting_of_waitsAt (r := r) ?_
    have same : (asksEntry r s).shuttle u = s.shuttle u := congrArg (tget · u) ((portOp_asksEntry r).units s).shuttles
    show ((asksEntry r s).shuttle u).waitsAt r
    exact same ▸ waits
  · rw [State.room_modRoom_self, withdrawn.room]
    exact closed

/-- A single waiter of a shuttle without an entry is granted one (R92). -/
theorem grantWaiting_of_single (single : (s.room r).waiting = [{ shuttle := u, holder := h }])
    (free : (s.room r).claims = []) (closed : (s.room r).state = .closed) (waits : (s.shuttle u).waitsAt r) :
    grantWaiting r s
      = (asksEntry r s).modRoom r fun p => ({ p with waiting := p.waiting.tail } : Room).openingFor u h := by
  have formed := formEntry_of_closed (s := s.modRoom r fun p => { p with waiting := p.waiting.tail }) (h := h)
    (by rw [State.room_modRoom_self]; exact closed) waits
  rw [(portOp_asksEntry r).modRoom, State.modRoom_modRoom] at formed
  have new : hasEntry (s.modRoom r fun p => { p with waiting := p.waiting.tail }) r u = false := by
    rw [hasEntry, State.room_modRoom_self, free]
    rfl
  unfold grantWaiting
  rw [single, forEach_cons, forEach_nil, grantClaim, new, if_neg Bool.false_ne_true, formed]

/-- A change of a room portal over a state that differs in its ports. -/
theorem SameUnits.modRoom (same : SameUnits s t) (f : Room → Room) :
    t.modRoom r f = { t with rooms := tset s.rooms r (f (s.room r)) } := by
  rw [State.modRoom, tmod, same.rooms]
  rfl

end

/-! ## The release of a hold at the end of DRIP (R92, R110) -/

section
variable {s t : State} {c : CoilIx} {r : RoomIx} {u : ShuttleIx} {h : Holder}

theorem releasesHold_eq_false {d : CoilIx} (other : d ≠ c) (here : InZone s (s.coil c).zone d)
    (under : (s.coil d).phase = .pumpDown ∨ (s.coil d).phase = .heat ∨ (s.coil d).phase = .drip) :
    releasesHold s c = false := by
  have any : ((zoneCoils s (s.coil c).zone).any fun d => d != c && (s.coil d).phase.underHold) = true :=
    List.any_eq_true.mpr ⟨d, mem_zoneCoils.mpr here, by simp [other, CoilPhase.underHold_iff.mpr under]⟩
  rw [releasesHold, any]
  rfl

theorem releasesHold_eq_true (nobody : ¬∃ d, d ≠ c ∧ InZone s (s.coil c).zone d
      ∧ ((s.coil d).phase = .pumpDown ∨ (s.coil d).phase = .heat ∨ (s.coil d).phase = .drip)) :
    releasesHold s c = true := by
  have none : ((zoneCoils s (s.coil c).zone).any fun d => d != c && (s.coil d).phase.underHold) = false := by
    refine List.any_eq_false.mpr fun d mem under => ?_
    rw [Bool.and_eq_true, bne_iff_ne, CoilPhase.underHold_iff] at under
    exact nobody ⟨d, under.1, mem_zoneCoils.mp mem, under.2⟩
  rw [releasesHold, none]
  rfl

/-- The release of a hold at whose door a single shuttle waits (R87, R92). -/
theorem releaseHold_of_single (set : (s.room r).hold = .set)
    (single : (s.room r).waiting = [{ shuttle := u, holder := h }]) (free : (s.room r).claims = [])
    (closed : (s.room r).state = .closed) (waits : (s.shuttle u).waitsAt r) :
    releaseHold r s = (asksEntry r s).modRoom r fun p => ({ p.unheld with waiting := [] } : Room).openingFor u h := by
  have granted := grantWaiting_of_single (s := s.modRoom r Room.unheld) (r := r) (u := u) (h := h)
    (by rw [State.room_modRoom_self]; exact single) (by rw [State.room_modRoom_self]; exact free)
    (by rw [State.room_modRoom_self]; exact closed) waits
  rw [(portOp_asksEntry r).modRoom, State.modRoom_modRoom] at granted
  unfold releaseHold
  rw [if_pos set]
  refine granted.trans (State.modRoom_congr ?_)
  rw [(portOp_asksEntry r).room]
  show ({ (s.room r).unheld with waiting := (s.room r).waiting.tail } : Room).openingFor u h = _
  rw [single]
  rfl

/-- The end of DRIP with the hold that stays as it is. -/
theorem releasedAt_of_kept {due : Bool} {f : Coil → Coil} (kept : due = false ∨ (s.room r).hold ≠ .set) :
    releasedAt (some r) due (s.modCoil c f) = s.modCoil c f := by
  cases due with
  | false => rfl
  | true =>
    have unset : (s.room r).hold ≠ .set := kept.resolve_left (by decide)
    exact releaseHold_of_unset unset

end

/-- O54, the end of DRIP: the hold's release, and the entry of FAN_DELAY. -/
theorem dripEnds {s : State} {c : CoilIx} {r : RoomIx} {t : State} (due : (s.coil c).phaseTimer = some 0)
    (nobody : NobodyWaits s (s.coil c).zone) (room : (s.coil c).zone = roomZone r) (phase : (s.coil c).phase = .drip)
    (lasting : (s.coil c).fanMax ≠ 0) (warm : ∀ x, coilTemp? s c = some x → (s.coil c).fanTemp < x)
    (coils : t.coils = s.coils) (probes : t.probes = s.probes)
    (released : ∀ f, releasedAt (some r) (releasesHold s c) (s.modCoil c f) = t.modCoil c f) :
    exec (.phaseTimerExpiry c) s
      = .next { originate (.coil c) 0x22#8 [4#8] t with
          coils := tset s.coils c ((s.coil c).commandedTo .fanDelay .fanDelay (some (s.coil c).fanMax)) } := by
  have freed : releasedAt (zoneRoom? (s.coil c).zone) (releasesHold s c)
        (s.modCoil c fun k => { k with phase := .fanDelay, phaseTimer := some k.fanMax })
      = t.modCoil c fun k => { k with phase := .fanDelay, phaseTimer := some k.fanMax } := by
    rw [room, zoneRoom?_roomZone, released]
  have coil : t.coil c = s.coil c := congrArg (tget · c) coils
  rw [exec_phaseTimerExpiry_drip due phase, enterFanDelay_of_lasting freed coils probes lasting warm nobody,
    (course_of_lasting ..).thenSelect]
  exact congrArg _ (entersPhase_of_coils coils (fun _ => rfl) (coil ▸ rfl))

/-! ## The common end of a group (R112) -/

section
variable {s t : State} {c : CoilIx} {z : ZoneIx}

/-- Every coil of a list completes and leaves the group: the records of the list, and a DEFROST_END for each, in its
order. -/
theorem forEach_completeCoil {l : List CoilIx} (nodup : l.Nodup) (s : State) :
    forEach l (fun d s => completeCoil d (s.modCoil d fun k => { k with group := false })) s
      = (l.foldl (fun t d => tellEnd ((s.coil d).completedAt s.count) d t) s).modCoils l
          fun k => k.completedAt s.count := by
  induction l generalizing s with
  | nil => exact (State.modCoils_nil ..).symm
  | cons d l ih =>
    obtain ⟨new, nodup⟩ := List.nodup_cons.mp nodup
    have told (k : Coil) (d : CoilIx) : PortOp (tellEnd k d) := portOp_raiseNotice ..
    have count : (tellEnd ((s.coil d).completedAt s.count) d (s.modCoil d fun k => k.completedAt s.count)).count
        = s.count := ((told ..).units _).count
    have later : ∀ (t : State), ∀ e ∈ l,
        tellEnd (((tellEnd ((s.coil d).completedAt s.count) d (s.modCoil d fun k => k.completedAt s.count)).coil
          e).completedAt s.count) e t = tellEnd ((s.coil e).completedAt s.count) e t := by
      intro t e mem
      rw [(told ..).coil, State.coil_modCoil_ne _ _ _ fun same : d = e => new (same ▸ mem)]
    rw [forEach_cons, completeCoil_modCoil, ih nodup, count, List.foldl_ext _ _ _ later, (told ..).modCoil,
      (portOp_foldl (fun e => told ((s.coil e).completedAt s.count) e) l).modCoil, State.modCoils_cons _ new,
      List.foldl_cons]

theorem groupMembers_eq (s : State) (z : ZoneIx) : groupMembers s z
    = (List.finRange 16).filter fun d => (s.coil d).loaded && (s.coil d).zone == z && (s.coil d).group := by
  rw [groupMembers, zoneCoils, List.filter_filter]
  exact List.filter_congr fun d _ => Bool.and_comm ..

theorem groupMembers_nodup (s : State) (z : ZoneIx) : (groupMembers s z).Nodup :=
  ((List.nodup_finRange 16).filter _).filter _

theorem mem_groupMembers {d : CoilIx} : d ∈ groupMembers s z ↔ InZone s z d ∧ (s.coil d).group = true := by
  rw [groupMembers, List.mem_filter, mem_zoneCoils]
  rfl

/-- The coil back in COOL, before the completion. -/
def cooled (c : CoilIx) (s : State) : State := entersPhase c .cool .cool none s

theorem cooled_coil (c d : CoilIx) (s : State) :
    (cooled c s).coil d = if d = c then (s.coil c).commandedTo .cool .cool none else s.coil d := by
  rw [cooled, entersPhase_coil]
  exact if_congr eq_comm rfl rfl

theorem cooled_fixed (c d : CoilIx) (s : State) :
    ((cooled c s).coil d).loaded = (s.coil d).loaded ∧ ((cooled c s).coil d).zone = (s.coil d).zone
      ∧ ((cooled c s).coil d).group = (s.coil d).group := by
  rw [cooled_coil]
  split
  · next same => exact same ▸ ⟨rfl, rfl, rfl⟩
  · exact ⟨rfl, rfl, rfl⟩

theorem groupMembers_cooled : groupMembers (cooled c s) z = groupMembers s z := by
  simp only [groupMembers_eq, fun d => (cooled_fixed c d s).1, fun d => (cooled_fixed c d s).2.1,
    fun d => (cooled_fixed c d s).2.2]

/-- A member of a group whose common end is still to come (R112). -/
theorem endFanDelay_of_others {d : CoilIx} (group : (s.coil c).group = true) (other : d ≠ c)
    (here : InZone s (s.coil c).zone d) (member : (s.coil d).group = true) (out : (s.coil d).phase ≠ .cool)
    (called : (s.coil d).phase ≠ .portalWait) : endFanDelay c s = (cooled c s, false) := by
  have fixed := cooled_fixed c d s
  have coil : (cooled c s).coil d = s.coil d := (cooled_coil ..).trans (if_neg other)
  have defrosting : otherDefrosting (cooled c s) (s.coil c).zone c = true := by
    refine List.any_eq_true.mpr ⟨d, mem_zoneCoils.mpr (by rw [coil]; exact here), ?_⟩
    rw [coil]
    cases phase : (s.coil d).phase <;> simp_all [CoilPhase.underHold]
  have waits : ((groupMembers (cooled c s) (s.coil c).zone).all fun d => ((cooled c s).coil d).phase == .cool)
      = false :=
    List.all_eq_false.mpr
      ⟨d, by rw [groupMembers_cooled]; exact mem_groupMembers.mpr ⟨here, member⟩, by simp [coil, out]⟩
  rw [endFanDelay_eq, ← cooled]
  dsimp only
  rw [reportCompletion_of_others defrosting, (cooled_fixed c c s).2.2, if_pos group, waits,
    if_neg Bool.false_ne_true]

/-- The record of a member that completes with the last of its group. -/
def memberDone (c : CoilIx) (s : State) (d : CoilIx) : Coil := ((cooled c s).coil d).completedAt s.count

theorem portOp_tellEnd (k : Coil) (c : CoilIx) : PortOp (tellEnd k c) := portOp_raiseNotice ..

theorem portOp_tellEnds (k : CoilIx → Coil) (l : List CoilIx) :
    PortOp fun t => l.foldl (fun t d => tellEnd (k d) d t) t :=
  portOp_foldl (fun d => portOp_tellEnd (k d) d) l

/-- The completions of a group at its common end, over the records that stood before. -/
def groupCompleted (c : CoilIx) (s : State) : State :=
  ((groupMembers s (s.coil c).zone).foldl (fun t d => tellEnd (memberDone c s d) d t)
    ((cooled c s).modZone (s.coil c).zone Zone.recovers)).modCoils (groupMembers s (s.coil c).zone)
      fun k => k.completedAt s.count

/-- The last member of a group completes them all (R112). -/
theorem endFanDelay_of_last (group : (s.coil c).group = true)
    (cool : ∀ d, d ≠ c → InZone s (s.coil c).zone d → (s.coil d).phase = .cool) :
    endFanDelay c s = (groupCompleted c s, true) := by
  have inCool (d : CoilIx) (here : InZone s (s.coil c).zone d) : ((cooled c s).coil d).phase = .cool := by
    rw [cooled_coil]
    split
    · rfl
    · next other => exact cool d other here
  have last : reportCompletion (s.coil c).zone c (cooled c s) = (cooled c s).modZone (s.coil c).zone Zone.recovers := by
    refine reportCompletion_of_last (otherDefrosting_eq_false fun d _ here => inCool d ?_)
    rwa [InZone, (cooled_fixed c d s).1, (cooled_fixed c d s).2.1] at here
  have members : groupMembers ((cooled c s).modZone (s.coil c).zone Zone.recovers) (s.coil c).zone
      = groupMembers s (s.coil c).zone := groupMembers_cooled
  have all : ((groupMembers s (s.coil c).zone).all fun d => ((cooled c s).coil d).phase == .cool) = true :=
    List.all_eq_true.mpr fun d mem => by simpa using inCool d (mem_groupMembers.mp mem).1
  have count : (cooled c s).count = s.count := entersPhase_count ..
  rw [endFanDelay_eq, ← cooled]
  dsimp only
  rw [last, members, forEach_completeCoil (groupMembers_nodup ..)]
  simp only [State.modZone_coil, State.modZone_count, count]
  rw [(cooled_fixed c c s).2.2, if_pos group, if_pos all]
  rfl

end

/-- A coil wants no defrost without a pull-in, in a quiet zone or below its start threshold (R102). -/
theorem Coil.wants_eq_false {k : Coil} {quiet : Bool} :
    k.wants quiet = false ↔ k.pullIn = false ∧ (quiet = true ∨ k.owed < k.start) := by
  cases quiet <;> simp [Coil.wants]

section
variable {s t : State} {c : CoilIx} {z : ZoneIx}

/-- The DEFROST_ENDs of a group, over the COOL command of its last member. -/
def groupTold (c : CoilIx) (s : State) : State :=
  (groupMembers s (s.coil c).zone).foldl (fun t d => tellEnd (memberDone c s d) d t) (originateCoil c .cool s)

theorem groupTold_units : SameUnits s (groupTold c s) :=
  ((portOp_originateCoil c .cool).units s).trans ((portOp_tellEnds (memberDone c s) _).units _)

/-- The records of the coils at the common end. -/
theorem groupCompleted_coil (d : CoilIx) : (groupCompleted c s).coil d
    = if d ∈ groupMembers s (s.coil c).zone then memberDone c s d else (cooled c s).coil d := by
  rw [groupCompleted, State.coil_modCoils, (portOp_tellEnds ..).coil, State.modZone_coil]
  rfl

/-- Changes of the coils and of a zone are their two tables over the rest of the state. -/
theorem State.modCoils_modZone_modCoil (t : State) (f g : Coil → Coil) (h : Zone → Zone) (l : List CoilIx) :
    ((t.modCoil c f).modZone z h).modCoils l g
      = { t with
          coils := (((t.modCoil c f).modZone z h).modCoils l g).coils
          zones := (((t.modCoil c f).modZone z h).modCoils l g).zones } := rfl

theorem groupCompleted_eq (c : CoilIx) (s : State) : groupCompleted c s
    = { groupTold c s with
        coils := Vector.ofFn fun d =>
          if d ∈ groupMembers s (s.coil c).zone then memberDone c s d else (cooled c s).coil d
        zones := tset s.zones (s.coil c).zone (s.zone (s.coil c).zone).recovers } := by
  have told := portOp_tellEnds (memberDone c s) (groupMembers s (s.coil c).zone)
  have entered : cooled c s = (originateCoil c .cool s).modCoil c fun k => k.commandedTo .cool .cool none :=
    entersPhase_eq ..
  have coils : (groupCompleted c s).coils = Vector.ofFn fun d =>
      if d ∈ groupMembers s (s.coil c).zone then memberDone c s d else (cooled c s).coil d :=
    tget_ext fun d => by rw [tget_ofFn]; exact groupCompleted_coil d
  have zones : (groupCompleted c s).zones = tset s.zones (s.coil c).zone (s.zone (s.coil c).zone).recovers := by
    have same : (cooled c s).zones = s.zones := entersPhase_zones ..
    have run : (groupCompleted c s).zones = ((cooled c s).modZone (s.coil c).zone Zone.recovers).zones :=
      (told.units _).zones
    rw [run, State.modZone, tmod, same]
    rfl
  have changed : groupCompleted c s
      = (((groupTold c s).modCoil c fun k => k.commandedTo .cool .cool none).modZone (s.coil c).zone
          Zone.recovers).modCoils (groupMembers s (s.coil c).zone) fun k => k.completedAt s.count := by
    rw [groupCompleted, entered, told.modZone, told.modCoil]
    rfl
  rw [changed] at coils zones
  rw [changed, State.modCoils_modZone_modCoil, coils, zones]

/-- After the common end nothing of the zone is out of COOL, and nothing starts (R102). -/
theorem groupCompleted_atRest (cool : ∀ d, d ≠ c → InZone s (s.coil c).zone d → (s.coil d).phase = .cool)
    (group : (s.coil c).group = true)
    (rests : ∀ d, InZone s (s.coil c).zone d → (s.coil d).mask = true
      ∨ (if (s.coil d).group = true then (s.coil d).minSpacing ≠ 0
        else (s.coil d).spacingTimer ≠ none ∨ (s.coil d).wants (s.zone (s.coil c).zone).quiet = false)) :
    AtRest (groupCompleted c s) (s.coil c).zone := by
  have fixed (d : CoilIx) : ((groupCompleted c s).coil d).loaded = (s.coil d).loaded
      ∧ ((groupCompleted c s).coil d).zone = (s.coil d).zone
      ∧ ((groupCompleted c s).coil d).mask = (s.coil d).mask := by
    rw [groupCompleted_coil, memberDone, cooled_coil]
    split
    · split
      · next same => exact same ▸ ⟨rfl, rfl, rfl⟩
      · exact ⟨rfl, rfl, rfl⟩
    · split
      · next same => exact same ▸ ⟨rfl, rfl, rfl⟩
      · exact ⟨rfl, rfl, rfl⟩
  have here {d : CoilIx} (inZone : InZone (groupCompleted c s) (s.coil c).zone d) : InZone s (s.coil c).zone d := by
    rwa [InZone, (fixed d).1, (fixed d).2.1] at inZone
  have quiet : ((groupCompleted c s).zone (s.coil c).zone).quiet = (s.zone (s.coil c).zone).quiet := by
    rw [groupCompleted_eq]
    show (tget (tset s.zones _ _) _).quiet = _
    rw [tget_tset_self]
    unfold Zone.recovers
    split <;> rfl
  constructor
  · intro d inZone
    have phase : ((groupCompleted c s).coil d).phase = .cool := by
      rw [groupCompleted_coil, memberDone, cooled_coil]
      by_cases same : d = c
      · rw [if_pos same]
        split <;> rfl
      · rw [if_neg same, ← cool d same (here inZone)]
        split <;> rfl
    rw [phase]
    exact CoilPhase.noConfusion
  · intro d inZone
    rw [(fixed d).2.2, quiet]
    refine (rests d (here inZone)).imp_right fun rest => ?_
    split at rest
    · next member =>
      refine .inl ?_
      rw [groupCompleted_coil, if_pos (mem_groupMembers.mpr ⟨here inZone, member⟩), memberDone]
      refine Coil.completedAt_spacing _ _ ?_
      rw [cooled_coil]
      split
      · next same => exact same ▸ rest
      · exact rest
    · next outside =>
      have other : d ≠ c := fun same => outside (same ▸ group)
      rw [groupCompleted_coil, if_neg fun mem => outside (mem_groupMembers.mp mem).2, cooled_coil, if_neg other]
      exact rest

end

/-- Settles O54: the end of DRIP releases the hold unless another coil is still under it, and the last member of a group
completes them all. -/
theorem holdsAndGroupsEnd : Obligations.HoldsAndGroupsEnd := by
  intro s c due k z n mine nobody
  refine ⟨fun r room phase lasting warm => ?_, fun phase group loaded => ⟨fun d other here member out => ?_, ?_⟩⟩
  · refine ⟨fun kept => ?_, fun last set empty => ?_, fun u h last set single free closed waits => ?_⟩
    · refine dripEnds due nobody room phase lasting warm rfl rfl fun f => releasedAt_of_kept ?_
      refine kept.imp_left fun still => ?_
      obtain ⟨d, other, here, under⟩ := still
      exact releasesHold_eq_false other here under
    · refine dripEnds due nobody room phase lasting warm rfl rfl fun f => ?_
      rw [releasesHold_eq_true last]
      exact releaseHold_of_nobody (s := s.modCoil c f) set empty
    · have asked := portOp_asksEntry r
      have rooms := (asked.units s).modRoom (r := r) fun p => ({ p.unheld with waiting := [] } : Room).openingFor u h
      have whole := dripEnds
        (t := (asksEntry r s).modRoom r fun p => ({ p.unheld with waiting := [] } : Room).openingFor u h)
        due nobody room phase lasting warm (asked.units s).coils (asked.units s).probes fun f => by
          rw [releasesHold_eq_true last]
          refine (releaseHold_of_single (s := s.modCoil c f) set single free closed waits).trans ?_
          rw [asked.modCoil]
          rfl
      rw [whole, rooms]
      simp only [Room.openingFor, Room.unheld, free]
      rfl
  · rw [exec_phaseTimerExpiry_fanDelay due phase, endFanDelay_of_others group other here member out (nobody d here),
      (course_of_lasting ..).thenSelect]
    exact congrArg _ (entersPhase_of_coils rfl (fun _ => rfl) rfl)
  · intro member rests cool resting completed told
    have done (d : CoilIx) : memberDone c s d = completed d := by rw [memberDone, cooled_coil]
    have members : groupMembers s z = (List.finRange 16).filter member := groupMembers_eq s z
    have told_eq : groupTold c s = told := by
      rw [groupTold, members]
      exact List.foldl_ext _ _ _ fun t d _ => by rw [done]; rfl
    have coils : (Vector.ofFn fun d => if d ∈ groupMembers s z then memberDone c s d else (cooled c s).coil d)
        = Vector.ofFn fun d => if member d then completed d else s.coil d := by
      refine tget_ext fun d => ?_
      rw [tget_ofFn, tget_ofFn, members, done, cooled_coil]
      by_cases inGroup : member d = true
      · rw [if_pos (List.mem_filter.mpr ⟨List.mem_finRange d, inGroup⟩), if_pos inGroup]
      · have other : d ≠ c := fun same => inGroup (by simp [member, same, loaded, group, z, k])
        rw [if_neg fun mem => inGroup (List.mem_filter.mp mem).2, if_neg inGroup, if_neg other]
    have course : Course z (groupCompleted c s, true) (groupCompleted c s) := by
      refine ⟨rfl, fun _ => groupCompleted_atRest cool group fun d here => (resting d here).imp_right fun rest => ?_⟩
      have joined : member d = (s.coil d).group := by simp [member, here.1, here.2, z, k]
      simp only [rests, joined] at rest
      split
      · next inGroup => rwa [if_pos inGroup] at rest
      · next outside =>
        rw [if_neg outside] at rest
        exact rest.imp_right Coil.wants_eq_false.mpr
    rw [exec_phaseTimerExpiry_fanDelay due phase, endFanDelay_of_last group cool, course.thenSelect, groupCompleted_eq]
    rw [coils, told_eq]

end Sys2Proof.Machine
end

section
/-! SUPPORT. The entry of PUMP_DOWN (R63, R107, R108), by which a defrost begins: the coils that enter it together, one
that runs on alone, and the grant of the hold that lets them (R91), with the statement O56. -/

namespace Sys2Proof.Machine

/-! ## Coils that enter PUMP_DOWN (R107, R108) -/

section
variable {s t : State} {c : CoilIx} {rooms : Vector Room 7}

theorem enterPumpDown_eq (c : CoilIx) (s : State) : enterPumpDown c s = entersPumpDown c s := by
  have entered : (commandCoil c .pumpDown s).modCoil c
        (fun k => { k with phase := .pumpDown, phaseTimer := some k.pumpDown })
      = entersPhase c .pumpDown .pumpDown (some (s.coil c).pumpDown) s := commandCoil_modCoil rfl
  have self := entersPhase_coil_self (s := s) (c := c) .pumpDown .pumpDown (some (s.coil c).pumpDown)
  unfold enterPumpDown entersPumpDown
  dsimp only
  rw [entered, self]
  simp only [openWindow, State.modZone, tmod, entersPhase_zones, State.coil] at self ⊢
  rw [self]
  rfl

theorem entersPumpDown_units : SameUnits
    { entersPhase c .pumpDown .pumpDown (some (s.coil c).pumpDown) s with
      zones := tset s.zones (s.coil c).zone
        { s.zone (s.coil c).zone with window := .openDefrost, allowanceTimer := none } }
    (entersPumpDown c s) := (portOp_raiseNotice ..).units _

theorem entersPumpDown_rooms : (entersPumpDown c s).rooms = s.rooms := by
  rw [entersPumpDown_units.rooms]
  dsimp only
  exact entersPhase_rooms ..

theorem entersPumpDown_coil (d : CoilIx) : (entersPumpDown c s).coil d
    = if c = d then (s.coil c).commandedTo .pumpDown .pumpDown (some (s.coil c).pumpDown) else s.coil d :=
  (congrArg (tget · d) entersPumpDown_units.coils).trans (entersPhase_coil ..)

theorem entersPumpDown_coil_self :
    (entersPumpDown c s).coil c = (s.coil c).commandedTo .pumpDown .pumpDown (some (s.coil c).pumpDown) :=
  (entersPumpDown_coil c).trans (if_pos rfl)

theorem CoilAlone.after_pumpDown (alone : CoilAlone s c) : CoilAlone (entersPumpDown c s) c := by
  have self := entersPumpDown_coil_self (s := s) (c := c)
  exact alone.of_kept (fun d other => (entersPumpDown_coil d).trans (if_neg other.symm)) (by rw [self]; rfl)
    (by rw [self]; rfl) (by rw [self]; rfl) (by rw [self]; rfl)

theorem startPumpDown_single (c : CoilIx) (s : State) : startPumpDown [c] s
    = if (s.coil c).pumpDown = 0 then enterHeat c (entersPumpDown c s) else (entersPumpDown c s, false) := by
  have time : ((entersPumpDown c s).coil c).pumpDown = (s.coil c).pumpDown := by
    rw [entersPumpDown_coil_self]; rfl
  unfold startPumpDown
  simp only [forEach_cons, forEach_nil, forEachCoil, enterPumpDown_eq, time, Bool.or_false]

/-- Coils whose pump-down times are not 0 enter PUMP_DOWN in turn, and stay in it (R107, R108). -/
theorem startPumpDown_lasting {cs : List CoilIx} (lasting : ∀ c ∈ cs, (s.coil c).pumpDown ≠ 0) :
    startPumpDown cs s = (cs.foldl (fun t c => entersPumpDown c t) s, false) := by
  rw [startPumpDown_of_lasting lasting, forEach]
  simp only [enterPumpDown_eq]

/-- A coil that defrosts alone in its zone, from its entry of PUMP_DOWN on. -/
theorem pumpsAlone_course (alone : CoilAlone s c) (released : HoldReleased s (s.coil c).zone rooms) :
    Course (s.coil c).zone (startPumpDown [c] s) (pumpsAlone c rooms s) := by
  have zone : ((entersPumpDown c s).coil c).zone = (s.coil c).zone := by rw [entersPumpDown_coil_self]; rfl
  rw [startPumpDown_single]
  unfold pumpsAlone
  split
  · rw [← zone] at released ⊢
    exact heatsAlone_course alone.after_pumpDown (released.of_rooms entersPumpDown_rooms)
  · exact course_of_lasting ..

end

/-! ## The field queue after a hold's grant (R91) -/

section
variable {s t : State} {r : RoomIx} {c : CoilIx}

/-- Nothing but commands to coils has joined what waits for the field. -/
structure FieldWaits (s t : State) : Prop where
  forwarded : ∀ w ∈ t.forwarded, w ∈ s.forwarded
  originated : ∀ o ∈ t.originated, o ∈ s.originated ∨ ∃ c, o.obj = .coil c

theorem FieldWaits.of_eq (forwarded : t.forwarded = s.forwarded) (originated : t.originated = s.originated) :
    FieldWaits s t := ⟨fun _ mem => forwarded ▸ mem, fun _ mem => .inl (originated ▸ mem)⟩

theorem FieldWaits.trans {u : State} (h : FieldWaits s t) (k : FieldWaits t u) : FieldWaits s u where
  forwarded w mem := h.forwarded w (k.forwarded w mem)
  originated o mem := (k.originated o mem).elim (h.originated o) .inr

theorem FieldWaits.kickTrunk (waits : FieldWaits s t) : FieldWaits s (kickTrunk t) := by
  refine waits.trans ?_
  unfold Machine.kickTrunk
  split
  · exact .of_eq rfl rfl
  · exact .of_eq (trunkChoose_taken t).forwarded (trunkChoose_taken t).originated

theorem joinRefusal_fieldWaits (f : Frame) (s : State) : FieldWaits s (joinRefusal f s) := by
  unfold joinRefusal
  split
  · exact .of_eq rfl rfl
  · exact FieldWaits.kickTrunk ⟨fun _ mem => mem, fun _ mem => .inl mem⟩

theorem raiseNotice_fieldWaits (k : NoticeKind) (o : NoticeObj) (v : Quad) (s : State) :
    FieldWaits s (raiseNotice k o v s) := by
  unfold raiseNotice offerNotice
  split
  · exact .of_eq rfl rfl
  · split
    · exact FieldWaits.kickTrunk ⟨fun _ mem => mem, fun _ mem => .inl mem⟩
    · split
      · exact FieldWaits.kickTrunk ⟨fun _ mem => mem, fun _ mem => .inl mem⟩
      · exact .of_eq rfl rfl

theorem fieldChoose_fieldWaits (s : State) : FieldWaits s (fieldChoose s) := by
  unfold fieldChoose
  split
  · next o rest first => exact ⟨fun _ mem => mem, fun _ mem => .inl (first ▸ List.mem_cons_of_mem o mem)⟩
  · split
    · next f rest first => exact ⟨fun _ mem => first ▸ List.mem_cons_of_mem f mem, fun _ mem => .inl mem⟩
    · exact .of_eq rfl rfl

theorem kickField_fieldWaits (s : State) : FieldWaits s (kickField s) := by
  unfold kickField
  split
  · exact .of_eq rfl rfl
  · exact fieldChoose_fieldWaits s

theorem originateCoil_fieldWaits (c : CoilIx) (p : CmdPhase) (s : State) : FieldWaits s (originateCoil c p s) := by
  unfold originateCoil originate
  split
  · unfold fillPosition
    split
    · refine ⟨fun _ mem => mem, fun o mem => ?_⟩
      obtain ⟨old, there, rfl⟩ := List.mem_map.mp mem
      split
      · next here => exact .inr ⟨c, by simpa using here⟩
      · exact .inl there
    · refine FieldWaits.trans ?_ (kickField_fieldWaits _)
      refine ⟨fun _ mem => mem, fun o mem => ?_⟩
      rcases List.mem_append.mp mem with there | new
      · exact .inl there
      · exact .inr ⟨c, by rw [List.mem_singleton.mp new]⟩
  · exact raiseNotice_fieldWaits ..

theorem entersPumpDown_fieldWaits (c : CoilIx) (s : State) : FieldWaits s (entersPumpDown c s) := by
  have sent := originateCoil_fieldWaits c .pumpDown s
  unfold entersPumpDown
  refine FieldWaits.trans ?_ (raiseNotice_fieldWaits ..)
  rw [entersPhase_eq]
  exact ⟨sent.forwarded, sent.originated⟩

/-- No DOOR_OPEN to the room door waits for the field, neither the portal's own nor one of the trunk's. -/
structure NoOpenWaits (r : RoomIx) (s : State) : Prop where
  originated : ∀ o ∈ s.originated, ¬(o.obj = .door r ∧ o.frame.payload.head? = some 0#8)
  forwarded : ∀ w ∈ s.forwarded, ¬(w.target = some (.door (roomPortal r)) ∧ w.frame.kind = 0x20#8
    ∧ w.frame.payload.head? = some 0#8)

theorem NoOpenWaits.of_fieldWaits (none : NoOpenWaits r s) (waits : FieldWaits s t) : NoOpenWaits r t where
  forwarded w mem := none.forwarded w (waits.forwarded w mem)
  originated o mem := by
    rcases waits.originated o mem with there | ⟨c, coil⟩
    · exact none.originated o there
    · rintro ⟨door, -⟩
      cases coil.symm.trans door

theorem holdSet_noOpenWaits (r : RoomIx) (forced : Bool) (s : State) : NoOpenWaits r (holdSet r forced s) := by
  have fold (l : List Frame) (t : State) : FieldWaits t (l.foldl (fun t f => joinRefusal f t) t) := by
    induction l generalizing t with
    | nil => exact .of_eq rfl rfl
    | cons f l ih => exact (joinRefusal_fieldWaits f t).trans (ih _)
  unfold holdSet
  rw [withdrawCommands_eq]
  refine NoOpenWaits.of_fieldWaits ⟨fun o mem => ?_, fun w mem => ?_⟩ (fold ..)
  · exact of_decide_eq_false ((Bool.not_eq_true' _).mp (List.mem_filter.mp mem).2)
  · have other := (Bool.not_eq_true' _).mp (List.mem_filter.mp mem).2
    exact of_decide_eq_false ((Forwarded.isCommand_iff (a := .doorOpen)).symm.trans other)

end

/-! ## The grant of a hold (R91, R107) -/

section
variable {s t : State} {r : RoomIx} {c : CoilIx} {rooms : Vector Room 7}

theorem setHold_eq (r : RoomIx) (mark : Bool) (s : State) :
    setHold r (s.modRoom r fun p => { p with holdForced := mark }) = holdSet r mark s := by
  have doors : (fun o : Originated => !o.isDoor r .doorOpen)
      = fun o => !decide (o.obj = .door r ∧ o.frame.payload.head? = some 0#8) := by
    funext o
    exact congrArg _ (Bool.eq_iff_iff.mpr (by simp [Originated.isDoor]; exact fun _ => Iff.rfl))
  unfold setHold holdSet dropOriginatedDoor
  dsimp only
  rw [State.modRoom_modRoom, doors]
  rfl

theorem State.modRoom_of_kept {f : Room → Room} (kept : f (s.room r) = s.room r) : s.modRoom r f = s := by
  rw [State.modRoom, tmod, ← State.room, kept, State.room, tset_tget]

theorem holdSet_coils (r : RoomIx) (mark : Bool) (s : State) : (holdSet r mark s).coils = s.coils :=
  ((portOp_withdrawCommands ..).units _).coils

theorem holdSet_coil (r : RoomIx) (mark : Bool) (s : State) (d : CoilIx) : (holdSet r mark s).coil d = s.coil d :=
  congrArg (tget · d) (holdSet_coils r mark s)

/-- The coils of a zone that a test picks, when one coil alone passes it. -/
theorem filter_zoneCoils_single {z : ZoneIx} {p : CoilIx → Bool}
    (passes : ∀ d, d ∈ zoneCoils s z ∧ p d = true ↔ d = c) :
    (zoneCoils s z).filter p = [c] := by
  have nodup : ((zoneCoils s z).filter p).Nodup := ((List.nodup_finRange 16).filter _).filter p
  refine List.perm_singleton.mp ((List.perm_ext_iff_of_nodup nodup (List.nodup_singleton c)).mpr fun d => ?_)
  rw [List.mem_filter, List.mem_singleton]
  exact passes d

/-- The hold of a room, granted with its mark to the coils that wait for it. -/
theorem grantHold_eq (mark : Bool) : grantHold r (s.modRoom r fun p => { p with holdForced := mark })
    = startPumpDown ((zoneCoils (holdSet r mark s) (roomZone r)).filter fun d =>
        ((holdSet r mark s).coil d).phase == .portalWait) (holdSet r mark s) := by
  unfold grantHold
  rw [setHold_eq]

theorem exec_holdGrant : exec (.holdGrant r) s = .next (examineRoom r s) := rfl

theorem exec_holdGrant_of_held (held : (s.room r).claims ≠ [] ∨ (s.room r).state ≠ .closed) :
    exec (.holdGrant r) s = .next s := by
  have blocked : ¬((s.room r).hold = .waiting ∧ (s.room r).holdGrantable = true) := by
    rintro ⟨-, free⟩
    obtain ⟨empty, closed⟩ := Room.holdGrantable_iff.mp free
    exact held.elim (· empty) (· closed)
  have examined : examineHold r s = (s, false) := if_neg blocked
  rw [exec_holdGrant, examineRoom, examined, (course_of_lasting ..).thenSelect]

/-- HOLD_GRANT to the one coil that waits. -/
theorem exec_holdGrant_of_single (waits : (s.room r).hold = .waiting) (free : (s.room r).claims = [])
    (closed : (s.room r).state = .closed) (here : InZone s (roomZone r) c) (called : (s.coil c).phase = .portalWait)
    (alone : ∀ d, d ≠ c → InZone s (roomZone r) d → (s.coil d).phase ≠ .portalWait) :
    exec (.holdGrant r) s
      = .next (thenSelect (roomZone r) (startPumpDown [c] (holdSet r (s.room r).holdForced s))) := by
  have marked := grantHold_eq (s := s) (r := r) (s.room r).holdForced
  rw [State.modRoom_of_kept rfl] at marked
  have waiter : (zoneCoils (holdSet r (s.room r).holdForced s) (roomZone r)).filter
      (fun d => ((holdSet r (s.room r).holdForced s).coil d).phase == .portalWait) = [c] := by
    refine filter_zoneCoils_single fun d => ?_
    rw [mem_zoneCoils, holdSet_coil, beq_iff_eq]
    refine ⟨fun ⟨inZone, waiting⟩ => by_contra fun other => alone d other inZone waiting, ?_⟩
    rintro rfl
    exact ⟨here, called⟩
  have examined : examineHold r s = grantHold r s := if_pos ⟨waits, Room.holdGrantable_iff.mpr ⟨free, closed⟩⟩
  rw [exec_holdGrant, examineRoom, examined, marked, waiter]

end

/-- Settles O56: a waiting hold is granted at an unclaimed CLOSED door, and a single waiter is granted its claim when
the hold lets it. -/
theorem holdsAndWaitingClaimsAreGranted : Obligations.HoldsAndWaitingClaimsAreGranted := by
  refine ⟨fun s r waits => ⟨exec_holdGrant_of_held, fun c free closed loaded zone called alone => ?_⟩,
    fun s r => ⟨fun held => ?_, fun u h mayGrant single free closed waits => ?_⟩⟩
  · have granted := exec_holdGrant_of_single waits free closed ⟨loaded, zone⟩ called fun d other here =>
      alone d other here.1 here.2
    have coil := holdSet_coil r (s.room r).holdForced s c
    refine ⟨fun lasting => ⟨?_, ?_⟩, fun rooms single released => ?_⟩
    · rw [granted, startPumpDown_lasting (by simpa [coil] using lasting), (course_of_lasting ..).thenSelect]
      rfl
    · have none := (holdSet_noOpenWaits r (s.room r).holdForced s).of_fieldWaits (entersPumpDown_fieldWaits c _)
      exact ⟨none.originated, none.forwarded⟩
    · have atZone : ((holdSet r (s.room r).holdForced s).coil c).zone = roomZone r := by rw [coil, zone]
      have course := pumpsAlone_course (single.of_coils (holdSet_coils ..)) (atZone.symm ▸ released)
      rw [atZone] at course
      rw [granted, course.thenSelect]
  · refine congrArg _ (if_neg ?_)
    rcases held with set | ⟨waiting, forced⟩
    · simp [Room.mayGrantWaiting, set]
    · simp [Room.mayGrantWaiting, waiting, forced]
  · have may : (s.room r).mayGrantWaiting = true := by
      rcases mayGrant with clear | ⟨waiting, unforced⟩
      · simp [Room.mayGrantWaiting, clear]
      · simp [Room.mayGrantWaiting, waiting, unforced]
    have granted : exec (.waitingClaimGrant r) s = .next (grantWaiting r s) := congrArg _ (if_pos may)
    rw [granted, grantWaiting_of_single single free closed waits, ((portOp_asksEntry r).units s).modRoom, single]
    simp only [Room.openingFor, free]
    rfl

end Sys2Proof.Machine
end

section
/-! SUPPORT. The selection of a zone (R102 to R104): which coil or group starts, and how it begins (R91, R107), with the
statement O53. -/

namespace Sys2Proof.Machine

/-! ## The evaluation of a selection (R102) -/

section
variable {s t : State} {z : ZoneIx}

theorem selectLoop_of_resting (n : Nat) (rest : Resting s z) : selectLoop n z s = s := by
  cases n with
  | zero => rfl
  | succ n =>
    rw [selectLoop, selectOnce_of_resting rest]
    rfl

/-- A selection whose start leaves nothing more to do. -/
theorem selectZone_of_course (course : Course z (selectOnce z s) t) : selectZone z s = t := by
  obtain ⟨is, rest⟩ := course
  show selectLoop (_ + 1) z s = t
  rw [selectLoop]
  dsimp only
  split
  · next due =>
    obtain ⟨nobody, resting⟩ := rest due
    rw [is, renewHold_of_nobody nobody, selectLoop_of_resting _ resting]
  · exact is

theorem selectOnce_staggered (active : s.mode = .active) (inUse : (s.zone z).inUse = true)
    (mode : (s.zone z).defrostMode = .staggered) : selectOnce z s = selectStaggered z s := by
  rw [selectOnce, if_pos ⟨active, inUse⟩, mode]

theorem selectOnce_all (active : s.mode = .active) (inUse : (s.zone z).inUse = true)
    (mode : (s.zone z).defrostMode = .all) : selectOnce z s = selectAll z s := by
  rw [selectOnce, if_pos ⟨active, inUse⟩, mode]

end

/-! ## The pointer's coil (R103) -/

/-- The first of an ascending list to pass a test. -/
theorem find?_of_least {n : Nat} {l : List (Fin n)} {p : Fin n → Bool} {d : Fin n}
    (ascending : l.Pairwise (· < ·)) (mem : d ∈ l) (passes : p d = true)
    (least : ∀ e ∈ l, p e = true → e ≠ d → d < e) : l.find? p = some d := by
  induction l with
  | nil => cases mem
  | cons a l ih =>
    obtain ⟨below, ascending⟩ := List.pairwise_cons.mp ascending
    by_cases same : a = d
    · rw [List.find?_cons_of_pos (same ▸ passes), same]
    · have later : d ∈ l := (List.mem_cons.mp mem).resolve_left (Ne.symm same)
      have fails : ¬p a = true := fun passes =>
        absurd (least a (List.mem_cons_self ..) passes same) (not_lt.mpr (below d later).le)
      rw [List.find?_cons_of_neg fails]
      exact ih ascending later fun e mem => least e (List.mem_cons_of_mem a mem)

section
variable {s t : State} {z : ZoneIx} {d : CoilIx}

theorem zoneCoils_ascending (s : State) (z : ZoneIx) : (zoneCoils s z).Pairwise (· < ·) :=
  (List.pairwise_lt_finRange 16).filter _

/-- The coil that a STAGGERED selection starts is the first eligible one from the pointer on, or else from coil 0. -/
theorem find?_pointerOrder {p : CoilIx → Bool} (here : InZone s z d) (passes : p d = true)
    (first : ∀ e, InZone s z e → p e = true → e ≠ d → ((s.zone z).pointer ≤ d → e < (s.zone z).pointer ∨ d < e)
      ∧ (d < (s.zone z).pointer → e < (s.zone z).pointer ∧ d < e)) :
    (pointerOrder s z).find? p = some d := by
  have inZone {e : CoilIx} {q : CoilIx → Bool} (mem : e ∈ (zoneCoils s z).filter q) : InZone s z e ∧ q e = true :=
    (List.mem_filter.mp mem).imp_left mem_zoneCoils.mp
  rw [pointerOrder, List.find?_append]
  rcases le_or_gt (s.zone z).pointer d with onward | back
  · rw [find?_of_least ((zoneCoils_ascending s z).filter _)
      (List.mem_filter.mpr ⟨mem_zoneCoils.mpr here, decide_eq_true onward⟩) passes]
    · rfl
    · intro e mem candidate other
      obtain ⟨there, from_⟩ := inZone mem
      exact ((first e there candidate other).1 onward).resolve_left (not_lt.mpr (of_decide_eq_true from_))
  · rw [List.find?_eq_none.mpr, find?_of_least ((zoneCoils_ascending s z).filter _)
      (List.mem_filter.mpr ⟨mem_zoneCoils.mpr here, decide_eq_true back⟩) passes]
    · rfl
    · intro e mem candidate other
      exact ((first e (inZone mem).1 candidate other).2 back).2
    · intro e mem candidate
      obtain ⟨there, from_⟩ := inZone mem
      have onward := of_decide_eq_true from_
      have other : e ≠ d := fun same => absurd back (not_lt.mpr (same ▸ onward))
      exact absurd ((first e there candidate other).2 back).1 (not_lt.mpr onward)

theorem selectStaggered_of_out (here : InZone s z d) (out : (s.coil d).phase ≠ .cool) :
    selectStaggered z s = (s, false) :=
  if_pos (List.any_eq_true.mpr ⟨d, mem_zoneCoils.mpr here, by simpa [Coil.outOfCool] using out⟩)

theorem selectStaggered_of_none
    (nobody : ∀ e, InZone s z e → ((s.coil e).eligible (s.zone z).quiet) = false) :
    selectStaggered z s = (s, false) := by
  have none : ((pointerOrder s z).find? fun c => (s.coil c).eligible (s.zone z).quiet) = none :=
    List.find?_eq_none.mpr fun e mem => ne_true_of_eq_false
      (nobody e (mem_zoneCoils.mp (mem_zoneCoils_of_pointerOrder mem)))
  simp [selectStaggered, none]

/-- The state with the pointer's coil started and the pointer moved past it (R103). -/
def startedOne (z : ZoneIx) (d : CoilIx) (s : State) : State :=
  (s.modCoil d fun k => k.started (s.zone z).quiet k.group).modZone z fun n => { n with pointer := d + 1 }

theorem selectStaggered_of_first (cool : ∀ e, InZone s z e → (s.coil e).phase = .cool)
    (found : ((pointerOrder s z).find? fun c => (s.coil c).eligible (s.zone z).quiet) = some d) :
    selectStaggered z s = beginDefrost z [d] (startedOne z d s) := by
  have inCool : ¬((zoneCoils s z).any fun c => (s.coil c).outOfCool) = true := by
    rw [List.any_eq_true]
    rintro ⟨e, mem, out⟩
    simp [Coil.outOfCool, cool e (mem_zoneCoils.mp mem)] at out
  rw [selectStaggered, if_neg inCool]
  dsimp only
  rw [found]
  rfl

end

/-! ## The group (R104) -/

section
variable {s t : State} {z : ZoneIx} {d : CoilIx}

/-- The unmasked coils of the zone start together. -/
def startedAll (z : ZoneIx) (s : State) : State :=
  s.modCoils (unmaskedCoils s z) fun k => k.started (s.zone z).quiet true

theorem forEach_modCoil {l : List CoilIx} (nodup : l.Nodup) (g : Coil → Coil) (s : State) :
    forEach l (fun c s => s.modCoil c g) s = s.modCoils l g := by
  induction l generalizing s with
  | nil => exact (State.modCoils_nil ..).symm
  | cons c l ih =>
    obtain ⟨new, nodup⟩ := List.nodup_cons.mp nodup
    rw [forEach_cons, ih nodup, State.modCoils_cons _ new]

/-- When a group starts (R104, R112). -/
theorem selectAll_eq (z : ZoneIx) (s : State) : selectAll z s =
    if ((unmaskedCoils s z).all (fun c => (s.coil c).phase == .cool && (s.coil c).spacingTimer.isNone)
        && (groupMembers s z).isEmpty) && (unmaskedCoils s z).any fun c => (s.coil c).wants (s.zone z).quiet
    then beginDefrost z (unmaskedCoils s z) (startedAll z s) else (s, false) := by
  rw [startedAll, ← forEach_modCoil (unmaskedCoils_nodup s z)]
  rfl

theorem selectAll_of_out (here : InZone s z d) (open_ : (s.coil d).mask = false)
    (out : (s.coil d).phase ≠ .cool ∨ (s.coil d).spacingTimer ≠ none) : selectAll z s = (s, false) := by
  have mem : d ∈ unmaskedCoils s z := mem_unmaskedCoils.mpr ⟨here.1, here.2, open_⟩
  have all : ((unmaskedCoils s z).all fun c => (s.coil c).phase == .cool && (s.coil c).spacingTimer.isNone) = false :=
    List.all_eq_false.mpr ⟨d, mem, by simpa [imp_iff_not_or] using out⟩
  rw [selectAll_eq, all]
  rfl

theorem selectAll_of_group (here : InZone s z d) (group : (s.coil d).group = true) : selectAll z s = (s, false) := by
  have some_ : (groupMembers s z).isEmpty = false :=
    List.isEmpty_eq_false_iff_exists_mem.mpr ⟨d, mem_groupMembers.mpr ⟨here, group⟩⟩
  rw [selectAll_eq, some_, Bool.and_false]
  rfl

theorem selectAll_of_content
    (content : ∀ d, InZone s z d → (s.coil d).mask = false → (s.coil d).wants (s.zone z).quiet = false) :
    selectAll z s = (s, false) := by
  have none : ((unmaskedCoils s z).any fun c => (s.coil c).wants (s.zone z).quiet) = false := by
    refine List.any_eq_false.mpr fun d mem => ne_true_of_eq_false ?_
    obtain ⟨loaded, zone, open_⟩ := mem_unmaskedCoils.mp mem
    exact content d ⟨loaded, zone⟩ open_
  rw [selectAll_eq, none, Bool.and_false]
  rfl

theorem selectAll_of_ready
    (ready : ∀ e, InZone s z e → (s.coil e).mask = false → (s.coil e).phase = .cool ∧ (s.coil e).spacingTimer = none)
    (ended : ∀ e, InZone s z e → (s.coil e).group = false) (here : InZone s z d) (open_ : (s.coil d).mask = false)
    (wants : (s.coil d).wants (s.zone z).quiet = true) :
    selectAll z s = beginDefrost z (unmaskedCoils s z) (startedAll z s) := by
  have all : ((unmaskedCoils s z).all fun c => (s.coil c).phase == .cool && (s.coil c).spacingTimer.isNone) = true := by
    refine List.all_eq_true.mpr fun e mem => ?_
    obtain ⟨loaded, zone, unmasked⟩ := mem_unmaskedCoils.mp mem
    obtain ⟨cool, spaced⟩ := ready e ⟨loaded, zone⟩ unmasked
    simp [cool, spaced]
  have none : groupMembers s z = [] := List.eq_nil_iff_forall_not_mem.mpr fun e mem =>
    have ⟨inZone, group⟩ := mem_groupMembers.mp mem
    Bool.false_ne_true ((ended e inZone).symm.trans group)
  have any : ((unmaskedCoils s z).any fun c => (s.coil c).wants (s.zone z).quiet) = true :=
    List.any_eq_true.mpr ⟨d, mem_unmaskedCoils.mpr ⟨here.1, here.2, open_⟩, wants⟩
  rw [selectAll_eq, all, none, any]
  rfl

end

/-! ## How the selected coils begin (R91, R107) -/

/-- The record of a coil that waits for the hold of its room. -/
def Coil.awaiting (k : Coil) : Coil := { k with phase := .portalWait }

section
variable {s t : State} {r : RoomIx} {c : CoilIx} {cs : List CoilIx}

/-- The coils' request of the hold, with its mark (R91, R107). -/
theorem beginDefrost_room (nodup : cs.Nodup) : beginDefrost (roomZone r) cs s
    = requestHold r (requestMark (s.modCoils cs Coil.awaiting) (roomZone r)) (s.modCoils cs Coil.awaiting) := by
  rw [← forEach_modCoil nodup, beginDefrost, zoneRoom?_roomZone]
  rfl

theorem requestHold_of_blocked {mark : Bool} (clear : (s.room r).hold = .clear)
    (blocked : ¬((s.room r).claims = [] ∧ (s.room r).state = .closed)) (still : (s.room r).holdOpenTimer = none) :
    requestHold r mark s = (s.modRoom r fun p => { p with hold := .waiting, holdForced := mark }, false) := by
  have held : (s.room r).holdGrantable = false :=
    Bool.eq_false_iff.mpr fun free => blocked (Room.holdGrantable_iff.mp free)
  simp only [requestHold, clear, held, still]
  rfl

theorem requestHold_of_free {mark : Bool} (clear : (s.room r).hold = .clear) (free : (s.room r).claims = [])
    (closed : (s.room r).state = .closed) :
    requestHold r mark s = grantHold r (s.modRoom r fun p => { p with holdForced := mark }) := by
  have grantable : (s.room r).holdGrantable = true := Room.holdGrantable_iff.mpr ⟨free, closed⟩
  simp only [requestHold, clear, grantable, if_true]

/-- A coil that waits for the hold enters PUMP_DOWN as it would from COOL. -/
theorem entersPumpDown_awaiting : entersPumpDown c (s.modCoil c Coil.awaiting) = entersPumpDown c s := by
  have entered (timer : Timer) : entersPhase c .pumpDown .pumpDown timer (s.modCoil c Coil.awaiting)
      = entersPhase c .pumpDown .pumpDown timer s := entersPhase_modCoil _ _ _ rfl
  have self : (s.modCoil c Coil.awaiting).coil c = (s.coil c).awaiting := State.coil_modCoil_self ..
  unfold entersPumpDown
  rw [self, entered]
  rfl

theorem State.modCoil_comm {d : CoilIx} (other : c ≠ d) (f g : Coil → Coil) :
    (s.modCoil d f).modCoil c g = (s.modCoil c g).modCoil d f := by
  have coils : ((s.modCoil d f).modCoil c g).coils = ((s.modCoil c g).modCoil d f).coils := by
    refine tget_ext fun e => ?_
    show ((s.modCoil d f).modCoil c g).coil e = ((s.modCoil c g).modCoil d f).coil e
    by_cases here : c = e
    · subst here
      rw [State.coil_modCoil_self, State.coil_modCoil_ne _ _ _ other.symm, State.coil_modCoil_ne _ _ _ other.symm,
        State.coil_modCoil_self]
    · rw [State.coil_modCoil_ne _ _ _ here, State.coil_modCoil, State.coil_modCoil, State.coil_modCoil_ne _ _ _ here,
        State.coil_modCoil_ne _ _ _ other]
  exact congrArg (fun coils => { s with coils := coils }) coils

theorem entersPumpDown_eq (c : CoilIx) (s : State) : entersPumpDown c s
    = raiseNotice .defrostStart (.coil c) (BitVec.ofInt 32 (s.coil c).owed)
        (((originateCoil c .pumpDown s).modCoil c
            fun k => k.commandedTo .pumpDown .pumpDown (some (s.coil c).pumpDown)).modZone (s.coil c).zone
          fun n => { n with window := .openDefrost, allowanceTimer := none }) := by
  have zones : (originateCoil c .pumpDown s).zones = s.zones := ((portOp_originateCoil ..).units s).zones
  unfold entersPumpDown
  rw [entersPhase_eq, State.modZone, tmod, State.modCoil_zones, zones]
  rfl

theorem entersPumpDown_modCoil {d : CoilIx} (other : c ≠ d) (f : Coil → Coil) :
    entersPumpDown c (s.modCoil d f) = (entersPumpDown c s).modCoil d f := by
  rw [entersPumpDown_eq, entersPumpDown_eq, State.coil_modCoil_ne _ _ _ other.symm,
    (portOp_originateCoil ..).modCoil, State.modCoil_comm other, ← (portOp_raiseNotice ..).modCoil]
  rfl

theorem entersPumpDown_modCoils {l : List CoilIx} (nodup : l.Nodup) (new : c ∉ l) (f : Coil → Coil) :
    entersPumpDown c (s.modCoils l f) = (entersPumpDown c s).modCoils l f := by
  induction l generalizing s with
  | nil => rw [State.modCoils_nil, State.modCoils_nil]
  | cons d l ih =>
    obtain ⟨unlisted, nodup⟩ := List.nodup_cons.mp nodup
    rw [List.mem_cons, not_or] at new
    rw [← State.modCoils_cons _ unlisted, ih nodup new.2, entersPumpDown_modCoil new.1, State.modCoils_cons _ unlisted]

/-- Coils that wait for the hold enter PUMP_DOWN in turn, as they would from COOL. -/
theorem foldl_entersPumpDown_awaiting (nodup : cs.Nodup) :
    cs.foldl (fun t c => entersPumpDown c t) (s.modCoils cs Coil.awaiting)
      = cs.foldl (fun t c => entersPumpDown c t) s := by
  induction cs generalizing s with
  | nil => rw [State.modCoils_nil]
  | cons c l ih =>
    obtain ⟨new, nodup⟩ := List.nodup_cons.mp nodup
    rw [← State.modCoils_cons _ new, List.foldl_cons, entersPumpDown_modCoils nodup new, entersPumpDown_awaiting,
      ih nodup, List.foldl_cons]

theorem holdSet_set_coils (mark : Bool) (coils : Vector Coil 16) :
    holdSet r mark { s with coils := coils } = { holdSet r mark s with coils := coils } :=
  (portOp_withdrawCommands r .doorOpen .defrostHold).set_coils
    { s with
      rooms := tset s.rooms r { s.room r with hold := .set, holdForced := mark, openDuringHold := false }
      originated := s.originated.filter fun o =>
        !decide (o.obj = .door r ∧ o.frame.payload.head? = some 0#8) } coils

theorem holdSet_modCoils (mark : Bool) (f : Coil → Coil) :
    holdSet r mark (s.modCoils cs f) = (holdSet r mark s).modCoils cs f := by
  rw [State.modCoils, holdSet_set_coils, State.modCoils]
  simp only [holdSet_coil]

end

section
variable {s t : State} {r : RoomIx} {z : ZoneIx} {c d : CoilIx} {cs : List CoilIx}

theorem modCoils_awaiting_fixed (d : CoilIx) : ((s.modCoils cs Coil.awaiting).coil d).loaded = (s.coil d).loaded
    ∧ ((s.modCoils cs Coil.awaiting).coil d).zone = (s.coil d).zone
    ∧ ((s.modCoils cs Coil.awaiting).coil d).forced = (s.coil d).forced := by
  rw [State.coil_modCoils]
  split <;> exact ⟨rfl, rfl, rfl⟩

theorem zoneCoils_awaiting : zoneCoils (s.modCoils cs Coil.awaiting) z = zoneCoils s z := by
  simp only [zoneCoils, fun d => (modCoils_awaiting_fixed (s := s) (cs := cs) d).1,
    fun d => (modCoils_awaiting_fixed (s := s) (cs := cs) d).2.1]

/-- The mark of the request that the selected coils make, beside coils of the zone that share none (R100). -/
theorem requestMark_awaiting (others : ∀ e, InZone s z e → e ∉ cs → (s.coil e).inRequest = false) :
    requestMark (s.modCoils cs Coil.awaiting) z
      = (zoneCoils s z).any fun e => decide (e ∈ cs) && (s.coil e).forced := by
  rw [requestMark, zoneCoils_awaiting]
  refine Bool.eq_iff_iff.mpr ?_
  simp only [List.any_eq_true, (modCoils_awaiting_fixed _).2.2, Bool.and_eq_true, decide_eq_true_eq]
  refine exists_congr fun e => and_congr_right fun mem => and_congr_left fun _ => ?_
  rw [State.coil_modCoils]
  by_cases listed : e ∈ cs
  · simp [listed, Coil.inRequest, Coil.awaiting]
  · simp [listed, others e (mem_zoneCoils.mp mem) listed]

/-- Selected coils that are granted the hold at once enter PUMP_DOWN (R91, R107). -/
theorem beginDefrost_granted (members : (zoneCoils s (roomZone r)).filter (fun e => decide (e ∈ cs)) = cs)
    (others : ∀ e, InZone s (roomZone r) e → e ∉ cs → (s.coil e).inRequest = false)
    (clear : (s.room r).hold = .clear) (free : (s.room r).claims = []) (closed : (s.room r).state = .closed) :
    beginDefrost (roomZone r) cs s
      = startPumpDown cs
          ((holdSet r ((zoneCoils s (roomZone r)).any fun e => decide (e ∈ cs) && (s.coil e).forced) s).modCoils cs
            Coil.awaiting) := by
  have nodup : cs.Nodup := members ▸ ((List.nodup_finRange 16).filter _).filter _
  have room : (s.modCoils cs Coil.awaiting).room r = s.room r := State.modCoils_room ..
  rw [beginDefrost_room nodup, requestHold_of_free (room.symm ▸ clear) (room.symm ▸ free) (room.symm ▸ closed),
    grantHold_eq, requestMark_awaiting others, ← holdSet_modCoils]
  refine congrArg (startPumpDown · _) (Eq.trans ?_ members)
  have zone (mark : Bool) : zoneCoils (holdSet r mark (s.modCoils cs Coil.awaiting)) (roomZone r)
      = zoneCoils s (roomZone r) := by
    simp only [zoneCoils, holdSet_coil]
    exact zoneCoils_awaiting
  rw [zone]
  refine List.filter_congr fun e mem => ?_
  rw [holdSet_coil, State.coil_modCoils]
  by_cases listed : e ∈ cs
  · simp [listed, Coil.awaiting]
  · have outside := others e (mem_zoneCoils.mp mem) listed
    simp only [Coil.inRequest, Bool.or_eq_false_iff] at outside
    simp [listed, outside.1.2]

/-- Selected coils that must wait for the hold (R91). -/
theorem beginDefrost_blocked (nodup : cs.Nodup)
    (others : ∀ e, InZone s (roomZone r) e → e ∉ cs → (s.coil e).inRequest = false)
    (clear : (s.room r).hold = .clear) (blocked : ¬((s.room r).claims = [] ∧ (s.room r).state = .closed))
    (still : (s.room r).holdOpenTimer = none) :
    beginDefrost (roomZone r) cs s
      = ((s.modCoils cs Coil.awaiting).modRoom r fun p =>
          { p with
            hold := .waiting
            holdForced := (zoneCoils s (roomZone r)).any fun e => decide (e ∈ cs) && (s.coil e).forced }, false) := by
  have room : (s.modCoils cs Coil.awaiting).room r = s.room r := State.modCoils_room ..
  rw [beginDefrost_room nodup, requestHold_of_blocked (room.symm ▸ clear) (room.symm ▸ blocked) (room.symm ▸ still),
    requestMark_awaiting others]

theorem State.modCoils_single (s : State) (c : CoilIx) (f : Coil → Coil) : s.modCoils [c] f = s.modCoil c f := by
  rw [← State.modCoils_cons _ (List.not_mem_nil (a := c)), State.modCoils_nil]

theorem startPumpDown_awaiting_single : startPumpDown [c] (s.modCoils [c] Coil.awaiting) = startPumpDown [c] s := by
  have time : ((s.modCoil c Coil.awaiting).coil c).pumpDown = (s.coil c).pumpDown := by
    rw [State.coil_modCoil_self]; rfl
  rw [startPumpDown_single, startPumpDown_single, State.modCoils_single, entersPumpDown_awaiting, time]

theorem startPumpDown_awaiting (nodup : cs.Nodup) (lasting : ∀ c ∈ cs, (s.coil c).pumpDown ≠ 0) :
    startPumpDown cs (s.modCoils cs Coil.awaiting) = (cs.foldl (fun t c => entersPumpDown c t) s, false) := by
  rw [startPumpDown_lasting, foldl_entersPumpDown_awaiting nodup]
  intro c mem
  rw [State.coil_modCoils, if_pos mem]
  exact lasting c mem

end

section
variable {s t : State} {r : RoomIx} {z : ZoneIx} {c d : CoilIx} {cs : List CoilIx}

/-- The coil with its spacing timer stopped. -/
def spacingElapsed (c : CoilIx) (s : State) : State := s.modCoil c fun k => { k with spacingTimer := none }

theorem spacingElapsed_coil (d : CoilIx) : (spacingElapsed c s).coil d
    = { s.coil d with spacingTimer := ((spacingElapsed c s).coil d).spacingTimer } := by
  rw [spacingElapsed, State.coil_modCoil]
  split
  · next same => exact same ▸ rfl
  · rfl

theorem exec_spacingTimerExpiry (due : (s.coil c).spacingTimer = some 0)
    (course : Course (s.coil c).zone (selectOnce (s.coil c).zone (spacingElapsed c s)) t) :
    exec (.spacingTimerExpiry c) s = .next t :=
  congrArg Host.Outcome.next ((whenDue_of_due (expireSpacing c) due).trans (selectZone_of_course course))

/-- The coils of a zone beside the pointer's coil, which starts. -/
theorem startedOne_coil (e : CoilIx) : (startedOne z d s).coil e
    = if d = e then (s.coil d).started (s.zone z).quiet (s.coil d).group else s.coil e := by
  rw [startedOne, State.modZone_coil, State.coil_modCoil]

/-- A coil that starts alone in its zone stays alone. -/
theorem CoilAlone.startedOne (alone : CoilAlone s d) : CoilAlone (startedOne z d s) d := by
  have self : (Machine.startedOne z d s).coil d = _ := (startedOne_coil d).trans (if_pos rfl)
  exact alone.of_kept (fun e other => (startedOne_coil e).trans (if_neg other.symm)) (by rw [self]; rfl)
    (by rw [self]; rfl) (by rw [self]; rfl) (by rw [self]; rfl)

theorem CoilAlone.spacingElapsed (alone : CoilAlone s d) : CoilAlone (spacingElapsed c s) d := by
  obtain ⟨single, paused, resting⟩ := alone
  unfold CoilAlone
  simp only [fun e => congrArg Coil.group (spacingElapsed_coil (s := s) (c := c) e),
    fun e => congrArg Coil.mask (spacingElapsed_coil (s := s) (c := c) e),
    fun e => congrArg Coil.minSpacing (spacingElapsed_coil (s := s) (c := c) e),
    fun e => congrArg Coil.loaded (spacingElapsed_coil (s := s) (c := c) e),
    fun e => congrArg Coil.zone (spacingElapsed_coil (s := s) (c := c) e),
    fun e => congrArg Coil.phase (spacingElapsed_coil (s := s) (c := c) e)]
  exact ⟨single, paused, resting⟩

/-- A coil that wants a defrost (R102). -/
theorem Coil.wants_iff {k : Coil} {quiet : Bool} :
    k.wants quiet = true ↔ k.pullIn = true ∨ (quiet = false ∧ k.start ≤ k.owed) := by
  cases quiet <;> simp [Coil.wants]

theorem Coil.eligible_iff {k : Coil} {quiet : Bool} : k.eligible quiet = true
    ↔ k.mask = false ∧ k.phase = .cool ∧ k.spacingTimer = none
      ∧ (k.pullIn = true ∨ (quiet = false ∧ k.start ≤ k.owed)) := by
  simp [Coil.eligible, Coil.wants_iff, and_assoc]

end

section
variable {s : State} {z : ZoneIx} {d : CoilIx}

/-- What a selection asks of one coil alone. -/
theorem any_single {f : Coil → Bool} (here : InZone s z d) :
    ((zoneCoils s z).any fun e => decide (e ∈ [d]) && f (s.coil e)) = f (s.coil d) := by
  refine Bool.eq_iff_iff.mpr ?_
  simp only [List.any_eq_true, mem_zoneCoils, List.mem_singleton, Bool.and_eq_true, decide_eq_true_eq]
  refine ⟨?_, fun passes => ⟨d, here, rfl, passes⟩⟩
  rintro ⟨e, -, rfl, passes⟩
  exact passes

theorem startedOne_of_single (single : (s.coil d).group = false) : startedOne z d s
    = { s with
        coils := tset s.coils d { s.coil d with pullIn := false, quietStart := (s.zone z).quiet, group := false }
        zones := tset s.zones z { s.zone z with pointer := d + 1 } } := by
  have record : (s.coil d).started (s.zone z).quiet (s.coil d).group
      = { s.coil d with pullIn := false, quietStart := (s.zone z).quiet, group := false } := by
    rw [single]
    rfl
  rw [← record]
  rfl

end

section
variable {s : State} {r : RoomIx} {z : ZoneIx} {d : CoilIx}

/-- The pointer's coil is granted the hold of its room at once (R91, R107). -/
theorem beginDefrost_one_granted (here : InZone s (roomZone r) d)
    (others : ∀ e, InZone s (roomZone r) e → e ≠ d → (s.coil e).inRequest = false)
    (clear : (s.room r).hold = .clear) (free : (s.room r).claims = []) (closed : (s.room r).state = .closed) :
    beginDefrost (roomZone r) [d] s = startPumpDown [d] (holdSet r (s.coil d).forced s) := by
  have alone : (zoneCoils s (roomZone r)).filter (fun e => decide (e ∈ [d])) = [d] :=
    filter_zoneCoils_single fun e => by
      rw [mem_zoneCoils, decide_eq_true_eq, List.mem_singleton]
      exact ⟨And.right, fun same => ⟨same ▸ here, same⟩⟩
  rw [beginDefrost_granted alone (fun e there unlisted => others e there (by simpa using unlisted)) clear free closed,
    any_single here, startPumpDown_awaiting_single]

/-- The pointer's coil waits for the hold of its room (R91). -/
theorem beginDefrost_one_blocked (here : InZone s (roomZone r) d)
    (others : ∀ e, InZone s (roomZone r) e → e ≠ d → (s.coil e).inRequest = false)
    (clear : (s.room r).hold = .clear) (blocked : ¬((s.room r).claims = [] ∧ (s.room r).state = .closed))
    (still : (s.room r).holdOpenTimer = none) :
    beginDefrost (roomZone r) [d] s
      = ((s.modCoil d Coil.awaiting).modRoom r
          fun p => { p with hold := .waiting, holdForced := (s.coil d).forced }, false) := by
  rw [beginDefrost_blocked (List.nodup_singleton d) (fun e there unlisted => others e there (by simpa using unlisted))
    clear blocked still, any_single here, State.modCoils_single]

theorem startedAll_coil (e : CoilIx) : (startedAll z s).coil e
    = if e ∈ unmaskedCoils s z then (s.coil e).started (s.zone z).quiet true else s.coil e := State.coil_modCoils ..

theorem startedAll_fixed (e : CoilIx) : ((startedAll z s).coil e).loaded = (s.coil e).loaded
    ∧ ((startedAll z s).coil e).zone = (s.coil e).zone ∧ ((startedAll z s).coil e).forced = (s.coil e).forced
    ∧ ((startedAll z s).coil e).pumpDown = (s.coil e).pumpDown := by
  rw [startedAll_coil]
  split <;> exact ⟨rfl, rfl, rfl, rfl⟩

theorem zoneCoils_startedAll : zoneCoils (startedAll z s) z = zoneCoils s z := by
  simp only [zoneCoils, fun e => (startedAll_fixed (s := s) (z := z) e).1,
    fun e => (startedAll_fixed (s := s) (z := z) e).2.1]

/-- The coils of the zone among its unmasked ones. -/
theorem filter_mem_unmaskedCoils :
    (zoneCoils s z).filter (fun e => decide (e ∈ unmaskedCoils s z)) = unmaskedCoils s z :=
  List.filter_congr fun e mem => by
    obtain ⟨loaded, zone⟩ := mem_zoneCoils.mp mem
    simp [mem_unmaskedCoils, loaded, zone]

/-- The mark of a group's request is the mark of any member (R100, R107). -/
theorem any_startedAll : ((zoneCoils (startedAll z s) z).any fun e =>
      decide (e ∈ unmaskedCoils s z) && ((startedAll z s).coil e).forced)
    = (unmaskedCoils s z).any fun e => (s.coil e).forced := by
  conv_rhs => rw [← filter_mem_unmaskedCoils]
  rw [zoneCoils_startedAll, List.any_filter]
  simp only [fun e => (startedAll_fixed (s := s) (z := z) e).2.2.1]

/-- The coils outside the group share no request, where each is in COOL or FAN_DELAY of no group. -/
theorem startedAll_apart
    (settled : ∀ e, InZone s z e → (s.coil e).group = false ∧ ((s.coil e).phase = .cool ∨ (s.coil e).phase = .fanDelay))
    (e : CoilIx) (here : InZone (startedAll z s) z e) (unlisted : e ∉ unmaskedCoils s z) :
    ((startedAll z s).coil e).inRequest = false := by
  rw [InZone, (startedAll_fixed e).1, (startedAll_fixed e).2.1] at here
  obtain ⟨group, phase⟩ := settled e here
  rw [startedAll_coil, if_neg unlisted]
  rcases phase with phase | phase <;> simp [Coil.inRequest, CoilPhase.underHold, group, phase]

section
variable (settled : ∀ e, InZone s (roomZone r) e →
    (s.coil e).group = false ∧ ((s.coil e).phase = .cool ∨ (s.coil e).phase = .fanDelay))
  (clear : (s.room r).hold = .clear)
include settled clear

/-- A group is granted the hold of its room at once, and its members enter PUMP_DOWN in turn (R91, R107). -/
theorem beginDefrost_all_granted (free : (s.room r).claims = []) (closed : (s.room r).state = .closed)
    (lasting : ∀ e ∈ unmaskedCoils s (roomZone r), (s.coil e).pumpDown ≠ 0) :
    beginDefrost (roomZone r) (unmaskedCoils s (roomZone r)) (startedAll (roomZone r) s)
      = ((unmaskedCoils s (roomZone r)).foldl (fun t e => entersPumpDown e t)
          (holdSet r ((unmaskedCoils s (roomZone r)).any fun e => (s.coil e).forced) (startedAll (roomZone r) s)),
        false) := by
  have room : (startedAll (roomZone r) s).room r = s.room r := State.modCoils_room ..
  have members : (zoneCoils (startedAll (roomZone r) s) (roomZone r)).filter
      (fun e => decide (e ∈ unmaskedCoils s (roomZone r))) = unmaskedCoils s (roomZone r) := by
    rw [zoneCoils_startedAll, filter_mem_unmaskedCoils]
  rw [beginDefrost_granted members (startedAll_apart settled) (room.symm ▸ clear) (room.symm ▸ free)
    (room.symm ▸ closed), any_startedAll, startPumpDown_awaiting (unmaskedCoils_nodup ..)]
  intro e mem
  rw [holdSet_coil, (startedAll_fixed e).2.2.2]
  exact lasting e mem

/-- A group waits for the hold of its room (R91). -/
theorem beginDefrost_all_blocked (blocked : ¬((s.room r).claims = [] ∧ (s.room r).state = .closed))
    (still : (s.room r).holdOpenTimer = none) :
    beginDefrost (roomZone r) (unmaskedCoils s (roomZone r)) (startedAll (roomZone r) s)
      = (((startedAll (roomZone r) s).modCoils (unmaskedCoils s (roomZone r)) Coil.awaiting).modRoom r fun p =>
          { p with
            hold := .waiting, holdForced := (unmaskedCoils s (roomZone r)).any fun e => (s.coil e).forced },
        false) := by
  have room : (startedAll (roomZone r) s).room r = s.room r := State.modCoils_room ..
  rw [beginDefrost_blocked (unmaskedCoils_nodup ..) (startedAll_apart settled) (room.symm ▸ clear)
    (room.symm ▸ blocked) (room.symm ▸ still), any_startedAll]

end

/-- What follows when one coil begins alone: it stays in PUMP_DOWN, or runs on by itself. -/
theorem startPumpDown_course (here : (s.coil d).zone = z) :
    ((s.coil d).pumpDown ≠ 0 → Course z (startPumpDown [d] s) (entersPumpDown d s))
      ∧ ∀ rooms, CoilAlone s d → HoldReleased s z rooms → Course z (startPumpDown [d] s) (pumpsAlone d rooms s) := by
  subst here
  refine ⟨fun lasting => ?_, fun rooms alone released => pumpsAlone_course alone released⟩
  rw [startPumpDown_lasting (by simpa using lasting)]
  exact course_of_lasting ..

end

/-- Settles O53: a selection starts the pointer's coil, or the whole group, which asks for the hold of its room. -/
theorem selectionStartsDefrosts : Obligations.SelectionStartsDefrosts := by
  intro s c z due zone active inUse elapsed n mine spaced wants begun waits nothing answers asksAt atOnce
  have coil (d : CoilIx) : elapsed.coil d = { s.coil d with spacingTimer := (elapsed.coil d).spacingTimer } :=
    spacingElapsed_coil d
  have here (d : CoilIx) : InZone elapsed z d ↔ mine d := by rw [InZone, coil]
  have run {t : State} (course : Course z (selectOnce z elapsed) t) : answers t := by
    subst zone
    exact exec_spacingTimerExpiry due course
  have lands {t : State} (is : selectOnce z elapsed = (t, false)) : answers t := run (is ▸ course_of_lasting ..)
  have rests (still : selectOnce z elapsed = (elapsed, false)) : nothing := lands still
  have wants_iff (d : CoilIx) : (elapsed.coil d).wants n.quiet = true ↔ wants d := by
    rw [Coil.wants_iff, coil]
  constructor
  · intro staggered eligible first turned
    have selects : selectOnce z elapsed = selectStaggered z elapsed := selectOnce_staggered active inUse staggered
    have eligible_iff (d : CoilIx) (inZone : mine d) : (elapsed.coil d).eligible n.quiet = true ↔ eligible d := by
      rw [Coil.eligible_iff, coil]
      exact ⟨fun passes => ⟨inZone, passes⟩, fun passes => passes.2⟩
    constructor
    · rintro (⟨d, inZone, out⟩ | nobody)
      · refine rests (selects.trans (selectStaggered_of_out ((here d).mpr inZone) ?_))
        rwa [coil]
      · refine rests (selects.trans (selectStaggered_of_none fun e inZone => Bool.eq_false_iff.mpr fun candidate => ?_))
        exact nobody e ((eligible_iff e ((here e).mp inZone)).mp candidate)
    · intro d cool isFirst k chosen goes
      obtain ⟨⟨inZone, rest⟩, least⟩ := isFirst
      have single (e : CoilIx) (there : mine e) : (elapsed.coil e).group = false := by
        rw [coil]
        exact (cool e there).2
      have chosen_eq : startedOne z d elapsed = chosen := startedOne_of_single (single d inZone)
      have self : chosen.coil d = begun false k := tget_tset_self ..
      have others (e : CoilIx) (other : e ≠ d) : chosen.coil e = elapsed.coil e := tget_tset_ne _ _ other.symm
      have inChosen : InZone chosen z d := by
        rw [InZone, self]
        exact (here d).mpr inZone
      have started : selectOnce z elapsed = beginDefrost z [d] chosen := by
        rw [selects, ← chosen_eq]
        refine selectStaggered_of_first (fun e inZone => ?_) (find?_pointerOrder ((here d).mpr inZone) ?_ ?_)
        · rw [coil]
          exact (cool e ((here e).mp inZone)).1
        · exact (eligible_iff d inZone).mpr ⟨inZone, rest⟩
        · exact fun e inZone candidate other =>
            least e ((eligible_iff e ((here e).mp inZone)).mp candidate) other
      have going {u : State} (begins : selectOnce z elapsed = startPumpDown [d] u) (same : u.coils = chosen.coils) :
          goes u := by
        have coil_u : u.coil d = begun false k := (congrArg (tget · d) same).trans self
        obtain ⟨lasts, runsOn⟩ := startPumpDown_course (s := u) (d := d) (z := z) (by rw [coil_u, ← inChosen.2, self])
        refine ⟨fun lasting => run (begins ▸ lasts (coil_u.symm ▸ lasting)), fun rooms alone released => ?_⟩
        have after : CoilAlone chosen d := chosen_eq ▸ alone.spacingElapsed.startedOne
        exact run (begins ▸ runsOn rooms (after.of_coils same) released)
      constructor
      · rintro rfl
        exact going started rfl
      · rintro r ⟨rfl, clear⟩
        have apart (e : CoilIx) (there : InZone chosen (roomZone r) e) (other : e ≠ d) :
            (chosen.coil e).inRequest = false := by
          rw [InZone, others e other] at there
          rw [others e other, coil]
          simp [Coil.inRequest, CoilPhase.underHold, cool e ((here e).mp there)]
        constructor
        · intro blocked still
          have coils : tmod chosen.coils d Coil.awaiting = tset elapsed.coils d (waits false k) := by
            rw [tmod, tget_tset_self, tset_tset]
            rfl
          have begins := started.trans (beginDefrost_one_blocked inChosen apart clear blocked still)
          rw [self, State.modCoil, coils] at begins
          exact lands begins
        · intro free
          have begins := started.trans (beginDefrost_one_granted inChosen apart clear free.1 free.2)
          rw [self] at begins
          exact going begins (holdSet_coils ..)
  · intro all member joins chosen forced goes
    have selects : selectOnce z elapsed = selectAll z elapsed := selectOnce_all active inUse all
    constructor
    · rintro (⟨d, inZone, out⟩ | ⟨d, inZone, group⟩ | content)
      · refine rests (selects.trans (selectAll_of_out ((here d).mpr inZone.1) ?_ ?_))
        · rw [coil]
          exact inZone.2
        · rw [coil]
          exact out
      · refine rests (selects.trans (selectAll_of_group ((here d).mpr inZone) ?_))
        rwa [coil]
      · refine rests (selects.trans (selectAll_of_content fun d inZone open_ => ?_))
        rw [coil] at open_
        exact Bool.eq_false_iff.mpr fun wanting => content d ⟨(here d).mp inZone, open_⟩ ((wants_iff d).mp wanting)
    · rintro ready ⟨d, ⟨inZone, open_⟩, wanting⟩ settled
      have joins_iff (e : CoilIx) : joins e = true ↔ member e := by simp [joins, member, mine]
      have members : unmaskedCoils elapsed z = (List.finRange 16).filter joins := by
        rw [unmaskedCoils, zoneCoils, List.filter_filter]
        refine List.filter_congr fun e _ => ?_
        rw [coil, Bool.and_comm]
      have listed (e : CoilIx) : e ∈ unmaskedCoils elapsed z ↔ joins e = true := by
        rw [members, List.mem_filter]
        simp
      have forced_eq : ((unmaskedCoils elapsed z).any fun e => (elapsed.coil e).forced) = forced := by
        rw [members, List.any_filter]
        simp only [fun e => congrArg Coil.forced (coil e), forced]
      have chosen_eq : startedAll z elapsed = chosen := by
        simp only [startedAll, State.modCoils, listed]
        rfl
      have started : selectOnce z elapsed = beginDefrost z (unmaskedCoils elapsed z) (startedAll z elapsed) := by
        rw [selects]
        refine selectAll_of_ready (fun e there unmasked => ?_) (fun e there => ?_) ((here d).mpr inZone) ?_ ?_
        · rw [coil] at unmasked
          obtain ⟨cool, spaced⟩ := ready e ⟨(here e).mp there, unmasked⟩
          refine ⟨?_, spaced⟩
          rw [coil]
          exact cool
        · rw [coil]
          exact (settled e ((here e).mp there)).1
        · rw [coil]
          exact open_
        · exact (wants_iff d).mpr wanting
      have lasts (lasting : ∀ d, member d → (s.coil d).pumpDown ≠ 0) :
          ∀ e ∈ unmaskedCoils elapsed z, (elapsed.coil e).pumpDown ≠ 0 := by
        intro e mem
        rw [coil]
        exact lasting e ((joins_iff e).mp ((listed e).mp mem))
      have apart (e : CoilIx) (there : InZone elapsed z e) :
          (elapsed.coil e).group = false ∧ ((elapsed.coil e).phase = .cool ∨ (elapsed.coil e).phase = .fanDelay) := by
        rw [coil]
        exact settled e ((here e).mp there)
      constructor
      · rintro rfl lasting
        have begins : selectOnce 0 elapsed = _ := started.trans
          (startPumpDown_lasting fun e mem => (startedAll_fixed e).2.2.2.symm ▸ lasts lasting e mem)
        rw [members, chosen_eq] at begins
        exact lands begins
      · rintro r ⟨rfl, clear⟩
        constructor
        · intro blocked still
          have coils : (Vector.ofFn fun e =>
                if e ∈ unmaskedCoils elapsed (roomZone r) then ((startedAll (roomZone r) elapsed).coil e).awaiting
                else (startedAll (roomZone r) elapsed).coil e)
              = Vector.ofFn fun e => if joins e then waits true (elapsed.coil e) else elapsed.coil e := by
            refine congrArg Vector.ofFn (funext fun e => ?_)
            simp only [startedAll_coil, listed]
            split <;> rfl
          have begins := started.trans (beginDefrost_all_blocked apart clear blocked still)
          rw [forced_eq, State.modCoils, coils, chosen_eq] at begins
          exact lands begins
        · intro free lasting
          have begins := started.trans (beginDefrost_all_granted apart clear free.1 free.2 (lasts lasting))
          rw [forced_eq, members, chosen_eq] at begins
          exact lands begins

end Sys2Proof.Machine
end

section
/-! SUPPORT. CLEAR_TABLE (R172): every table returns to power-on, and what becomes of the pallets, with the statement
O36. -/

namespace Sys2Proof.Machine

/-! ## Pallets that lose their deck (R127, R134) -/

section
variable {s t : State} {u : ShuttleIx}

/-- The record of a pallet that stood on a deck: UNPLACED, on the dock (R127). -/
def Pallet.unplaced (p : Pallet) : Pallet := { p with location := .unplaced, status := .dock }

/-- The record that carries an identifier is moved, and no other. -/
theorem locatePallet_pallet (distinct : PalletsDistinct s) (id : PalletId) (loc : Location) (st : PalletStatus)
    (i : PalletIx) : (locatePallet id loc st s).pallet i
      = (s.pallet i).map fun p => if p.id = id then { p with location := loc, status := st } else p := by
  by_cases known : ∃ j q, s.pallet j = some q ∧ q.id = id
  · obtain ⟨j, q, record, carries⟩ := known
    rw [locatePallet, palletIx?_eq_some distinct record carries]
    dsimp only
    by_cases same : j = i
    · subst same
      rw [State.pallet_modPallet_self, record, Option.map_some, Option.map_some, if_pos carries]
    · rw [State.pallet_modPallet_ne _ _ _ same]
      cases other : s.pallet i with
      | none => rfl
      | some p =>
        have differs : p.id ≠ id := fun has => same (distinct j i q p record other (carries.trans has.symm))
        rw [Option.map_some, if_neg differs]
  · have unknown : ∀ j q, s.pallet j = some q → q.id ≠ id := fun j q record has => known ⟨j, q, record, has⟩
    rw [locatePallet, palletIx?_eq_none unknown]
    cases record : s.pallet i with
    | none => rfl
    | some p => rw [Option.map_some, if_neg (unknown i p record)]

/-- The pallet on the deck is unplaced. -/
theorem unplaceDeck_pallet (distinct : PalletsDistinct s) (u : ShuttleIx) (i : PalletIx) :
    (unplaceDeck u s).pallet i
      = (s.pallet i).map fun p => if (s.shuttle u).deck = some p.id then p.unplaced else p := by
  unfold unplaceDeck
  split
  · next id deck =>
    have distinct' : PalletsDistinct (s.modShuttle u fun v => { v with deck := none }) := distinct
    rw [locatePallet_pallet distinct']
    simp only [deck, Option.some.injEq, State.modShuttle_pallet]
    refine congrArg (Option.map · _) (funext fun p => ?_)
    exact if_congr eq_comm rfl rfl
  · next deck =>
    simp only [deck, reduceCtorEq, if_false]
    exact Option.map_id'.symm

/-- Nothing but shuttle and pallet records has changed. -/
def RailsOnly (s t : State) : Prop := t = { s with shuttles := t.shuttles, pallets := t.pallets }

theorem RailsOnly.refl (s : State) : RailsOnly s s := rfl

theorem RailsOnly.trans {u : State} (h : RailsOnly s t) (k : RailsOnly t u) : RailsOnly s u := by
  unfold RailsOnly at h k ⊢
  rw [k, h]

theorem locatePallet_railsOnly (id : PalletId) (loc : Location) (st : PalletStatus) (s : State) :
    RailsOnly s (locatePallet id loc st s) := by
  unfold locatePallet
  split <;> rfl

theorem unplaceDeck_railsOnly (u : ShuttleIx) (s : State) : RailsOnly s (unplaceDeck u s) := by
  unfold unplaceDeck
  split
  · exact RailsOnly.trans (t := s.modShuttle u _) rfl (locatePallet_railsOnly ..)
  · rfl

theorem locatePallet_shuttles (id : PalletId) (loc : Location) (st : PalletStatus) (s : State) :
    (locatePallet id loc st s).shuttles = s.shuttles := by
  unfold locatePallet
  split <;> rfl

theorem unplaceDeck_shuttle {v : ShuttleIx} (other : u ≠ v) : (unplaceDeck u s).shuttle v = s.shuttle v := by
  unfold unplaceDeck
  split
  · exact (congrArg (tget · v) (locatePallet_shuttles ..)).trans (State.shuttle_modShuttle_ne _ _ _ other)
  · rfl

/-- A pallet's record once the decks of some shuttles are unplaced. -/
def Pallet.unplacedFrom (s : State) (l : List ShuttleIx) (p : Pallet) : Pallet :=
  if l.any fun u => (s.shuttle u).deck == some p.id then p.unplaced else p

/-- Every deck of a list is unplaced. -/
theorem forEach_unplaceDeck {l : List ShuttleIx} (nodup : l.Nodup) (distinct : PalletsDistinct s) (i : PalletIx) :
    (forEach l unplaceDeck s).pallet i = (s.pallet i).map (Pallet.unplacedFrom s l) := by
  induction l generalizing s with
  | nil => exact Option.map_id'.symm
  | cons u l ih =>
    obtain ⟨new, nodup⟩ := List.nodup_cons.mp nodup
    have decks (id : PalletId) : (l.any fun v => ((unplaceDeck u s).shuttle v).deck == some id)
        = l.any fun v => (s.shuttle v).deck == some id :=
      Bool.eq_iff_iff.mpr <| by
        simp only [List.any_eq_true]
        exact exists_congr fun v => and_congr_right fun mem => by
          have other : u ≠ v := fun same => new (same ▸ mem)
          rw [unplaceDeck_shuttle other]
    rw [forEach_cons, ih nodup ((unplaceDeck_wave u s).distinct distinct), unplaceDeck_pallet distinct, Option.map_map]
    refine congrArg (Option.map · _) (funext fun p => ?_)
    simp only [Function.comp, Pallet.unplacedFrom, decks, List.any_cons]
    by_cases here : (s.shuttle u).deck = some p.id
    · simp only [here, if_true, beq_self_eq_true, Bool.true_or]
      split <;> rfl
    · simp only [here, if_false, beq_eq_false_iff_ne.mpr here, Bool.false_or]

theorem Pallet.unplacedFrom_of_deck {p : Pallet} (deck : (s.shuttle u).deck = some p.id) :
    Pallet.unplacedFrom s (indices 4) p = p.unplaced :=
  if_pos (List.any_eq_true.mpr ⟨u, List.mem_finRange u, by simp [deck]⟩)

theorem Pallet.unplacedFrom_of_elsewhere {p : Pallet} (elsewhere : ∀ u, (s.shuttle u).deck ≠ some p.id) :
    Pallet.unplacedFrom s (indices 4) p = p :=
  if_neg (ne_true_of_eq_false (List.any_eq_false.mpr fun u _ => by simpa using elsewhere u))

end

/-! ## CLEAR_TABLE (R172) -/

section
variable {s t : State} {q : Sender} {table : Byte}

theorem exec_clearTable_of_config (from_ : FromManager q s) (config : s.mode = .config) :
    exec (.clearTable q table) s = .next ((clearDecision table.toNat s).answer q s) :=
  congrArg _ (takeRequest_of_admitted from_.2 from_.admits (by rw [config]; rfl))

theorem exec_clearTable_of_active (from_ : FromManager q s) (active : s.mode = .active) :
    exec (.clearTable q table) s = .next (joinReply (replyFrame s q 1 6 []) s) :=
  congrArg _ (takeRequest_of_wrong_mode from_ (by rw [active]; rfl))

/-- There are the ten tables of Table 11-3 (R172). -/
theorem clearDecision_of_unknown (unknown : table = 0#8 ∨ 10 < table.toNat) :
    clearDecision table.toNat s = .refused .badTable := by
  rcases unknown with rfl | above
  · rfl
  · obtain ⟨n, code⟩ : ∃ n, table.toNat = n + 11 := ⟨table.toNat - 11, by omega⟩
    rw [code]
    rfl

theorem Pallet.laneCleared_of_elsewhere {p : Pallet} (elsewhere : ∀ l, p.location ≠ .lane l) :
    p.laneCleared = p := by
  unfold Pallet.laneCleared
  split
  · next l lane => exact absurd lane (elsewhere l)
  all_goals rfl

theorem clearLanes_eq (s : State) : clearLanes s
    = { s with lanes := State.reset.lanes, pallets := (clearLanes s).pallets } := rfl

theorem clearShuttles_pallet (distinct : PalletsDistinct s) (i : PalletIx) :
    (clearShuttles s).pallet i = (s.pallet i).map (Pallet.unplacedFrom s (indices 4)) := by
  rw [← forEach_unplaceDeck (l := indices 4) (List.nodup_finRange 4) distinct, State.pallet, State.pallet]
  unfold clearShuttles
  dsimp only

theorem clearShuttles_eq (s : State) : clearShuttles s
    = { s with shuttles := State.reset.shuttles, pallets := (clearShuttles s).pallets } := by
  have rails : RailsOnly s (forEach (indices 4) unplaceDeck s) :=
    forEach_rel RailsOnly RailsOnly.refl RailsOnly.trans _ _ (fun u _ s => unplaceDeck_railsOnly u s) s
  unfold clearShuttles
  dsimp only
  rw [rails]
  rfl

/-- With the probe table in its power-on state no probe binds a coil (R57). -/
theorem clearProbes_coil (c : CoilIx) :
    (dropUnboundReadings { s with probes := State.reset.probes }).coil c
      = { s.coil c with probeState := .none, probeValue := none } := by
  have unbound : ¬hasProbe { s with probes := State.reset.probes } c = true := by
    rw [hasProbe_iff]
    rintro ⟨j, loaded, -⟩
    have reset : (tget (Vector.replicate 32 Probe.reset) j).loaded = true := loaded
    rw [tget_replicate] at reset
    exact Bool.false_ne_true reset
  rw [dropUnboundReadings_coil, if_neg unbound]
  rfl

end

/-- Settles O36: the decision of CLEAR_TABLE, table by table. -/
theorem clearedTablesReturnToPowerOn : Obligations.ClearedTablesReturnToPowerOn := by
  intro s q table from_ cleared refused
  refine ⟨exec_clearTable_of_active from_, fun config => ?_⟩
  have clears {t : State} (decided : clearDecision table.toNat s = .accepted [] t) : cleared t := by
    show exec (.clearTable q table) s = _
    rw [exec_clearTable_of_config from_ config, decided]
    rfl
  refine ⟨fun unknown => ?_, ?_, ?_, ?_, ?_, ?_, ?_, ?_, ?_, ?_, ?_⟩
  · show exec (.clearTable q table) s = _
    rw [exec_clearTable_of_config from_ config, clearDecision_of_unknown unknown]
    rfl
  · rintro rfl
    exact clears rfl
  · rintro rfl
    exact clears rfl
  · rintro rfl
    exact ⟨_, clears rfl, rfl, clearProbes_coil⟩
  · rintro rfl
    exact clears rfl
  · rintro rfl
    exact clears rfl
  · rintro rfl
    exact clears rfl
  · rintro rfl
    have pallet (i : PalletIx) : (clearLanes s).pallet i = (s.pallet i).map Pallet.laneCleared := tget_tmap ..
    refine ⟨clearLanes s, clears rfl, clearLanes_eq s, fun i unused => ?_,
      fun i p record => ⟨?_, fun elsewhere => ?_⟩⟩
    · rw [pallet, unused]
      rfl
    · rintro ⟨l, lane⟩
      rw [pallet, record, Option.map_some, Pallet.laneCleared, lane]
    · rw [pallet, record, Option.map_some, Pallet.laneCleared_of_elsewhere elsewhere]
  · rintro rfl
    exact clears rfl
  · rintro rfl distinct
    have pallet := clearShuttles_pallet distinct
    have done : cleared (clearShuttles s) := clears rfl
    have frame := clearShuttles_eq s
    refine ⟨clearShuttles s, done, frame, fun i unused => ?_,
      fun i p record => ⟨?_, fun elsewhere => ?_⟩⟩
    · rw [pallet, unused]
      rfl
    · rintro ⟨u, deck⟩
      rw [pallet, record, Option.map_some, Pallet.unplacedFrom_of_deck deck]
      rfl
    · rw [pallet, record, Option.map_some, Pallet.unplacedFrom_of_elsewhere elsewhere]
  · rintro rfl
    exact ⟨clearPallets s, clears rfl, rfl, fun l => tget_tmap .., fun u => tget_tmap ..⟩

end Sys2Proof.Machine
end

section
/-! SUPPORT. ACTIVATE (R173, R174): the first offence in the order of the tables, and the activation values, with the
statement O37. -/

namespace Sys2Proof.Machine

/-! ## The first offence (R173) -/

/-- A search answers the least pair of a relation, by table code and index, and nothing where no pair is in it. -/
structure FindsLeast (o : Option (Nat × Nat)) (P : Nat → Nat → Prop) : Prop where
  least : ∀ a b, P a b → (∀ c d, P c d → a < c ∨ (a = c ∧ b ≤ d)) → o = some (a, b)
  none : (∀ a b, ¬P a b) → o = none

/-- One table's search. -/
theorem findsLeast_firstBad (k n : Nat) (bad : Fin n → Bool) :
    FindsLeast ((firstBad n bad).map (k, ·)) fun a b => ∃ i : Fin n, a = k ∧ b = i.val ∧ bad i = true where
  least := by
    rintro a b ⟨i, rfl, rfl, offends⟩ first
    have found : (indices n).find? bad = some i := by
      refine find?_of_least (List.pairwise_lt_finRange n) (List.mem_finRange i) offends fun j _ also other => ?_
      have after : i.val ≤ j.val :=
        (first _ j ⟨j, rfl, rfl, also⟩).elim (fun lt => absurd lt (lt_irrefl _)) And.right
      exact lt_of_le_of_ne after fun same => other same.symm
    rw [firstBad, found]
    rfl
  none := by
    intro nobody
    have missing : (indices n).find? bad = .none :=
      List.find?_eq_none.mpr fun i _ offends => nobody k i ⟨i, rfl, rfl, offends⟩
    rw [firstBad, missing]
    rfl

/-- A search that goes on, where the first finds nothing, in tables of higher codes. -/
theorem FindsLeast.orElse {o o' : Option (Nat × Nat)} {P P' : Nat → Nat → Prop} (first : FindsLeast o P)
    (second : FindsLeast o' P') (below : ∀ a b c d, P a b → P' c d → a < c) :
    FindsLeast (o <|> o') fun a b => P a b ∨ P' a b where
  least := by
    rintro a b (here | there) least
    · rw [first.least a b here fun c d also => least c d (.inl also)]
      rfl
    · have nobody : ∀ c d, ¬P c d := fun c d earlier => by
        have := below c d a b earlier there
        rcases least c d (.inl earlier) with later | ⟨same, -⟩ <;> omega
      rw [first.none nobody, second.least a b there fun c d also => least c d (.inr also)]
      rfl
  none nobody := by
    rw [first.none fun a b here => nobody a b (.inl here), second.none fun a b there => nobody a b (.inr there)]
    rfl

/-- An entry that offends, by its table code and its index. -/
def Offends (s : State) (a b : Nat) : Prop :=
  (∃ i : Fin 32, a = 3 ∧ b = i.val ∧ probeOffends s i = true)
    ∨ (∃ z : Fin 8, a = 4 ∧ b = z.val ∧ zoneOffends s z = true)
    ∨ (∃ i : Fin 23, a = 5 ∧ b = i.val ∧ portalOffends s i = true)
    ∨ (∃ c : Fin 16, a = 6 ∧ b = c.val ∧ coilOffends s c = true)
    ∨ (∃ l : Fin 48, a = 7 ∧ b = l.val ∧ laneOffends s l = true)
    ∨ ∃ u : Fin 4, a = 9 ∧ b = u.val ∧ shuttleOffends s u = true

theorem firstOffence_findsLeast (s : State) : FindsLeast (firstOffence s) (Offends s) := by
  refine (findsLeast_firstBad 3 32 _).orElse ((findsLeast_firstBad 4 8 _).orElse ((findsLeast_firstBad 5 23 _).orElse
    ((findsLeast_firstBad 6 16 _).orElse ((findsLeast_firstBad 7 48 _).orElse (findsLeast_firstBad 9 4 _) ?_) ?_) ?_)
    ?_) ?_
  all_goals
    rintro a b c d ⟨_, rfl, -⟩ later
    omega

section
variable {s : State}

theorem probeOffends_iff (i : ProbeIx) : probeOffends s i = true ↔ (s.probe i).loaded = true
    ∧ ((∃ z, (s.probe i).binding = .zone z ∧ ((s.zone z).inUse ≠ true ∨ 4 ≤ earlierProbes s i))
      ∨ ∃ c, (s.probe i).binding = .coil c ∧ ((s.coil c).loaded = false ∨ 1 ≤ earlierProbes s i)) := by
  unfold probeOffends
  cases binding : (s.probe i).binding <;> simp [binding]

theorem earlierProbes_eq (i : ProbeIx) : earlierProbes s i = ((List.finRange 32).filter fun j =>
    decide (j < i ∧ (s.probe j).loaded = true ∧ (s.probe j).binding = (s.probe i).binding)).length := by
  refine congrArg List.length (List.filter_congr fun j _ => Bool.eq_iff_iff.mpr ?_)
  simp [and_assoc]

theorem zoneOffends_iff (z : ZoneIx) : zoneOffends s z = true ↔ (z = 0 ∧ (s.zone z).inUse ≠ true)
    ∨ ((s.zone z).inUse = true
      ∧ ((s.zone z).alarm < (s.zone z).warn ∨ (s.zone z).eAlarm < (s.zone z).eWarn)) := by
  simp [zoneOffends, Zone.ordered]

theorem coilOffends_iff (c : CoilIx) : coilOffends s c = true ↔ (s.coil c).loaded = true
    ∧ ((s.zone (s.coil c).zone).inUse ≠ true ∨ (s.coil c).limit < (s.coil c).start) := by
  simp [coilOffends]

theorem portalOffends_dock (p : DockIx) (lt : p.val < 23) : portalOffends s ⟨p.val, lt⟩ = true
    ↔ (s.dock p).loaded = true ∧ ((s.dock p).sealOk ≤ (s.dock p).sealLow
      ∨ ¬((s.lane (s.dock p).receiveLane).loaded = true ∧ (s.lane (s.dock p).receiveLane).zone = 0)
      ∨ ¬((s.lane (s.dock p).dispatchLane).loaded = true ∧ (s.lane (s.dock p).dispatchLane).zone = 0)) := by
  simp only [portalOffends, portalKind_dock]
  simp only [dockLaneOk, Bool.and_eq_true, Bool.not_eq_true', ← Bool.not_eq_true, not_and_or, decide_eq_true_eq,
    not_lt, or_assoc]

theorem portalOffends_room (r : RoomIx) (lt : 16 + r.val < 23) : portalOffends s ⟨16 + r.val, lt⟩ = true
    ↔ (s.zone (roomZone r)).inUse = true ∧ (s.room r).loaded = false := by
  simp only [portalOffends, portalKind_room]
  simp

theorem Shuttle.segment?_eq_dock {v : Shuttle} {p : RailPos} :
    v.segment? p = some .dock ↔ v.dockLow ≤ p ∧ p ≤ v.dockHigh := by
  unfold Shuttle.segment?
  rw [ite_eq_iff]
  simp

theorem Shuttle.onDock_iff {v : Shuttle} {p : RailPos} :
    v.onDock p = true ↔ v.dockLow ≤ p ∧ p ≤ v.dockHigh := by
  rw [Shuttle.onDock, beq_iff_eq, Shuttle.segment?_eq_dock]

theorem Shuttle.mem_doors {v : Shuttle} {r : RoomIx} : r ∈ v.doors ↔ v.roomA = some r ∨ v.roomB = some r := by
  simp [Shuttle.doors]

/-- The zones of the segments of a rail, by position (R136). -/
theorem Shuttle.segment?_zone {v : Shuttle} {p : RailPos} {z : ZoneIx} :
    (∃ g, v.segment? p = some g ∧ z = g.zone) ↔ ((v.dockLow ≤ p ∧ p ≤ v.dockHigh) ∧ z = 0)
      ∨ (p < v.dockLow ∧ ∃ r, v.roomA = some r ∧ z = roomZone r)
      ∨ (v.dockLow ≤ p ∧ v.dockHigh < p ∧ ∃ r, v.roomB = some r ∧ z = roomZone r) := by
  unfold Shuttle.segment?
  by_cases below : p < v.dockLow
  · have apart : ¬v.dockLow ≤ p := not_le.mpr below
    simp [below, apart, Segment.zone]
  · have from_ : v.dockLow ≤ p := not_lt.mp below
    by_cases above : v.dockHigh < p
    · have apart : ¬p ≤ v.dockHigh := not_le.mpr above
      simp [below, from_, above, apart, Segment.zone]
    · have within : p ≤ v.dockHigh := not_lt.mp above
      simp [below, from_, above, within, Segment.zone]

theorem laneOffends_iff (l : LaneIx) : laneOffends s l = true ↔ ∃ u, (s.lane l).loaded = true
    ∧ (s.lane l).rail = some u ∧ ¬((s.shuttle u).loaded = true
      ∧ ((((s.shuttle u).dockLow ≤ (s.lane l).position ∧ (s.lane l).position ≤ (s.shuttle u).dockHigh)
          ∧ (s.lane l).zone = 0)
        ∨ ((s.lane l).position < (s.shuttle u).dockLow
          ∧ ∃ r, (s.shuttle u).roomA = some r ∧ (s.lane l).zone = roomZone r)
        ∨ ((s.shuttle u).dockLow ≤ (s.lane l).position ∧ (s.shuttle u).dockHigh < (s.lane l).position
          ∧ ∃ r, (s.shuttle u).roomB = some r ∧ (s.lane l).zone = roomZone r))) := by
  unfold laneOffends
  cases rail : (s.lane l).rail with
  | none => simp [rail]
  | some u =>
    simp only [← Shuttle.segment?_zone]
    cases segment : (s.shuttle u).segment? (s.lane l).position <;>
      simp [rail, segment, or_iff_not_imp_left]

theorem shuttleOffends_iff (u : ShuttleIx) : shuttleOffends s u = true ↔ (s.shuttle u).loaded = true
    ∧ (¬((s.shuttle u).dockLow ≤ (s.shuttle u).homePos ∧ (s.shuttle u).homePos ≤ (s.shuttle u).dockHigh)
      ∨ ¬((s.shuttle u).dockLow ≤ (s.shuttle u).parkPos ∧ (s.shuttle u).parkPos ≤ (s.shuttle u).dockHigh)
      ∨ ∃ r, ((s.shuttle u).roomA = some r ∨ (s.shuttle u).roomB = some r)
        ∧ (s.zone (roomZone r)).inUse ≠ true) := by
  simp only [shuttleOffends, Bool.and_eq_true, Bool.not_eq_true', ← Bool.not_eq_true, not_and_or, Shuttle.onDock_iff,
    or_assoc]
  simp only [List.all_eq_true, Shuttle.mem_doors, not_forall, exists_prop, ne_eq]

/-- A portal index names a dock portal or a room portal. -/
theorem exists_portalOffends {a b : Nat} : (∃ i : Fin 23, a = 5 ∧ b = i.val ∧ portalOffends s i = true)
    ↔ (∃ p : DockIx, a = 5 ∧ b = p.val ∧ portalOffends s ⟨p.val, by omega⟩ = true)
      ∨ ∃ r : RoomIx, a = 5 ∧ b = 16 + r.val ∧ portalOffends s ⟨16 + r.val, by omega⟩ = true := by
  constructor
  · rintro ⟨i, table, index, offends⟩
    by_cases dock : i.val < 16
    · exact .inl ⟨⟨i.val, dock⟩, table, index, offends⟩
    · have room : 16 + (i.val - 16) = i.val := by omega
      refine .inr ⟨⟨i.val - 16, by omega⟩, table, index.trans room.symm, ?_⟩
      simpa only [room] using offends
  · rintro (⟨p, table, index, offends⟩ | ⟨r, table, index, offends⟩)
    · exact ⟨_, table, index, offends⟩
    · exact ⟨_, table, index, offends⟩

end

/-! ## Activation (R174, R177) -/

section
variable {s : State} {q : Sender}

theorem exec_activate (from_ : FromManager q s) (config : s.mode = .config) :
    exec (.activate q) s = .next ((activateDecision s).answer q s) :=
  congrArg _ (takeRequest_of_admitted from_.2 from_.admits (by rw [config]; rfl))

theorem activateDecision_of_some {a b : Nat} (first : firstOffence s = some (a, b)) :
    activateDecision s = .invalid a b := by
  rw [activateDecision, first]

theorem activateDecision_of_none (nobody : firstOffence s = none) :
    activateDecision s = .accepted [] (activated s) := by
  rw [activateDecision, nobody]

end

theorem Pallet.heldNow_eq (p : Pallet) :
    p.heldNow = { p with status := if p.status = .carried then .held else p.status } := by
  unfold Pallet.heldNow
  split <;> rfl

/-- Settles O37: the first failing check of Table 11-5, or the activation values of every unit. -/
theorem activationStartsEveryUnit : Obligations.ActivationStartsEveryUnit := by
  intro s q from_ config used dockLane before onDock fails
  have fails_iff (a b : Nat) : fails a b ↔ Offends s a b := by
    have counted (i : ProbeIx) : before i = earlierProbes s i := (earlierProbes_eq i).symm
    have at_ {A B : Prop} (same : A ↔ B) {n m : Nat} : (a = n ∧ b = m ∧ A) ↔ (a = n ∧ b = m ∧ B) :=
      and_congr_right' (and_congr_right' same)
    unfold Offends
    rw [exists_portalOffends, or_assoc]
    refine or_congr (exists_congr fun i => at_ ?_) (or_congr (exists_congr fun z => at_ (zoneOffends_iff z).symm)
      (or_congr (exists_congr fun p => at_ (portalOffends_dock p _).symm)
        (or_congr (exists_congr fun r => at_ (portalOffends_room r _).symm)
          (or_congr (exists_congr fun c => at_ (coilOffends_iff c).symm)
            (or_congr (exists_congr fun l => ?_) (exists_congr fun u => at_ (shuttleOffends_iff u).symm))))))
    · rw [probeOffends_iff, ← counted]
    · rw [laneOffends_iff]
      exact exists_and_left.trans (and_congr_right' exists_and_left)
  have finds := firstOffence_findsLeast s
  refine ⟨fun table index failing first => ?_, fun sound => ?_⟩
  · have found : firstOffence s = some (table, index) :=
      finds.least table index ((fails_iff table index).mp failing) fun c d also => first c d ((fails_iff c d).mpr also)
    rw [exec_activate from_ config, activateDecision_of_some found]
    rfl
  · have nobody : firstOffence s = none := finds.none fun a b offends => sound a b ((fails_iff a b).mpr offends)
    refine ⟨activated s, ?_, rfl, fun i => tget_tmap .., fun z => tget_tmap .., fun p => tget_tmap ..,
      fun r => tget_tmap .., fun c => ?_, fun l => tget_tmap .., fun i => ?_, fun u => tget_tmap ..⟩
    · rw [exec_activate from_ config, activateDecision_of_none nobody]
      rfl
    · have coil : (activated s).coil c = (s.coil c).activated := tget_tmap ..
      rw [coil, Coil.activated, Nat.mul_comm]
    · have pallet : (activated s).pallet i = (s.pallet i).map Pallet.heldNow := tget_tmap ..
      rw [pallet]
      exact congrArg (Option.map · _) (funext Pallet.heldNow_eq)

end Sys2Proof.Machine
end

section
/-! SUPPORT. Samples of a probe (R53 to R61, R98): the record that a sample leaves, the zone's value, and what a coil
does with a temperature that is new or changed, with the statement O22. -/

namespace Sys2Proof.Machine

/-! ## The sample's frame (R18 to R21) -/

section
variable {s : State} {h : Header} {channel flags : Byte} {value : Half} {extra : List Byte} {e : Fin 128} {b : Bound}
  {d : Delivery}

theorem readSample_bytes (channel flags : Byte) (value : Half) (extra : List Byte) :
    readSample ([channel] ++ halfBytes value ++ [flags] ++ extra) = some (.sample value.toInt) := by
  have bytes := half_halfBytes value
  simp only [halfBytes, be2, List.cons_append, List.nil_append, readSample, bytes]

/-- A SAMPLE reaches the object that its entry binds (R18 to R22). -/
theorem exec_sample (bound : BoundUp s h 0x10#8 (4 + extra.length) e b) (binds : bindUp 0x10#8 b = .delivered d)
    (reads : ∀ l, d.read? l = readSample l) (service : d.inService (countHit e s) = true) :
    exec (.sample h channel value flags extra) s
      = .next (forwardUp e (headerFrame h 0x10#8 ([channel] ++ halfBytes value ++ [flags] ++ extra))
          (d.deliver (.sample value.toInt) (countHit e s))) := by
  have length : ([channel] ++ halfBytes value ++ [flags] ++ extra).length = 4 + extra.length := by
    simp only [halfBytes, be2, List.length_append, List.length_cons, List.length_nil]
  have long : ((countHit e s).entry e).tooLong
      (headerFrame h 0x10#8 ([channel] ++ halfBytes value ++ [flags] ++ extra)) = false := by
    rw [countHit_tooLong]
    exact ClassEntry.tooLong_eq_false (by rw [headerFrame, length]; exact bound.admitted)
  have object : bindUp 0x10#8 ((countHit e s).entry e).object = .delivered d := by
    rw [countHit_object, bound.object, binds]
  rw [exec_arrivesUp (.inl rfl) bound.active bound.dest (length.le.trans bound.fits),
    classifyUp_of_matched bound.active bound.matched]
  exact congrArg _ (matchedUp_of_read long object ((reads _).trans (readSample_bytes ..)) service)

end

/-! ## The record that a sample leaves (R53, R54, R56) -/

section
variable {s t : State} {p : ProbeIx} {x : Int}

theorem inTempRange_iff : inTempRange x = true ↔ -880 ≤ x ∧ x ≤ 2000 := by
  rw [inTempRange, Bool.and_eq_true, decide_eq_true_eq, decide_eq_true_eq]
  rfl

/-- The probe enters FAULT or OVER_RANGE by a sample (R53, R54). -/
def Probe.alarms (k : Probe) (x : Int) : Bool :=
  if x = -32768 then k.state != .fault else !inTempRange (x + k.offset) && k.state != .overRange

theorem Probe.alarms_iff {k : Probe} : k.alarms x = true ↔ (x = -32768 ∧ k.state ≠ .fault)
    ∨ (x ≠ -32768 ∧ ¬(-880 ≤ x + k.offset ∧ x + k.offset ≤ 2000) ∧ k.state ≠ .overRange) := by
  unfold Probe.alarms
  split
  · next fault => simp [fault]
  · next real => simp [real, ← Bool.not_eq_true, inTempRange_iff]

/-- The record of a probe that has heard a sample. -/
def Probe.heard (k : Probe) (x : Int) (now : Quad) : Probe :=
  if x = -32768 then k.faulted now else k.sampled x now

theorem Probe.heard_fixed (k : Probe) (x : Int) (now : Quad) :
    (k.heard x now).loaded = k.loaded ∧ (k.heard x now).binding = k.binding := by
  unfold Probe.heard
  split <;> exact ⟨rfl, rfl⟩

/-- The filter, as R54 and R56 give it: calibrated without wrap, clamped, the quotient rounded toward zero. -/
theorem Probe.heard_eq (k : Probe) (x : Int) (now : Quad) : k.heard x now =
    if x = -32768 then { k with state := .fault, lastSample := some now, staleTimer := some k.timeout }
    else
      { k with
        state := if -880 ≤ x + k.offset ∧ x + k.offset ≤ 2000 then .valid else .overRange
        filtered :=
          if k.state = .valid ∨ k.state = .overRange then
            k.filtered + (16 * max (-880) (min 2000 (x + k.offset)) - k.filtered).tdiv (2 ^ k.shift)
          else 16 * max (-880) (min 2000 (x + k.offset))
        lastSample := some now
        staleTimer := some k.timeout } := by
  have clamped : clampTemp (x + k.offset) * 16 = 16 * max (-880) (min 2000 (x + k.offset)) := Int.mul_comm ..
  simp only [Probe.heard, Probe.faulted, Probe.sampled, filterStep, clamped, inTempRange_iff, ProbeState.usable_iff]

/-- The probe's new record, and PROBE_FAULT when it enters FAULT or OVER_RANGE. -/
def sampleTold (p : ProbeIx) (x : Int) (s : State) : State :=
  let taken : State := { s with probes := tset s.probes p ((s.probe p).heard x s.count) }
  if (s.probe p).alarms x then raiseNotice .probeFault (.probe p) (BitVec.ofInt 32 x) taken else taken

theorem sampleTold_units : SameUnits { s with probes := tset s.probes p ((s.probe p).heard x s.count) }
    (sampleTold p x s) := by
  unfold sampleTold
  dsimp only
  split
  · exact (portOp_raiseNotice ..).units _
  · exact SameUnits.refl _

theorem sampleTold_probe (p : ProbeIx) (x : Int) (s : State) :
    (sampleTold p x s).probe p = (s.probe p).heard x s.count := by
  rw [State.probe, sampleTold_units.probes]
  exact tget_tset_self ..

theorem probeSample_eq (p : ProbeIx) (x : Int) (s : State) : probeSample p x s = passProbe p (sampleTold p x s) := by
  unfold probeSample sampleTold Probe.alarms Probe.heard
  by_cases fault : x = Config.faultCode
  · have code : x = -32768 := fault
    simp only [if_pos fault, if_pos code]
    by_cases already : (s.probe p).state = .fault
    · rw [if_pos already, if_neg (by simp [already])]
      rfl
    · rw [if_neg already, if_pos (by simpa using already)]
      rfl
  · have code : ¬x = -32768 := fault
    simp only [if_neg fault, if_neg code]
    rfl

end

/-! ## The zone's value (R60, R61) -/

section
variable {s t : State} {z : ZoneIx}

theorem foldl_max_eq {l : List Int} {x m : Int} (mem : m ∈ x :: l) (top : ∀ y ∈ x :: l, y ≤ m) : l.foldl max x = m := by
  induction l generalizing x with
  | nil => exact (List.mem_singleton.mp mem).symm
  | cons y l ih =>
    have first : x ≤ m := top x (by simp)
    have second : y ≤ m := top y (by simp)
    refine ih ?_ fun w at_ => ?_
    · rcases List.mem_cons.mp mem with same | later
      · exact List.mem_cons.mpr (.inl (le_antisymm (same ▸ le_max_left x y) (max_le first second)))
      · rcases List.mem_cons.mp later with same | deeper
        · exact List.mem_cons.mpr (.inl (le_antisymm (same ▸ le_max_right x y) (max_le first second)))
        · exact List.mem_cons_of_mem _ deeper
    · rcases List.mem_cons.mp at_ with rfl | deeper
      · exact max_le first second
      · exact top w (by simp [deeper])

theorem largest?_eq_some {l : List Int} {m : Int} (mem : m ∈ l) (top : ∀ y ∈ l, y ≤ m) : largest? l = some m := by
  cases l with
  | nil => cases mem
  | cons x l => exact congrArg some (foldl_max_eq mem top)

theorem mem_usableValues {v : Int} :
    v ∈ usableValues s z ↔ ∃ q, (s.probe q).serves z = true ∧ (s.probe q).filtered = v := by
  simp only [usableValues, List.mem_map, List.mem_filter, Vector.mem_toList_iff, Vector.mem_iff_getElem, State.probe,
    tget, Fin.exists_iff]
  constructor
  · rintro ⟨_, ⟨⟨i, lt, rfl⟩, serves⟩, value⟩
    exact ⟨i, lt, serves, value⟩
  · rintro ⟨i, lt, serves, value⟩
    exact ⟨_, ⟨⟨i, lt, rfl⟩, serves⟩, value⟩

theorem Probe.serves_iff {p : Probe} : p.serves z = true
    ↔ p.loaded = true ∧ p.binding = .zone z ∧ (p.state = .valid ∨ p.state = .overRange) := by
  rw [Probe.serves, Bool.and_eq_true, Bool.and_eq_true, beq_iff_eq, ProbeState.usable_iff, and_assoc]

/-- No probe of the zone is usable (R61). -/
theorem recomputeZone_of_none (nobody : ∀ q, ¬(s.probe q).serves z = true) :
    recomputeZone z s =
      if (s.zone z).status = .valid then
        raiseNotice .zoneStale (.zone z) (BitVec.ofInt 32 (s.zone z).value)
          (s.modZone z fun n => { n with status := .stale })
      else s.modZone z fun n => { n with status := .stale } := by
  have empty : usableValues s z = [] := List.eq_nil_iff_forall_not_mem.mpr fun v mem =>
    have ⟨q, serves, _⟩ := mem_usableValues.mp mem
    nobody q serves
  unfold recomputeZone
  rw [empty]
  rfl

/-- The largest of the zone's usable filtered values, rounded (R60). -/
theorem recomputeZone_of_largest {q : ProbeIx} (serves : (s.probe q).serves z = true)
    (top : ∀ r, (s.probe r).serves z = true → (s.probe r).filtered ≤ (s.probe q).filtered) :
    recomputeZone z s =
      if (s.zone z).status = .stale then
        raiseNotice .zoneRestored (.zone z) (BitVec.ofInt 32 (((s.probe q).filtered + 8) / 16))
          (s.modZone z fun n => { n with value := ((s.probe q).filtered + 8) / 16, status := .valid })
      else s.modZone z fun n => { n with value := ((s.probe q).filtered + 8) / 16, status := .valid } := by
  have largest : largest? (usableValues s z) = some (s.probe q).filtered := by
    refine largest?_eq_some (mem_usableValues.mpr ⟨q, serves, rfl⟩) fun v mem => ?_
    obtain ⟨r, also, rfl⟩ := mem_usableValues.mp mem
    exact top r also
  unfold recomputeZone
  rw [largest]
  rfl

end

/-! ## A coil temperature that is new or changed (R57, R98, R109, R111) -/

section
variable {s t : State} {c : CoilIx} {f : Coil → Coil}

/-- The coil's temperature became usable, or changed while usable (R98). -/
def newTemp (c : CoilIx) (before after : State) : Bool :=
  (coilTemp? after c).isSome && coilTemp? after c != coilTemp? before c

/-- A coil temperature ends the phase: HEAT at or above the terminate temperature, FAN_DELAY at or below the fan
temperature (R109, R111). -/
theorem testPhaseEnd_of_heat (phase : (s.coil c).phase = .heat) :
    testPhaseEnd c s = if heatDone s c then enterDrip c s else (s, false) := by
  rw [testPhaseEnd, phase]

theorem testPhaseEnd_of_fanDelay (phase : (s.coil c).phase = .fanDelay) :
    testPhaseEnd c s = if fanDone s c then endFanDelay c s else (s, false) := by
  rw [testPhaseEnd, phase]

theorem testPhaseEnd_of_other (heat : (s.coil c).phase = .heat → heatDone s c = false)
    (fan : (s.coil c).phase = .fanDelay → fanDone s c = false) : testPhaseEnd c s = (s, false) := by
  unfold testPhaseEnd
  split
  · next phase => rw [heat phase, if_neg Bool.false_ne_true]
  · next phase => rw [fan phase, if_neg Bool.false_ne_true]
  all_goals rfl

end

section
variable {s : State} {c : CoilIx} {st : ProbeState} {v : Int}

/-- A coil that a probe binds takes its temperature from the probe's reading (R57, R98). -/
theorem coilTemp?_of_probe (bound : hasProbe s c = true) :
    coilTemp? s c = if (s.coil c).probeState.usable then (s.coil c).probeValue else none := by
  rw [coilTemp?]
  exact if_pos bound

/-- The coil that has been handed a probe reading. -/
def withReading (c : CoilIx) (st : ProbeState) (v : Int) (s : State) : State :=
  s.modCoil c fun k => { k with probeState := st, probeValue := if st.usable then some v else none }

theorem withReading_coil_self : (withReading c st v s).coil c
    = { s.coil c with probeState := st, probeValue := if st.usable then some v else none } := State.coil_modCoil_self ..

theorem coilTemp?_withReading (bound : hasProbe s c = true) :
    coilTemp? (withReading c st v s) c = if st.usable then some v else none := by
  have still : hasProbe (withReading c st v s) c = true := bound
  rw [coilTemp?_of_probe still, withReading_coil_self]
  split <;> rfl

/-- The reading makes the coil's temperature usable, or changes it (R98). -/
def ReadingNew (s : State) (c : CoilIx) (st : ProbeState) (v : Int) : Prop :=
  st.usable = true ∧ ((s.coil c).probeState.usable ≠ true ∨ (s.coil c).probeValue ≠ some v)

theorem CoilAlone.after_reading (alone : CoilAlone s c) : CoilAlone (withReading c st v s) c := by
  have self := withReading_coil_self (s := s) (c := c) (st := st) (v := v)
  exact alone.of_kept (fun d other => State.coil_modCoil_ne _ _ _ other.symm) (by rw [self]) (by rw [self])
    (by rw [self]) (by rw [self])

theorem withReading_zone : ((withReading c st v s).coil c).zone = (s.coil c).zone := by
  rw [withReading_coil_self]

section
variable (bound : hasProbe s c = true)
include bound

theorem newTemp_withReading : newTemp c s (withReading c st v s) = true ↔ ReadingNew s c st v := by
  rw [newTemp, coilTemp?_withReading bound, coilTemp?_of_probe bound, ReadingNew]
  cases st.usable with
  | false => simp
  | true =>
    cases (s.coil c).probeState.usable with
    | false => simp
    | true => simpa using ne_comm

/-- A reading that is new is tested against the end of the coil's phase (R98, R109, R111). -/
theorem handProbeReading_of_new (new : ReadingNew s c st v) :
    handProbeReading c st (if st.usable then some v else none) s
      = thenSelect (s.coil c).zone (testPhaseEnd c (withReading c st v s)) := by
  rw [← withReading_zone (s := s) (st := st) (v := v)]
  exact if_pos ((newTemp_withReading bound).mpr new)

theorem handProbeReading_of_old (old : ¬ReadingNew s c st v) :
    handProbeReading c st (if st.usable then some v else none) s = withReading c st v s :=
  if_neg fun new => old ((newTemp_withReading bound).mp new)

theorem heatDone_withReading (new : ReadingNew s c st v) :
    heatDone (withReading c st v s) c = decide ((s.coil c).terminate ≤ v) := by
  rw [heatDone_eq, coilTemp?_withReading bound, if_pos new.1, withReading_coil_self]
  rfl

theorem fanDone_withReading (new : ReadingNew s c st v) :
    fanDone (withReading c st v s) c = decide (v ≤ (s.coil c).fanTemp) := by
  rw [fanDone_eq, coilTemp?_withReading bound, if_pos new.1, withReading_coil_self]
  rfl

/-- A reading that ends no phase changes the coil's reading alone (R57). -/
theorem handProbeReading_of_quiet
    (heat : ReadingNew s c st v → (s.coil c).phase = .heat → ¬(s.coil c).terminate ≤ v)
    (fan : ReadingNew s c st v → (s.coil c).phase = .fanDelay → ¬v ≤ (s.coil c).fanTemp) :
    handProbeReading c st (if st.usable then some v else none) s = withReading c st v s := by
  by_cases new : ReadingNew s c st v
  · rw [handProbeReading_of_new bound new, testPhaseEnd_of_other, (course_of_lasting ..).thenSelect]
    · intro phase
      rw [withReading_coil_self] at phase
      rw [heatDone_withReading bound new]
      exact decide_eq_false (heat new phase)
    · intro phase
      rw [withReading_coil_self] at phase
      rw [fanDone_withReading bound new]
      exact decide_eq_false (fan new phase)
  · exact handProbeReading_of_old bound new

/-- HEAT ends at or above the terminate temperature (R109). -/
theorem handProbeReading_of_heated (new : ReadingNew s c st v) (phase : (s.coil c).phase = .heat)
    (above : (s.coil c).terminate ≤ v) : handProbeReading c st (if st.usable then some v else none) s
      = thenSelect (s.coil c).zone (enterDrip c (withReading c st v s)) := by
  rw [handProbeReading_of_new bound new, testPhaseEnd_of_heat (by rw [withReading_coil_self]; exact phase),
    heatDone_withReading bound new, if_pos (decide_eq_true above)]

/-- FAN_DELAY ends at or below the fan temperature (R111). -/
theorem handProbeReading_of_cooled (new : ReadingNew s c st v) (phase : (s.coil c).phase = .fanDelay)
    (below : v ≤ (s.coil c).fanTemp) : handProbeReading c st (if st.usable then some v else none) s
      = thenSelect (s.coil c).zone (endFanDelay c (withReading c st v s)) := by
  rw [handProbeReading_of_new bound new, testPhaseEnd_of_fanDelay (by rw [withReading_coil_self]; exact phase),
    fanDone_withReading bound new, if_pos (decide_eq_true below)]

end

end

/-- Settles O22: the record a sample leaves, and what its zone or its coil makes of it. -/
theorem samplesUpdateTheirProbe : Obligations.SamplesUpdateTheirProbe := by
  intro s h channel value flags extra e p bound loaded f answers old x c inRange target new enters taken told
  have new_eq : new = old.heard x s.count := (Probe.heard_eq old x s.count).symm
  have taken_eq : taken = { countHit e s with
      probes := tset (countHit e s).probes p (((countHit e s).probe p).heard x (countHit e s).count) } := by
    show ({ countHit e s with probes := tset s.probes p new } : State) = _
    rw [new_eq]
    rfl
  have told_eq : told = sampleTold p x (countHit e s) := by
    show (if enters then raiseNotice .probeFault (.probe p) (BitVec.ofInt 32 x) taken else taken) = _
    rw [taken_eq]
    exact if_congr Probe.alarms_iff.symm rfl rfl
  have units : SameUnits taken told := by
    rw [told_eq, taken_eq]
    exact sampleTold_units
  have run {t : State} (is : passProbe p told = t) : answers t := by
    show exec (.sample h channel value flags extra) s = _
    rw [exec_sample bound (d := .sampleProbe p) rfl (fun _ => rfl) loaded, ← is, told_eq, ← probeSample_eq]
    rfl
  have self : told.probe p = new := by
    rw [told_eq, sampleTold_probe, new_eq]
    rfl
  constructor
  · intro z binding n serves stale
    have boundTo : (told.probe p).binding = .zone z := by
      rw [self, new_eq, (Probe.heard_fixed ..).2]
      exact binding
    have probe (q : ProbeIx) : told.probe q = taken.probe q := congrArg (tget · q) units.probes
    have serves_iff (q : ProbeIx) : (told.probe q).serves z = true ↔ serves q := by
      rw [probe, Probe.serves_iff]
    have zone : told.zone z = n := congrArg (tget · z) units.zones
    have record (g : Zone → Zone) : told.modZone z g = { told with zones := tset s.zones z (g n) } := by
      rw [State.modZone, tmod, units.zones]
      rfl
    have value : (told.zone z).value = n.value := congrArg Zone.value zone
    refine ⟨fun nobody status => ?_, fun nobody status => ?_, fun q served top => ?_⟩
    · refine run ((passProbe_of_zone boundTo).trans ?_)
      rw [recomputeZone_of_none fun q serves => nobody q ((serves_iff q).mp serves), zone, status, record]
      rfl
    · refine run ((passProbe_of_zone boundTo).trans ?_)
      rw [recomputeZone_of_none fun q serves => nobody q ((serves_iff q).mp serves), zone, status, record]
      rfl
    · have largest := recomputeZone_of_largest ((serves_iff q).mpr served) fun r also => by
        rw [probe, probe]
        exact top r ((serves_iff r).mp also)
      have passed := (passProbe_of_zone boundTo).trans largest
      rw [zone, record, probe] at passed
      refine ⟨fun status => run ?_, fun status => run ?_⟩
      · rw [passed, status]
        rfl
      · rw [passed, status]
        rfl
  · intro k binding v usable read changed heated cooled
    have boundTo : (told.probe p).binding = .coil k := by
      rw [self, new_eq, (Probe.heard_fixed ..).2]
      exact binding
    have coil : told.coil k = s.coil k := congrArg (tget · k) units.coils
    have read_eq : withReading k new.state v told = read := by
      simp only [withReading, State.modCoil, tmod, units.coils, ProbeState.usable_iff]
      rfl
    have handed : passProbe p told
        = handProbeReading k new.state (if new.state.usable then some v else none) told := by
      rw [passProbe_of_coil boundTo, self]
      rfl
    have linked : hasProbe told k = true := hasProbe_iff.mpr ⟨p, by
      rw [self, new_eq, (Probe.heard_fixed ..).1]
      exact ⟨loaded, (Probe.heard_fixed ..).2.trans binding⟩⟩
    have changed_iff : ReadingNew told k new.state v ↔ changed := by
      rw [ReadingNew, coil, Ne, ProbeState.usable_iff, ProbeState.usable_iff]
    have apart (alone : CoilAlone s k) : CoilAlone read k :=
      read_eq ▸ (alone.of_coils units.coils).after_reading
    have zone : (read.coil k).zone = (s.coil k).zone := by rw [← read_eq, withReading_zone, coil]
    refine ⟨fun notHeated notCooled => run ?_, fun ends lasting => run ?_,
      fun alone => ⟨fun ends => run ?_, fun rooms released ends => run ?_⟩⟩
    · refine handed.trans ((handProbeReading_of_quiet linked ?_ ?_).trans read_eq)
      · rw [coil]
        exact fun now phase above => notHeated ⟨changed_iff.mp now, phase, above⟩
      · rw [coil]
        exact fun now phase below => notCooled ⟨changed_iff.mp now, phase, below⟩
    · obtain ⟨now, phase, above⟩ := ends
      have drips : (read.coil k).drip = (s.coil k).drip := by rw [← read_eq, withReading_coil_self, coil]
      rw [handed, handProbeReading_of_heated linked (changed_iff.mpr now) (coil.symm ▸ phase) (coil.symm ▸ above), coil,
        read_eq, enterDrip_of_lasting (drips.symm ▸ lasting), (course_of_lasting ..).thenSelect, drips]
    · obtain ⟨now, phase, below⟩ := ends
      rw [handed, handProbeReading_of_cooled linked (changed_iff.mpr now) (coil.symm ▸ phase) (coil.symm ▸ below), coil,
        read_eq, endFanDelay_of_alone (apart alone)]
      exact Course.thenSelect ⟨rfl, fun _ => zone ▸ (apart alone).completesAlone_atRest⟩
    · obtain ⟨now, phase, above⟩ := ends
      have course := dripsAlone_course (apart alone) (zone.symm ▸ released.of_rooms units.rooms)
      rw [zone] at course
      rw [handed, handProbeReading_of_heated linked (changed_iff.mpr now) (coil.symm ▸ phase) (coil.symm ▸ above), coil,
        read_eq, course.thenSelect]

end Sys2Proof.Machine
end
